-- ==== Sys2Proof/Word.lean ====
section
/-! DEFINITION. The words of the links and of the address spaces. -/

namespace Sys2Proof

/-- A byte of a packet (R169). -/
abbrev Byte := BitVec 8

/-- An address in a domain's or a target port's address space (R1). -/
abbrev Addr := BitVec 32

/-- A size in units of 16 bytes (R22, R40): the value 0 is read as 2^28 units. -/
abbrev Size := BitVec 28

/-- A generation or a sequence number (R20, R129). -/
abbrev Half := BitVec 16

end Sys2Proof
end

