-- ==== Sys2Proof/Syntax.lean ====
section
/-! DEFINITION. The commands of the gate: one constructor for each row of spec/opcode_table.json, and the packets they carry. -/

namespace Sys2Proof

/-- The three software domains (scope, "Terms"). -/
inductive Domain where
  | app | pay | rad
  deriving DecidableEq, Repr

/-- The seven link ports, in the order of their indices 0 to 6 (scope, "Ports and domains"). -/
inductive Port where
  | A | P | M | K | D | C | S
  deriving DecidableEq, Repr

/-- The three request kinds (R1). -/
inductive Kind where
  | read | write | post
  deriving DecidableEq, Repr

/-- A MANAGE packet less its kind and command code (R169): management tag, the parameter length of its header, and the
parameter bytes it carries. -/
structure MgmtPacket where
  tag      : Fin 4
  declared : Byte
  params   : List Byte
  deriving DecidableEq, Repr

/-- An arriving packet (R1, R169). -/
inductive Packet where
  /-- READ, WRITE or POST: tag, length code, address, payload carried. -/
  | request (kind : Kind) (tag : Fin 32) (lengthCode : Byte) (addr : Addr) (payload : List Byte)
  /-- COMPLETION from a target: target tag, status, payload-present mark, length code, payload carried. -/
  | completion (tag : Fin 16) (status : Byte) (present : Bool) (lengthCode : Byte) (payload : List Byte)
  /-- EVENT: source and gap flag as they arrive (both replaced, R3), event code, payload length of the header, payload. -/
  | event (source code : Byte) (gap : Bool) (declared : Byte) (payload : List Byte)
  /-- MANAGE with its command code. -/
  | manage (code : Byte) (body : MgmtPacket)
  /-- MANAGE_REPLY, which no port accepts (R2). -/
  | manageReply (rest : List Byte)
  /-- A packet whose kind code is none of the seven (R1). -/
  | unknown (kind : Byte) (rest : List Byte)
  deriving DecidableEq, Repr

/-- The commands: one constructor per row of spec/opcode_table.json, in the table's order. A packet-taking command
carries its arrival port and the packet; an event of the block names the port, tag, unit or meter it happens at. -/
inductive Instr where
  | powerOn
  | resetLine
  | linkEstablished (p : Port)
  | linkLost (p : Port)
  | holdExpiry (p : Port)
  | requestTaken (p : Port) (kind : Kind) (tag : Fin 32) (lengthCode : Byte) (addr : Addr) (payload : List Byte)
  | releaseTime (n : Fin 16)
  | arbiterGrant (p : Port)
  | pieceLeaves (p : Port)
  | completionLeaves (p : Port)
  | replyLeaves (p : Port)
  | eventLeaves (p : Port)
  | noticeLeaves (p : Port)
  | completionTaken (p : Port) (tag : Fin 16) (status : Byte) (present : Bool) (lengthCode : Byte) (payload : List Byte)
  | completionDeadline (p : Port) (tag : Fin 16)
  | scrubStepDeadline (u : Fin 8)
  | drainEnd (u : Fin 8)
  | drainDeadline (u : Fin 8)
  | settleExpiry (u : Fin 8)
  | eventTaken (p : Port) (source code : Byte) (gap : Bool) (declared : Byte) (payload : List Byte)
  | validationEnd
  | unknownCommand (p : Port) (code : Byte) (m : MgmtPacket)
  | status (p : Port) (m : MgmtPacket)
  | timeRead (p : Port) (m : MgmtPacket)
  | faultFetch (p : Port) (m : MgmtPacket)
  | flagsTake (p : Port) (m : MgmtPacket)
  | scoreRead (p : Port) (m : MgmtPacket)
  | tableClone (p : Port) (m : MgmtPacket)
  | entryWrite (p : Port) (m : MgmtPacket)
  | entryRead (p : Port) (m : MgmtPacket)
  | tableCommit (p : Port) (m : MgmtPacket)
  | entryPin (p : Port) (m : MgmtPacket)
  | unitDefine (p : Port) (m : MgmtPacket)
  | custodyTake (p : Port) (m : MgmtPacket)
  | custodyReturn (p : Port) (m : MgmtPacket)
  | unitRead (p : Port) (m : MgmtPacket)
  | meterSet (p : Port) (m : MgmtPacket)
  | meterRead (p : Port) (m : MgmtPacket)
  | faultControl (p : Port) (m : MgmtPacket)
  | scoreControl (p : Port) (m : MgmtPacket)
  | pardon (p : Port) (m : MgmtPacket)
  | quarantine (p : Port) (m : MgmtPacket)
  | domainSet (p : Port) (m : MgmtPacket)
  | portSet (p : Port) (m : MgmtPacket)
  | portReset (p : Port) (m : MgmtPacket)
  | gateReset (p : Port) (m : MgmtPacket)
  | malformedPacketTaken (p : Port) (pkt : Packet)
  | gateTimeLargestValue
  deriving DecidableEq, Repr

end Sys2Proof
end

