-- ==== Sys2Proof/WellFormed.lean ====
section
/-! DEFINITION. Which commands are instances of their rows: a row that names one sort of packet may not carry another. -/

namespace Sys2Proof

/-- The command codes of R174. -/
def commandCodes : List Byte :=
  [0x01, 0x02, 0x03, 0x04, 0x05, 0x10, 0x11, 0x12, 0x13, 0x14, 0x20, 0x21, 0x22, 0x23, 0x30, 0x31, 0x40, 0x41, 0x42, 0x43,
   0x44, 0x50, 0x51, 0x52]

/-- The packet kind codes of R169. -/
def packetKinds : List Byte := [0x21, 0x22, 0x23, 0x24, 0x25, 0x26, 0x27]

/-- The ports whose links carry requests and commands: A, P and M (scope, "Ports and domains"). -/
def Port.initiator : Port → Bool
  | .A | .P | .M => true
  | .K | .D | .C | .S => false

/-- The ports that send events: K, D and C (R2). -/
def Port.sendsEvents : Port → Bool
  | .K | .D | .C => true
  | .A | .P | .M | .S => false

/-- A packet that no other row's own kind and port cover (the table's MALFORMED_PACKET_TAKEN row; R2, R8). A MANAGE may be
one on any port, since its tag may be in use. -/
def Packet.uncovered (p : Port) : Packet → Bool
  | .request .. => !p.initiator
  | .completion .. => false
  | .event .. => !p.sendsEvents
  | .manage .. => true
  | .manageReply _ => true
  | .unknown kind _ => !packetKinds.contains kind

/-- A command is well-formed when it is an instance of its row: UNKNOWN_COMMAND carries a code that is not in R174's
table, MALFORMED_PACKET_TAKEN a packet no other row covers. Every other operand is legal at every value. -/
def Instr.wellFormed : Instr → Bool
  | .unknownCommand _ code _ => !commandCodes.contains code
  | .malformedPacketTaken p pkt => pkt.uncovered p
  | .powerOn => true
  | .resetLine => true
  | .linkEstablished _ => true
  | .linkLost _ => true
  | .holdExpiry _ => true
  | .requestTaken _ _ _ _ _ _ => true
  | .releaseTime _ => true
  | .arbiterGrant _ => true
  | .pieceLeaves _ => true
  | .completionLeaves _ => true
  | .replyLeaves _ => true
  | .eventLeaves _ => true
  | .noticeLeaves _ => true
  | .completionTaken _ _ _ _ _ _ => true
  | .completionDeadline _ _ => true
  | .scrubStepDeadline _ => true
  | .drainEnd _ => true
  | .drainDeadline _ => true
  | .settleExpiry _ => true
  | .eventTaken _ _ _ _ _ _ => true
  | .validationEnd => true
  | .status _ _ => true
  | .timeRead _ _ => true
  | .faultFetch _ _ => true
  | .flagsTake _ _ => true
  | .scoreRead _ _ => true
  | .tableClone _ _ => true
  | .entryWrite _ _ => true
  | .entryRead _ _ => true
  | .tableCommit _ _ => true
  | .entryPin _ _ => true
  | .unitDefine _ _ => true
  | .custodyTake _ _ => true
  | .custodyReturn _ _ => true
  | .unitRead _ _ => true
  | .meterSet _ _ => true
  | .meterRead _ _ => true
  | .faultControl _ _ => true
  | .scoreControl _ _ => true
  | .pardon _ _ => true
  | .quarantine _ _ => true
  | .domainSet _ _ => true
  | .portSet _ _ => true
  | .portReset _ _ => true
  | .gateReset _ _ => true
  | .gateTimeLargestValue => true

end Sys2Proof
end

