-- ==== Sys2Proof/Decode.lean ====
section
/-! DEFINITION. The words of the table (no row has bits), and how the packets at the links spell commands (R169, R174). -/

namespace Sys2Proof

/-- The command a table word spells. No row of spec/opcode_table.json gives bits, so no word spells one. -/
def decodeTableWord (_nbits _w : Nat) : Option Instr := none

/-- A four-byte field, least significant byte first (R168). -/
def addrOfBytes (b0 b1 b2 b3 : Byte) : Addr := b3 ++ b2 ++ b1 ++ b0

/-- The low five bits of an initiator tag byte (R1, R169; log entry 10). -/
def tag5 (b : Byte) : Fin 32 := Fin.ofNat 32 b.toNat

/-- The low four bits of a target tag byte (R1, R169; log entry 10). -/
def tag4 (b : Byte) : Fin 16 := Fin.ofNat 16 b.toNat

/-- The low two bits of a management tag byte (R1, R169; log entry 10). -/
def tag2 (b : Byte) : Fin 4 := Fin.ofNat 4 b.toNat

/-- A READ, WRITE or POST after its kind code (R169). -/
def decodeRequest (kind : Kind) : List Byte → Option Packet
  | t :: l :: a0 :: a1 :: a2 :: a3 :: payload => some (.request kind (tag5 t) l (addrOfBytes a0 a1 a2 a3) payload)
  | _ => none

/-- The packet whose bytes arrive on a link (R169); none where the bytes hold no whole header. -/
def decodePacket : List Byte → Option Packet
  | [] => none
  | kind :: rest =>
    if kind = 0x21 then decodeRequest .read rest
    else if kind = 0x22 then decodeRequest .write rest
    else if kind = 0x23 then decodeRequest .post rest
    else if kind = 0x24 then
      match rest with
      | t :: st :: present :: l :: payload => some (.completion (tag4 t) st (present.getLsbD 0) l payload)
      | _ => none
    else if kind = 0x25 then
      match rest with
      | src :: code :: flags :: l :: payload => some (.event src code (flags.getLsbD 0) l payload)
      | _ => none
    else if kind = 0x26 then
      match rest with
      | t :: code :: l :: params => some (.manage code ⟨tag2 t, l, params⟩)
      | _ => none
    else if kind = 0x27 then some (.manageReply rest)
    else some (.unknown kind rest)

/-- The row that takes a MANAGE packet, by its command code (R174). -/
def commandOfCode (p : Port) (code : Byte) (m : MgmtPacket) : Instr :=
  if code = 0x01 then .status p m else if code = 0x02 then .timeRead p m else if code = 0x03 then .faultFetch p m
  else if code = 0x04 then .flagsTake p m else if code = 0x05 then .scoreRead p m
  else if code = 0x10 then .tableClone p m else if code = 0x11 then .entryWrite p m else if code = 0x12 then .entryRead p m
  else if code = 0x13 then .tableCommit p m else if code = 0x14 then .entryPin p m
  else if code = 0x20 then .unitDefine p m else if code = 0x21 then .custodyTake p m
  else if code = 0x22 then .custodyReturn p m else if code = 0x23 then .unitRead p m
  else if code = 0x30 then .meterSet p m else if code = 0x31 then .meterRead p m
  else if code = 0x40 then .faultControl p m else if code = 0x41 then .scoreControl p m
  else if code = 0x42 then .pardon p m else if code = 0x43 then .quarantine p m else if code = 0x44 then .domainSet p m
  else if code = 0x50 then .portSet p m else if code = 0x51 then .portReset p m else if code = 0x52 then .gateReset p m
  else .unknownCommand p code m

/-- The row that takes a packet arriving on port `p` (R2, R7, R174; 95). -/
def commandOf (p : Port) : Packet → Instr
  | .request kind tag l addr payload =>
    if p.initiator then .requestTaken p kind tag l addr payload else .malformedPacketTaken p (.request kind tag l addr payload)
  | .completion tag st present l payload => .completionTaken p tag st present l payload
  | .event src code gap l payload =>
    if p.sendsEvents then .eventTaken p src code gap l payload else .malformedPacketTaken p (.event src code gap l payload)
  | .manage code m => if p.initiator then commandOfCode p code m else .malformedPacketTaken p (.manage code m)
  | .manageReply rest => .malformedPacketTaken p (.manageReply rest)
  | .unknown kind rest => .malformedPacketTaken p (.unknown kind rest)

end Sys2Proof
end

