-- ==== Sys2Proof/Config.lean ====
section
/-! DEFINITION. The fixed numbers of the part, and its one free value. -/

namespace Sys2Proof.Config

/-- The part code (R162, R173). -/
def partCode : Nat := 0x0340

/-- The revision letter A (R173). -/
def revision : Byte := 0x41

/-- The largest gate time, 2^48 − 1 (R15). -/
def lastTime : Nat := 0xFFFFFFFFFFFF

/-- The hold of a RESETTING port in µs (R10). -/
def holdTime : Nat := 100

/-- The latest end of a validation, in µs after its start (R152). -/
def validationLimit : Nat := 400

/-- The places of an ingress buffer (R6). -/
def ingressPlaces : Nat := 8

/-- The peripheral events that may wait on one port (R9, R117). -/
def eventPlaces : Nat := 8

/-- The POST allowance of an initiator port (R57). -/
def postAllowance : Nat := 16

/-- The most requests on a parked list (R52). -/
def parkedPlaces : Nat := 96

/-- The most requests on a meter's waiting list (R83). -/
def waitingPlaces : Nat := 96

/-- The highest in-flight count of a unit (R49). -/
def inFlightLimit : Nat := 1632

/-- The places of the supervisor queue (R129). -/
def supervisorPlaces : Nat := 32

/-- The places of an own queue (R129). -/
def ownPlaces : Nat := 16

/-- The largest meter rate (R79, R90). -/
def rateLimit : Nat := 65535

/-- The largest meter depth (R79, R90). -/
def depthLimit : Nat := 4095

/-- The largest score (R140). -/
def scoreLimit : Nat := 65535

/-- FREE VALUE (log entry 9): the six bytes by which METER_READ reports a release time beyond 2^48 − 1,
for which the spec states no image. -/
opaque time48Beyond : Nat → BitVec 48

end Sys2Proof.Config
end

