-- ==== Sys2Proof/Machine/State.lean ====
section
/-! DEFINITION. The state of the gate as plain data: every piece of state the spec names, and its value after a reset. -/

namespace Sys2Proof.Machine

/-! ### Families indexed by port, domain and scored domain -/

/-- One value for each link port. -/
structure PerPort (α : Type) where
  a : α
  p : α
  m : α
  k : α
  d : α
  c : α
  s : α
  deriving DecidableEq, Repr

def PerPort.get {α : Type} (v : PerPort α) : Port → α
  | .A => v.a | .P => v.p | .M => v.m | .K => v.k | .D => v.d | .C => v.c | .S => v.s

def PerPort.set {α : Type} (v : PerPort α) (i : Port) (x : α) : PerPort α :=
  match i with
  | .A => { v with a := x } | .P => { v with p := x } | .M => { v with m := x } | .K => { v with k := x }
  | .D => { v with d := x } | .C => { v with c := x } | .S => { v with s := x }

/-- One value for each domain; also for each initiator port, A, P and M being the ports of APP, PAY and RAD. -/
structure PerDomain (α : Type) where
  app : α
  pay : α
  rad : α
  deriving DecidableEq, Repr

def PerDomain.get {α : Type} (v : PerDomain α) : Domain → α
  | .app => v.app | .pay => v.pay | .rad => v.rad

def PerDomain.set {α : Type} (v : PerDomain α) (i : Domain) (x : α) : PerDomain α :=
  match i with
  | .app => { v with app := x } | .pay => { v with pay := x } | .rad => { v with rad := x }

/-- The domains that have a score, an own queue and a delegation mask: APP and RAD (R125, R129, R138). -/
inductive Scored where
  | app | rad
  deriving DecidableEq, Repr

structure PerScored (α : Type) where
  app : α
  rad : α
  deriving DecidableEq, Repr

def PerScored.get {α : Type} (v : PerScored α) : Scored → α
  | .app => v.app | .rad => v.rad

def PerScored.set {α : Type} (v : PerScored α) (i : Scored) (x : α) : PerScored α :=
  match i with
  | .app => { v with app := x } | .rad => { v with rad := x }

/-! ### Small types -/

/-- Link states (R10). -/
inductive LinkState where
  | down | up | resetting
  deriving DecidableEq, Repr

/-- A time code as stored: a value of 0 to 1023 and a scale of 0 to 3 (R16). -/
structure TimeCode where
  value : Fin 1024
  scale : Fin 4
  deriving DecidableEq, Repr

/-- The burst sizes a port may have (R18). -/
inductive Burst where
  | b16 | b32 | b64 | b128 | b256
  deriving DecidableEq, Repr

/-- A port configuration record (R18). -/
structure PortConfig where
  maxBurst : Burst
  deadline : TimeCode
  span     : BitVec 16
  capacity : BitVec 20
  route    : Option Domain
  deriving DecidableEq, Repr

/-- A denial style (R22, R24, R40). -/
inductive Style where
  | refuse | mask | default
  deriving DecidableEq, Repr

/-- The two styles a domain's default may have (R24). -/
inductive DomainStyle where
  | refuse | mask
  deriving DecidableEq, Repr

/-- The view of an entry (R22). -/
inductive View where
  | normal | quarantine | both
  deriving DecidableEq, Repr

/-- The mode of a domain (R24). -/
inductive Mode where
  | normal | quarantined
  deriving DecidableEq, Repr

structure DomainSet where
  app : Bool
  pay : Bool
  rad : Bool
  deriving DecidableEq, Repr

structure KindSet where
  read  : Bool
  write : Bool
  post  : Bool
  deriving DecidableEq, Repr

/-- A window entry (R22). -/
structure Entry where
  valid   : Bool
  domains : DomainSet
  view    : View
  base    : Addr
  size    : Size
  target  : Port
  offset  : Addr
  kinds   : KindSet
  style   : Style
  meter   : Option (Fin 16)
  unit    : Option (Fin 8)
  pinned  : Bool
  deriving DecidableEq, Repr

/-- The commit record (R151): present exactly while the commit state is VALIDATING. -/
structure Commit where
  tag     : Fin 4
  started : Nat
  deriving DecidableEq, Repr

/-- A domain record (R24). -/
structure DomainRecord where
  mode  : Mode
  style : DomainStyle
  fill  : Byte
  deriving DecidableEq, Repr

/-! ### Requests and pieces -/

/-- A request as it arrived (R25): the arrival port is the port of `dom`; a POST has no tag. -/
structure Arrival where
  dom     : Domain
  tag     : Option (Fin 32)
  kind    : Kind
  addr    : Addr
  len     : Nat
  payload : List Byte
  deriving DecidableEq, Repr

/-- The copy of the matched entry kept by a parked request (R30, R52). -/
structure EntryCopy where
  index  : Nat
  base   : Addr
  target : Port
  offset : Addr
  meter  : Option (Fin 16)
  unit   : Option (Fin 8)
  deriving DecidableEq, Repr

/-- A parked request (R52). -/
structure Parked where
  req   : Arrival
  entry : EntryCopy
  deriving DecidableEq, Repr

/-- The statuses of a resolved piece, in rising severity (R68). -/
inductive PieceStatus where
  | ok | targetError | timeout | cut | linkDown
  deriving DecidableEq, Repr

/-- The states of a piece (R59). -/
inductive PieceState where
  | charging | queued | granted | sent
  | resolved (st : PieceStatus)
  | removed
  deriving DecidableEq, Repr

/-- A piece record (R56). -/
structure Piece where
  num      : Nat
  addr     : Addr
  len      : Nat
  state    : PieceState
  ttag     : Option (Fin 16)
  deadline : Option Nat
  deriving DecidableEq, Repr

/-- A request record (R31, R56). -/
structure Request where
  id          : Nat
  dom         : Domain
  tag         : Option (Fin 32)
  kind        : Kind
  addr        : Addr
  len         : Nat
  target      : Port
  taddr       : Addr
  entry       : Nat
  meter       : Option (Fin 16)
  unit        : Option (Fin 8)
  payload     : List Byte
  burst       : Burst
  deadline    : TimeCode
  pieces      : List Piece
  outstanding : Nat
  worst       : PieceStatus
  readData    : List Byte
  abandoned   : Bool
  deriving DecidableEq, Repr

/-- A piece by its record and number. -/
structure PieceRef where
  req : Nat
  num : Nat
  deriving DecidableEq, Repr

/-! ### Link ports -/

/-- What holds a LIVE tag (R64): a piece, or the scrub step of a unit with whether it has left the link and when its
deadline expires (R67). -/
inductive Holder where
  | piece (r : PieceRef)
  | scrub (u : Fin 8) (sent : Bool) (deadline : Option Nat)
  deriving DecidableEq, Repr

/-- The states of a target tag (R64). -/
inductive TagState where
  | free
  | live (h : Holder)
  | orphaned
  deriving DecidableEq, Repr

/-- A target arbiter: four queues, oldest first, and the turn (R62). The scrub queue names the unit whose step waits. -/
structure Arbiter where
  scrub : List (Fin 8)
  pay   : List PieceRef
  app   : List PieceRef
  rad   : List PieceRef
  turn  : Scored
  deriving DecidableEq, Repr

/-- The statuses of a COMPLETION the part sends (R1, R169). -/
inductive AnswerStatus where
  | ok | denied | targetError | timeout | cut | linkDown
  deriving DecidableEq, Repr

/-- The statuses of a MANAGE_REPLY (R161, R169). -/
inductive ReplyStatus where
  | ok | busy | notPermitted | badParameter | aborted | rejected | failed | unknown
  deriving DecidableEq, Repr

/-- The gate's own events (R120, R121). -/
inductive NoticeKind where
  | fault | custody
  deriving DecidableEq, Repr

/-- A packet in an outbound queue (R9). -/
inductive OutPacket where
  /-- A COMPLETION to an initiator. -/
  | completion (tag : Fin 32) (status : AnswerStatus) (data : List Byte)
  /-- A piece or scrub step, under its target tag. -/
  | request (tag : Fin 16) (kind : Kind) (addr : Addr) (lengthCode : Byte) (payload : List Byte)
  /-- A MANAGE_REPLY. -/
  | reply (tag : Fin 4) (status : ReplyStatus) (result : List Byte)
  /-- A peripheral event. -/
  | event (source code : Byte) (gap : Bool) (payload : List Byte)
  /-- A gate event. -/
  | notice (kind : NoticeKind)
  deriving DecidableEq, Repr

/-- The state of one link port (R6, R9, R10, R18, R62, R64). `established` is the note of a RESETTING port. -/
structure PortState where
  link        : LinkState
  established : Bool
  hold        : Option Nat
  ingress     : List Packet
  outbound    : List OutPacket
  tags        : Vector TagState 16
  arbiter     : Arbiter
  config      : PortConfig
  deriving DecidableEq, Repr

/-- The block that carries a long command (R158). -/
inductive Carrier where
  | commit
  | custody (u : Fin 8)
  | port (p : Port)
  deriving DecidableEq, Repr

/-- A member of the management engine's list of a port (R158). -/
structure Command where
  tag     : Fin 4
  code    : Byte
  discard : Bool
  carrier : Option Carrier
  deriving DecidableEq, Repr

/-- The FAULT_NOTICE place (R114). -/
inductive FaultPlace where
  | empty | waiting
  deriving DecidableEq, Repr

/-- The CUSTODY_NOTICE place (R114). -/
inductive CustodyPlace where
  | empty | held | waiting
  deriving DecidableEq, Repr

/-- What an initiator port keeps besides (R4, R5, R114, R158). The management tags in use are those of the members of
`commands` that are not marked. -/
structure InitState where
  tags          : List (Fin 32)
  commands      : List Command
  gap           : Bool
  eventCount    : Nat
  faultNotice   : FaultPlace
  custodyNotice : CustodyPlace
  deriving DecidableEq, Repr

/-! ### Custody units -/

/-- OPEN or HELD(h): a target, or the field previous (R40). -/
inductive Holding where
  | opened
  | held (h : Domain)
  deriving DecidableEq, Repr

/-- The states of a unit (R46). -/
inductive UnitState where
  | opened
  | held (h : Domain)
  | draining (t : Holding)
  | scrubbing (t : Holding)
  | failed
  deriving DecidableEq, Repr

/-- The starting state of a handover (R94). -/
inductive Resting where
  | opened
  | held (h : Domain)
  | failed
  deriving DecidableEq, Repr

/-- The command that runs a handover (R94). -/
inductive HandoverKind where
  | take | giveBack
  deriving DecidableEq, Repr

/-- A step of a scrub script (R40). -/
structure ScrubStep where
  addr : Addr
  data : List Byte
  deriving DecidableEq, Repr

/-- The working state of a handover (R94). -/
structure Handover where
  op          : Option HandoverKind
  starting    : Resting
  drainTimer  : Option Nat
  scrubPos    : Nat
  settleTimer : Option Nat
  cutCount    : Nat
  deriving DecidableEq, Repr

/-- A custody unit record (R40, R94). -/
structure CustodyUnit where
  port        : Option Port
  start       : Addr
  size        : Size
  events      : Bool
  style       : Style
  drain       : TimeCode
  script      : List ScrubStep
  settle      : TimeCode
  state       : UnitState
  previous    : Holding
  inFlight    : Nat
  parked      : List Parked
  pendingTake : Option (Fin 4)
  hand        : Handover
  deriving DecidableEq, Repr

/-! ### Meters, faults, scores -/

/-- A meter (R79). The waiting list names request records. -/
structure Meter where
  rate    : Nat
  depth   : Nat
  credit  : Nat
  last    : Nat
  waiting : List Nat
  release : Option Nat
  deriving DecidableEq, Repr

/-- The fault classes (R123), in the order of their codes. -/
inductive FaultClass where
  | noWindow | kind | bounds | custody | malformed | mgmtDenied | targetError | timeout | cut | linkDown | orphanLimit
  | scoreAdvisory | quarantined | scrubFailed
  deriving DecidableEq, Repr

/-- The kind a record may carry (R127). -/
inductive FaultKind where
  | read | write | post | manage
  deriving DecidableEq, Repr

/-- A fault as it is handed to the fault unit (R123, R127): class, source port 0 to 7, and the fields the raising rule
names. -/
structure FaultEvent where
  cls     : FaultClass
  srcPort : Byte
  dom     : Option Domain
  tag     : Option Byte
  kind    : Option FaultKind
  addr    : Option Addr
  len     : Option Nat
  entry   : Option Nat
  target  : Option Port
  taddr   : Option Addr
  unit    : Option (Fin 8)
  detail  : Nat
  deriving DecidableEq, Repr

/-- A full record (R127). -/
structure FullRecord where
  seq  : Half
  time : Nat
  ev   : FaultEvent
  deriving DecidableEq, Repr

/-- A reduced record (R128): `cls` is the code written in it. -/
structure ReducedRecord where
  seq     : Half
  time    : Nat
  cls     : Byte
  srcPort : Byte
  tag     : Option Byte
  kind    : Option FaultKind
  addr    : Option Addr
  len     : Option Nat
  deriving DecidableEq, Repr

/-- A fault queue (R129): records oldest first, sequence counter, overrun flag, and whether its notice is ARMED. -/
structure FaultQueue (α : Type) where
  records : List α
  counter : Half
  overrun : Bool
  armed   : Bool
  deriving DecidableEq, Repr

/-- The fault control of a class (R124). -/
structure FaultControl where
  record : Bool
  weight : Byte
  deriving DecidableEq, Repr

/-- The sticky flags of a domain (R135). -/
structure Sticky where
  denied    : Bool
  masked    : Bool
  throttled : Bool
  clamped   : Bool
  cut       : Bool
  timeout   : Bool
  deriving DecidableEq, Repr

/-- A score record (R138). -/
structure ScoreRecord where
  score       : Nat
  advisory    : Half
  quarantine  : Half
  decayAmount : Byte
  interval    : TimeCode
  lastDecay   : Nat
  armed       : Bool
  deriving DecidableEq, Repr

/-- The recorded causes of a reset (R167). -/
inductive ResetCause where
  | powerOn | line | command
  deriving DecidableEq, Repr

/-! ### The state -/

/-- The whole state of the gate. Two fields are the model's own and stand for the outside: `pending`, the commands that wait, first in
first out (log entry 1), and `wire`, the packets that each link's sender holds, the next one first (R6; log entry 13). -/
structure State where
  gateTime    : Nat
  resetCause  : ResetCause
  ports       : PerPort PortState
  inits       : PerDomain InitState
  active      : Vector Entry 96
  pendingBank : Vector Entry 96
  generation  : Half
  commit      : Option Commit
  domains     : PerDomain DomainRecord
  units       : Vector CustodyUnit 8
  requests    : List Request
  meters      : Vector Meter 16
  controls    : Vector FaultControl 14
  masks       : PerScored (Vector Bool 14)
  supQ        : FaultQueue FullRecord
  ownQ        : PerScored (FaultQueue ReducedRecord)
  flags       : PerDomain Sticky
  scores      : PerScored ScoreRecord
  pending     : List Instr
  wire        : PerPort (List Packet)
  deriving DecidableEq, Repr

/-- Why a step may stop. No command of the gate stops it: the spec gives every row an effect in every state, so there
is no constructor. -/
inductive Fault : Type
  deriving DecidableEq, Repr

/-- Why a command may be refused a meaning. -/
inductive Refusal where
  /-- Raised by exec's arm for a row that has no meaning yet; safe. No arm of this model raises it. -/
  | notModelled (mnemonic : String)
  deriving DecidableEq, Repr

/-! ### Values after a reset of the part -/

/-- The time code of value 0, scale 0 (R41, R138). -/
def TimeCode.zero : TimeCode := ⟨0, 0⟩

/-- The reset image of a window entry (R21). -/
def Entry.reset : Entry :=
  { valid := false, domains := ⟨false, false, false⟩, view := .normal, base := 0, size := 0, target := .A, offset := 0,
    kinds := ⟨false, false, false⟩, style := .default, meter := none, unit := none, pinned := false }

/-- The port configuration record after a reset (R18). -/
def PortConfig.reset (burst : Burst) (route : Option Domain) : PortConfig :=
  { maxBurst := burst, deadline := ⟨100, 1⟩, span := 0, capacity := 0, route := route }

/-- A link port after a reset (R14, R62). -/
def PortState.reset (burst : Burst) (route : Option Domain) : PortState :=
  { link := .down, established := false, hold := none, ingress := [], outbound := [], tags := Vector.replicate 16 .free,
    arbiter := ⟨[], [], [], [], .app⟩, config := PortConfig.reset burst route }

/-- An initiator port's own state after a reset (R14, R114, R158). -/
def InitState.reset : InitState :=
  { tags := [], commands := [], gap := false, eventCount := 0, faultNotice := .empty, custodyNotice := .empty }

/-- No handover runs (R94). -/
def Handover.idle : Handover :=
  { op := none, starting := .opened, drainTimer := none, scrubPos := 0, settleTimer := none, cutCount := 0 }

/-- A custody unit after a reset (R41). -/
def CustodyUnit.reset : CustodyUnit :=
  { port := none, start := 0, size := 0, events := false, style := .default, drain := TimeCode.zero, script := [],
    settle := TimeCode.zero, state := .opened, previous := .opened, inFlight := 0, parked := [], pendingTake := none,
    hand := Handover.idle }

/-- A meter after a reset (R79). -/
def Meter.reset : Meter := { rate := 0, depth := 1, credit := 0, last := 0, waiting := [], release := none }

/-- The fault controls after a reset (R124), in class order. -/
def resetControls : Vector FaultControl 14 :=
  #v[⟨true, 16⟩, ⟨true, 16⟩, ⟨true, 16⟩, ⟨true, 0⟩, ⟨true, 32⟩, ⟨true, 32⟩, ⟨true, 0⟩, ⟨true, 0⟩, ⟨true, 0⟩, ⟨true, 0⟩,
     ⟨true, 0⟩, ⟨true, 0⟩, ⟨true, 0⟩, ⟨true, 0⟩]

/-- A fault queue after a reset (R129). -/
def FaultQueue.reset {α : Type} : FaultQueue α := { records := [], counter := 0, overrun := false, armed := true }

/-- The sticky flags after a reset (R135). -/
def Sticky.clear : Sticky := ⟨false, false, false, false, false, false⟩

/-- A score record after a reset (R138). -/
def ScoreRecord.reset : ScoreRecord :=
  { score := 0, advisory := 0, quarantine := 0, decayAmount := 0, interval := TimeCode.zero, lastDecay := 0, armed := true }

/-- A domain record after a reset (R24). -/
def DomainRecord.reset : DomainRecord := { mode := .normal, style := .refuse, fill := 0xFF }

/-- The gate right after a reset of the part with the recorded cause `cause` (R14, R21, R41, R79, R129, R138, R167). -/
def State.afterReset (cause : ResetCause) : State :=
  { gateTime := 0
    resetCause := cause
    ports :=
      { a := PortState.reset .b256 none, p := PortState.reset .b256 none, m := PortState.reset .b256 none
        k := PortState.reset .b16 (some .pay), d := PortState.reset .b64 (some .app), c := PortState.reset .b32 (some .pay)
        s := PortState.reset .b256 none }
    inits := ⟨InitState.reset, InitState.reset, InitState.reset⟩
    active := Vector.replicate 96 Entry.reset
    pendingBank := Vector.replicate 96 Entry.reset
    generation := 0
    commit := none
    domains := ⟨DomainRecord.reset, DomainRecord.reset, DomainRecord.reset⟩
    units := Vector.replicate 8 CustodyUnit.reset
    requests := []
    meters := Vector.replicate 16 Meter.reset
    controls := resetControls
    masks := ⟨Vector.replicate 14 false, Vector.replicate 14 false⟩
    supQ := FaultQueue.reset
    ownQ := ⟨FaultQueue.reset, FaultQueue.reset⟩
    flags := ⟨Sticky.clear, Sticky.clear, Sticky.clear⟩
    scores := ⟨ScoreRecord.reset, ScoreRecord.reset⟩
    pending := []
    wire := ⟨[], [], [], [], [], [], []⟩ }

/-- The gate after power-on (R167; log entry 3). -/
def State.reset : State := State.afterReset .powerOn

end Sys2Proof.Machine
end

