-- ==== Sys2Proof/Machine/Operands.lean ====
section
/-! DEFINITION. Operands and images: indices and codes, durations, sizes and ranges, and the byte layouts of R168 to R175. -/

namespace Sys2Proof

/-! ### Ports and domains (scope, "Ports and domains") -/

/-- The index of a port. -/
def Port.index : Port → Nat
  | .A => 0 | .P => 1 | .M => 2 | .K => 3 | .D => 4 | .C => 5 | .S => 6

/-- The initiator port of a domain: A for APP, P for PAY, M for RAD. -/
def Domain.port : Domain → Port
  | .app => .A | .pay => .P | .rad => .M

/-- The domain of an initiator port; a peripheral port has none. -/
def Port.domain : Port → Option Domain
  | .A => some .app | .P => some .pay | .M => some .rad
  | .K => none | .D => none | .C => none | .S => none

/-- Domain codes (R169). -/
def Domain.code : Domain → Byte
  | .app => 0 | .pay => 1 | .rad => 2

/-- A port's byte in an image. -/
def Port.byte (p : Port) : Byte := BitVec.ofNat 8 p.index

/-- Packet kind codes of the requests (R169). -/
def Kind.code : Kind → Byte
  | .read => 0x21 | .write => 0x22 | .post => 0x23

end Sys2Proof

namespace Sys2Proof.Machine

open Sys2Proof

/-- The seven ports in index order. -/
def allPorts : List Port := [.A, .P, .M, .K, .D, .C, .S]

/-- The three domains in code order; R121 hands notices in this order. -/
def allDomains : List Domain := [.app, .pay, .rad]

def allUnits : List (Fin 8) := [0, 1, 2, 3, 4, 5, 6, 7]

def allTags : List (Fin 16) := [0, 1, 2, 3, 4, 5, 6, 7, 8, 9, 10, 11, 12, 13, 14, 15]

def allMeters : List (Fin 16) := allTags

/-- The scored domain that a domain is; PAY is none (R138). -/
def scoredOf : Domain → Option Scored
  | .app => some .app | .pay => none | .rad => some .rad

def Scored.domain : Scored → Domain
  | .app => .app | .rad => .rad

/-- The one of APP and RAD that a turn does not name (R62). -/
def Scored.other : Scored → Scored
  | .app => .rad | .rad => .app

/-- Replace the element at one index. -/
def setAt {α : Type} {n : Nat} (v : Vector α n) (i : Fin n) (x : α) : Vector α n := v.set i.1 x i.2

/-! ### Byte fields (R168) -/

/-- The `n` bytes of a field, least significant first. -/
def leBytes : Nat → Nat → List Byte
  | 0, _ => []
  | n + 1, v => BitVec.ofNat 8 v :: leBytes n (v / 256)

/-- The number a field's bytes spell, least significant first. -/
def leValue : List Byte → Nat
  | [] => 0
  | b :: bs => b.toNat + 256 * leValue bs

/-- The byte at an offset of an image. -/
def byteAt (image : List Byte) (off : Nat) : Byte := image.getD off 0

/-- The `n`-byte field at an offset of an image. -/
def fieldAt (image : List Byte) (off n : Nat) : Nat := leValue ((image.drop off).take n)

/-- A yes-or-no byte (R175). -/
def boolByte (b : Bool) : Byte := if b then 1 else 0

/-- A byte of up to eight flags, bit 0 first. -/
def flagByte : List Bool → Nat
  | [] => 0
  | b :: bs => (if b then 1 else 0) + 2 * flagByte bs

/-- A gate time in six bytes; beyond 2^48 − 1 the image is a free value (log entry 9). -/
def timeBytes (t : Nat) : List Byte :=
  if t ≤ Config.lastTime then leBytes 6 t else leBytes 6 (Config.time48Beyond t).toNat

/-- The length a length code gives: codes 1 to 255 that many bytes, code 0 gives 256 (R1). -/
def lengthOfCode (code : Byte) : Nat := if code = 0 then 256 else code.toNat

/-- The length code of a length of 1 to 256 (R63). -/
def codeOfLength (n : Nat) : Byte := BitVec.ofNat 8 n

/-! ### Durations (R16, R17) -/

/-- The unit of a stored scale in µs (R16). -/
def scaleUnit (scale : Fin 4) : Nat := if scale = 0 then 1 else if scale = 1 then 32 else if scale = 2 then 1024 else 32768

def TimeCode.duration (c : TimeCode) : Nat := c.value.1 * scaleUnit c.scale

/-- A written time code as stored: scales 4 to 7 become 3 (R16). -/
def storeTimeCode (value : Fin 1024) (scale : Nat) : TimeCode :=
  ⟨value, if scale = 0 then 0 else if scale = 1 then 1 else if scale = 2 then 2 else 3⟩

/-- The expiry of a timer started at `t`; value 0 starts none (R17). -/
def TimeCode.expiry (c : TimeCode) (t : Nat) : Option Nat := if c.value = 0 then none else some (t + c.duration)

/-- A timer has expired at gate time `t` (R17). -/
def expired (timer : Option Nat) (t : Nat) : Bool :=
  match timer with
  | none => false
  | some e => decide (e ≤ t)

/-- The time code in a two-byte field: value in bits 9–0, scale in bits 12–10, the rest disregarded (R168, R169). -/
def timeCodeOfField (v : Nat) : TimeCode := storeTimeCode (Fin.ofNat 1024 v) (v / 1024 % 8)

def TimeCode.field (c : TimeCode) : Nat := c.value.1 + 1024 * c.scale.1

/-! ### Sizes and ranges -/

/-- The bytes of a size in 16-byte units, 0 read as 2^28 (R22, R40). -/
def sizeBytes (size : Size) : Nat := if size = 0 then 2 ^ 32 else 16 * size.toNat

/-- The low four bits stored as 0 (R22, R40). -/
def alignAddr (x : Addr) : Addr := x &&& 0xFFFFFFF0

/-- The stored size: limited, after the base is stored, so that the range ends at or below 2^32 (R22, R42). -/
def limitSize (base : Addr) (size : Size) : Size :=
  if base.toNat + sizeBytes size > 2 ^ 32 then BitVec.ofNat 28 ((2 ^ 32 - base.toNat) / 16) else size

/-- Ranges [x, x + n) and [y, y + m) on one port overlap (R39, R43, R153). -/
def overlap (x n y m : Nat) : Bool := decide (x < y + m) && decide (y < x + n)

/-- The range of a unit overlaps [x, x + n) on port `p`; an undefined unit overlaps nothing (R40). -/
def CustodyUnit.overlaps (u : CustodyUnit) (p : Port) (x n : Nat) : Bool :=
  decide (u.port = some p) && overlap x n u.start.toNat (sizeBytes u.size)

def Burst.bytes : Burst → Nat
  | .b16 => 16 | .b32 => 32 | .b64 => 64 | .b128 => 128 | .b256 => 256

/-- A written max burst as stored: rounded down to an allowed value, below 16 it becomes 16 (R18, R165). -/
def storeBurst (v : Nat) : Burst :=
  if v < 32 then .b16 else if v < 64 then .b32 else if v < 128 then .b64 else if v < 256 then .b128 else .b256

/-! ### Sets and codes -/

def DomainSet.has (d : DomainSet) : Domain → Bool
  | .app => d.app | .pay => d.pay | .rad => d.rad

def KindSet.has (k : KindSet) : Kind → Bool
  | .read => k.read | .write => k.write | .post => k.post

/-- The views a mode sees (R26). -/
def View.seen : View → Mode → Bool
  | .normal, .normal => true
  | .normal, .quarantined => false
  | .quarantine, .normal => false
  | .quarantine, .quarantined => true
  | .both, .normal => true
  | .both, .quarantined => true

def domainOfCode (b : Byte) : Option Domain :=
  if b = 0 then some .app else if b = 1 then some .pay else if b = 2 then some .rad else none

/-- A route code: 3 is NONE (R169). -/
def routeCode : Option Domain → Byte
  | some d => d.code
  | none => 3

def routeOfCode (b : Byte) : Option (Option Domain) := if b = 3 then some none else (domainOfCode b).map some

def portOfCode (b : Byte) : Option Port :=
  if b = 0 then some .A else if b = 1 then some .P else if b = 2 then some .M else if b = 3 then some .K
  else if b = 4 then some .D else if b = 5 then some .C else if b = 6 then some .S else none

/-- An index below `n`, if the byte is one. -/
def indexOf (n : Nat) (b : Byte) : Option (Fin n) := if h : b.toNat < n then some ⟨b.toNat, h⟩ else none

/-- An index below `n`, or NONE, which is 0xFF (R169). -/
def optIndexOf (n : Nat) (b : Byte) : Option (Option (Fin n)) := if b = 0xFF then some none else (indexOf n b).map some

def optByte {n : Nat} : Option (Fin n) → Byte
  | none => 0xFF
  | some i => BitVec.ofNat 8 i.1

def optPortOf (b : Byte) : Option (Option Port) := if b = 0xFF then some none else (portOfCode b).map some

def optPortByte : Option Port → Byte
  | none => 0xFF
  | some p => p.byte

def Style.code : Style → Nat
  | .refuse => 0 | .mask => 1 | .default => 2

def styleOfCode (n : Nat) : Option Style :=
  if n = 0 then some .refuse else if n = 1 then some .mask else if n = 2 then some .default else none

def DomainStyle.code : DomainStyle → Byte
  | .refuse => 0 | .mask => 1

def domainStyleOfCode (b : Byte) : Option DomainStyle :=
  if b = 0 then some .refuse else if b = 1 then some .mask else none

/-- The style of a denial (R32). -/
def Style.effective : Style → DomainStyle → DomainStyle
  | .refuse, _ => .refuse
  | .mask, _ => .mask
  | .default, d => d

def View.code : View → Nat
  | .normal => 0 | .quarantine => 1 | .both => 2

/-- A view code; 3 is stored as BOTH (R168). -/
def viewOfCode (n : Nat) : View := if n = 0 then .normal else if n = 1 then .quarantine else .both

def Mode.code : Mode → Byte
  | .normal => 0 | .quarantined => 1

def LinkState.code : LinkState → Byte
  | .down => 0 | .up => 1 | .resetting => 2

def ResetCause.code : ResetCause → Byte
  | .powerOn => 0 | .line => 1 | .command => 2

def FaultKind.code : FaultKind → Byte
  | .read => 0x21 | .write => 0x22 | .post => 0x23 | .manage => 0x26

/-- The kind a record carries for a request (R127). -/
def recordKind : Kind → FaultKind
  | .read => .read | .write => .write | .post => .post

def AnswerStatus.code : AnswerStatus → Byte
  | .ok => 0 | .denied => 1 | .targetError => 2 | .timeout => 3 | .cut => 4 | .linkDown => 5

def ReplyStatus.code : ReplyStatus → Byte
  | .ok => 0 | .busy => 1 | .notPermitted => 2 | .badParameter => 3 | .aborted => 4 | .rejected => 5 | .failed => 6
  | .unknown => 7

def NoticeKind.code : NoticeKind → Byte
  | .fault => 0xF0 | .custody => 0xF1

def PieceStatus.answer : PieceStatus → AnswerStatus
  | .ok => .ok | .targetError => .targetError | .timeout => .timeout | .cut => .cut | .linkDown => .linkDown

/-- The bytes of a packet as it leaves (R169). DESIGN CHOICE (log entry 18): the length code of a COMPLETION without payload is 0. -/
def OutPacket.bytes : OutPacket → List Byte
  | .completion tag st data =>
    [0x24, BitVec.ofNat 8 tag.1, st.code, boolByte (!data.isEmpty), codeOfLength data.length] ++ data
  | .request tag kind addr lengthCode payload =>
    [kind.code, BitVec.ofNat 8 tag.1, lengthCode] ++ leBytes 4 addr.toNat ++ payload
  | .reply tag st result => [0x27, BitVec.ofNat 8 tag.1, st.code, BitVec.ofNat 8 result.length] ++ result
  | .event source code gap payload => [0x25, source, code, boolByte gap, BitVec.ofNat 8 payload.length] ++ payload
  | .notice kind => [0x25, 7, kind.code, 0, 0]

/-! ### Fault classes (R123) -/

def FaultClass.index : FaultClass → Fin 14
  | .noWindow => 0 | .kind => 1 | .bounds => 2 | .custody => 3 | .malformed => 4 | .mgmtDenied => 5 | .targetError => 6
  | .timeout => 7 | .cut => 8 | .linkDown => 9 | .orphanLimit => 10 | .scoreAdvisory => 11 | .quarantined => 12
  | .scrubFailed => 13

def FaultClass.code (c : FaultClass) : Byte := BitVec.ofNat 8 (c.index.1 + 1)

def classOfCode (b : Byte) : Option FaultClass :=
  [FaultClass.noWindow, .kind, .bounds, .custody, .malformed, .mgmtDenied, .targetError, .timeout, .cut, .linkDown,
    .orphanLimit, .scoreAdvisory, .quarantined, .scrubFailed].find? (fun c => decide (c.code = b))

def FaultClass.delegable : FaultClass → Bool
  | .noWindow | .kind | .bounds | .custody | .malformed | .targetError | .timeout => true
  | .mgmtDenied | .cut | .linkDown | .orphanLimit | .scoreAdvisory | .quarantined | .scrubFailed => false

def FaultClass.chargeable : FaultClass → Bool
  | .noWindow | .kind | .bounds | .custody | .malformed | .mgmtDenied | .targetError | .timeout => true
  | .cut | .linkDown | .orphanLimit | .scoreAdvisory | .quarantined | .scrubFailed => false

/-- The class code written in a reduced record: the access classes become ACCESS_DENIED (R128). -/
def FaultClass.reducedCode : FaultClass → Byte
  | .noWindow | .kind | .bounds | .custody => 0x10
  | .malformed => FaultClass.malformed.code
  | .mgmtDenied => FaultClass.mgmtDenied.code
  | .targetError => FaultClass.targetError.code
  | .timeout => FaultClass.timeout.code
  | .cut => FaultClass.cut.code
  | .linkDown => FaultClass.linkDown.code
  | .orphanLimit => FaultClass.orphanLimit.code
  | .scoreAdvisory => FaultClass.scoreAdvisory.code
  | .quarantined => FaultClass.quarantined.code
  | .scrubFailed => FaultClass.scrubFailed.code

/-- The reduced record of a fault (R128). -/
def FaultEvent.reduced (e : FaultEvent) (seq : Half) (time : Nat) : ReducedRecord :=
  { seq := seq, time := time, cls := e.cls.reducedCode, srcPort := e.srcPort, tag := e.tag, kind := e.kind, addr := e.addr,
    len := e.len }

/-! ### Entry image (R170) -/

def Entry.image (index : Nat) (e : Entry) : List Byte :=
  [BitVec.ofNat 8 index,
   BitVec.ofNat 8 (flagByte [e.valid, e.pinned] + 4 * e.view.code + 16 * e.style.code),
   BitVec.ofNat 8 (flagByte [e.domains.app, e.domains.pay, e.domains.rad]),
   BitVec.ofNat 8 (flagByte [e.kinds.read, e.kinds.write, e.kinds.post]),
   e.target.byte, optByte e.meter, optByte e.unit]
  ++ leBytes 4 e.base.toNat ++ leBytes 4 e.size.toNat ++ leBytes 4 e.offset.toNat

/-- The entry that a 19-byte image stores at a PENDING entry whose pinned flag is `pinned`; none where a value is out of
range (R22, R148, R168, R170). -/
def entryOfImage (image : List Byte) (pinned : Bool) : Option Entry :=
  let flags := byteAt image 1
  let doms := byteAt image 2
  let kinds := byteAt image 3
  let base := alignAddr (BitVec.ofNat 32 (fieldAt image 7 4))
  match portOfCode (byteAt image 4), optIndexOf 16 (byteAt image 5), optIndexOf 8 (byteAt image 6),
    styleOfCode (flags.toNat / 16 % 4) with
  | some target, some meter, some unit, some style =>
    some
      { valid := flags.getLsbD 0
        domains := ⟨doms.getLsbD 0, doms.getLsbD 1, doms.getLsbD 2⟩
        view := viewOfCode (flags.toNat / 4 % 4)
        base := base
        size := limitSize base (BitVec.ofNat 28 (fieldAt image 11 4))
        target := target
        offset := alignAddr (BitVec.ofNat 32 (fieldAt image 15 4))
        kinds := ⟨kinds.getLsbD 0, kinds.getLsbD 1, kinds.getLsbD 2⟩
        style := style
        meter := meter
        unit := unit
        pinned := pinned }
  | _, _, _, _ => none

/-! ### Unit image (R171) -/

/-- A definition as UNIT_DEFINE stores it (R42). -/
structure UnitDefinition where
  port   : Option Port
  start  : Addr
  size   : Size
  events : Bool
  style  : Style
  drain  : TimeCode
  settle : TimeCode
  script : List ScrubStep
  deriving DecidableEq, Repr

/-- The `n` scrub steps that fill `bytes` exactly; none where they do not, or a data length is outside 1 to 16 (R43). -/
def parseSteps : Nat → List Byte → Option (List ScrubStep)
  | 0, [] => some []
  | 0, _ :: _ => none
  | n + 1, a0 :: a1 :: a2 :: a3 :: l :: rest =>
    if 1 ≤ l.toNat ∧ l.toNat ≤ 16 ∧ l.toNat ≤ rest.length then
      (parseSteps n (rest.drop l.toNat)).map
        (fun steps => ⟨BitVec.ofNat 32 (leValue [a0, a1, a2, a3]), rest.take l.toNat⟩ :: steps)
    else none
  | _ + 1, _ => none

/-- The definition that UNIT_DEFINE's parameters carry, stored as R42 states; none where check 1 of R43 fails (the unit
index is checked by the command). DESIGN CHOICE (log entry 19): a definition with port NONE is stored with the same alignment, size limit
and scale limit as any other. -/
def definitionOfImage (image : List Byte) : Option UnitDefinition :=
  let flags := byteAt image 2
  let count := (byteAt image 3).toNat
  let start := alignAddr (BitVec.ofNat 32 (fieldAt image 4 4))
  match optPortOf (byteAt image 1), styleOfCode (flags.toNat / 2 % 4),
    (if count ≤ 4 then parseSteps count (image.drop 16) else none) with
  | some port, some style, some script =>
    some
      { port := port
        start := start
        size := limitSize start (BitVec.ofNat 28 (fieldAt image 8 4))
        events := flags.getLsbD 0
        style := style
        drain := timeCodeOfField (fieldAt image 12 2)
        settle := timeCodeOfField (fieldAt image 14 2)
        script := script }
  | _, _, _ => none

def Holding.code : Holding → Nat
  | .opened => 3
  | .held h => h.code.toNat

/-- A state byte: the state in bits 2–0, the holder or the target's holder in bits 5–4, 3 for none (R171). -/
def UnitState.byte : UnitState → Byte
  | .opened => BitVec.ofNat 8 (0 + 16 * 3)
  | .held h => BitVec.ofNat 8 (1 + 16 * h.code.toNat)
  | .draining t => BitVec.ofNat 8 (2 + 16 * t.code)
  | .scrubbing t => BitVec.ofNat 8 (3 + 16 * t.code)
  | .failed => BitVec.ofNat 8 (4 + 16 * 3)

def Holding.toState : Holding → UnitState
  | .opened => .opened
  | .held h => .held h

/-- The UNIT_READ result (R45, R171). -/
def CustodyUnit.readImage (index : Fin 8) (u : CustodyUnit) : List Byte :=
  [BitVec.ofNat 8 index.1, optPortByte u.port, BitVec.ofNat 8 (flagByte [u.events] + 2 * u.style.code),
   BitVec.ofNat 8 u.script.length]
  ++ leBytes 4 u.start.toNat ++ leBytes 4 u.size.toNat ++ leBytes 2 u.drain.field ++ leBytes 2 u.settle.field
  ++ [u.state.byte, u.previous.toState.byte] ++ leBytes 2 u.inFlight ++ [BitVec.ofNat 8 u.parked.length]
  ++ [optByte u.pendingTake]
  ++ u.script.flatMap (fun st => leBytes 4 st.addr.toNat ++ [BitVec.ofNat 8 st.data.length])

/-! ### Fault records (R172) -/

/-- A field of a record: 0 where absent (R168). -/
def absentOr {α : Type} (f : α → Nat) : Option α → Nat
  | none => 0
  | some x => f x

def FullRecord.image (r : FullRecord) : List Byte :=
  let e := r.ev
  leBytes 2 r.seq.toNat ++ timeBytes r.time ++ [e.cls.code, e.srcPort]
  ++ leBytes 2 (flagByte [e.dom.isSome, e.tag.isSome, e.kind.isSome, e.addr.isSome, e.len.isSome, e.entry.isSome,
      e.target.isSome, e.taddr.isSome, e.unit.isSome])
  ++ leBytes 1 (absentOr (fun d : Domain => d.code.toNat) e.dom)
  ++ leBytes 1 (absentOr (fun t : Byte => t.toNat) e.tag)
  ++ leBytes 1 (absentOr (fun k : FaultKind => k.code.toNat) e.kind)
  ++ leBytes 4 (absentOr (fun a : Addr => a.toNat) e.addr)
  ++ leBytes 2 (absentOr id e.len)
  ++ leBytes 1 (absentOr id e.entry)
  ++ leBytes 1 (absentOr Port.index e.target)
  ++ leBytes 4 (absentOr (fun a : Addr => a.toNat) e.taddr)
  ++ leBytes 1 (absentOr (fun u : Fin 8 => u.1) e.unit)
  ++ leBytes 2 e.detail

def ReducedRecord.image (r : ReducedRecord) : List Byte :=
  leBytes 2 r.seq.toNat ++ timeBytes r.time ++ [r.cls, r.srcPort]
  ++ leBytes 1 (flagByte [r.tag.isSome, r.kind.isSome, r.addr.isSome, r.len.isSome])
  ++ leBytes 1 (absentOr (fun t : Byte => t.toNat) r.tag)
  ++ leBytes 1 (absentOr (fun k : FaultKind => k.code.toNat) r.kind)
  ++ leBytes 4 (absentOr (fun a : Addr => a.toNat) r.addr)
  ++ leBytes 1 (absentOr id r.len)

/-- The flags byte of FLAGS_TAKE (R175). -/
def Sticky.byte (f : Sticky) : Byte :=
  BitVec.ofNat 8 (flagByte [f.denied, f.masked, f.throttled, f.clamped, f.cut, f.timeout])

/-- PORT_SET's result: the whole record as stored (R165, R175). -/
def PortConfig.image (p : Port) (c : PortConfig) : List Byte :=
  [p.byte] ++ leBytes 2 c.maxBurst.bytes ++ leBytes 2 c.deadline.field ++ leBytes 2 c.span.toNat ++ leBytes 4 c.capacity.toNat
  ++ [routeCode c.route]

end Sys2Proof.Machine
end

