-- ==== Sys2Proof/Machine/Ops.lean ====
section
/-! DEFINITION. The named operations over the state: reading and changing one part of it, placing packets, notices and replies. -/

namespace Sys2Proof.Machine

open Sys2Proof

/-! ### One part of the state -/

def State.port (s : State) (p : Port) : PortState := s.ports.get p

def State.init (s : State) (d : Domain) : InitState := s.inits.get d

def State.unit (s : State) (u : Fin 8) : CustodyUnit := s.units.get u

def State.meter (s : State) (n : Fin 16) : Meter := s.meters.get n

def State.domain (s : State) (d : Domain) : DomainRecord := s.domains.get d

def State.control (s : State) (c : FaultClass) : FaultControl := s.controls.get c.index

/-- The mask of `x` holds the class (R125). -/
def State.delegated (s : State) (x : Scored) (c : FaultClass) : Bool := (s.masks.get x).get c.index

/-- The request record `id`, if it is live. -/
def State.request (s : State) (id : Nat) : Option Request := s.requests.find? (fun r => r.id == id)

def State.isUp (s : State) (p : Port) : Bool := decide ((s.port p).link = .up)

def State.modPort (p : Port) (f : PortState → PortState) (s : State) : State :=
  { s with ports := s.ports.set p (f (s.ports.get p)) }

def State.modInit (d : Domain) (f : InitState → InitState) (s : State) : State :=
  { s with inits := s.inits.set d (f (s.inits.get d)) }

def State.modUnit (u : Fin 8) (f : CustodyUnit → CustodyUnit) (s : State) : State :=
  { s with units := setAt s.units u (f (s.units.get u)) }

def State.modMeter (n : Fin 16) (f : Meter → Meter) (s : State) : State :=
  { s with meters := setAt s.meters n (f (s.meters.get n)) }

def State.modDomain (d : Domain) (f : DomainRecord → DomainRecord) (s : State) : State :=
  { s with domains := s.domains.set d (f (s.domains.get d)) }

def State.modScore (x : Scored) (f : ScoreRecord → ScoreRecord) (s : State) : State :=
  { s with scores := s.scores.set x (f (s.scores.get x)) }

def State.modFlags (d : Domain) (f : Sticky → Sticky) (s : State) : State :=
  { s with flags := s.flags.set d (f (s.flags.get d)) }

/-- Change the request record `id`. -/
def State.modRequest (id : Nat) (f : Request → Request) (s : State) : State :=
  { s with requests := s.requests.map (fun r => if r.id = id then f r else r) }

def State.setRequests (v : List Request) (s : State) : State := { s with requests := v }

def State.setSupQ (q : FaultQueue FullRecord) (s : State) : State := { s with supQ := q }

def State.setOwnQ (x : Scored) (q : FaultQueue ReducedRecord) (s : State) : State := { s with ownQ := s.ownQ.set x q }

def State.setControl (c : FaultClass) (v : FaultControl) (s : State) : State :=
  { s with controls := setAt s.controls c.index v }

def State.setMask (x : Scored) (c : FaultClass) (v : Bool) (s : State) : State :=
  { s with masks := s.masks.set x (setAt (s.masks.get x) c.index v) }

def State.setActive (v : Vector Entry 96) (s : State) : State := { s with active := v }

def State.setPendingBank (v : Vector Entry 96) (s : State) : State := { s with pendingBank := v }

def State.setCommit (v : Option Commit) (s : State) : State := { s with commit := v }

def State.setGateTime (t : Nat) (s : State) : State := { s with gateTime := t }

/-! ### The ingress buffer (R6) -/

/-- The next packet of the sender of port `p` can enter the ingress buffer: the port is UP and one of the 8 places is free (R6, R10). -/
def canArrive (s : State) (p : Port) : Bool :=
  s.isUp p && decide ((s.port p).ingress.length < Config.ingressPlaces) && !(s.wire.get p).isEmpty

/-- The next packet of the sender of port `p` arrives: it is held in the ingress buffer until it is taken. While all 8 places are
occupied the sender keeps it (R6; log entry 13). -/
def arrive (p : Port) (s : State) : State :=
  match s.wire.get p with
  | [] => s
  | pkt :: rest =>
    if canArrive s p then
      { s.modPort p (fun v => { v with ingress := v.ingress ++ [pkt] }) with wire := s.wire.set p rest }
    else s

/-! ### The outbound queue (R9) -/

/-- Place a packet at the end of a port's outbound queue; packets are placed while the port is UP (R9). -/
def placeOut (p : Port) (pkt : OutPacket) (s : State) : State :=
  if s.isUp p then s.modPort p (fun v => { v with outbound := v.outbound ++ [pkt] }) else s

/-- The COMPLETION to an initiator; a POST, which has no tag, is answered by nothing (R33, R34, R71). -/
def answerTo (d : Domain) (tag : Option (Fin 32)) (st : AnswerStatus) (data : List Byte) (s : State) : State :=
  match tag with
  | none => s
  | some t => placeOut d.port (.completion t st data) s

/-- Take the piece or scrub step under target tag `t` out of the outbound queue. -/
def dropOut (t : Fin 16) (pkts : List OutPacket) : List OutPacket :=
  pkts.filter (fun pkt => match pkt with | .request t' _ _ _ _ => decide (t' ≠ t) | _ => true)

/-! ### Gate events (R120, R121) -/

/-- A FAULT_NOTICE is handed to the router for the port of `d` (R120). -/
def handFaultNotice (d : Domain) (s : State) : State :=
  if s.isUp d.port ∧ (s.init d).faultNotice = .empty then
    (placeOut d.port (.notice .fault) s).modInit d (fun v => { v with faultNotice := .waiting })
  else s

/-- A CUSTODY_NOTICE is handed to the router for `d` (R121). -/
def handCustodyNotice (d : Domain) (s : State) : State :=
  match (s.init d).custodyNotice with
  | .empty =>
    if s.isUp d.port then
      (placeOut d.port (.notice .custody) s).modInit d (fun v => { v with custodyNotice := .waiting })
    else s.modInit d (fun v => { v with custodyNotice := .held })
  | .held => s
  | .waiting => s

/-! ### Management commands and replies (R5, R158, R160, R161) -/

/-- A management tag is in use on the port of `d`: an unmarked member of the engine's list holds it (R5, R158). -/
def tagInUse (s : State) (d : Domain) (t : Fin 4) : Bool :=
  (s.init d).commands.any (fun c => !c.discard && decide (c.tag = t))

/-- The engine takes a command (R158). -/
def enterCommand (d : Domain) (t : Fin 4) (code : Byte) (s : State) : State :=
  s.modInit d (fun v => { v with commands := v.commands ++ [⟨t, code, false, none⟩] })

/-- A block starts to carry the long command that holds tag `t` (R158). -/
def carryCommand (d : Domain) (t : Fin 4) (c : Carrier) (s : State) : State :=
  s.modInit d (fun v =>
    { v with commands := v.commands.map (fun x => if x.discard = false ∧ x.tag = t then { x with carrier := some c } else x) })

/-- Place the reply of a command that holds tag `t` (R160). -/
def reply (d : Domain) (t : Fin 4) (st : ReplyStatus) (result : List Byte) (s : State) : State :=
  placeOut d.port (.reply t st result) s

/-- A long command of P that block `c` carries ends: its reply is placed, or, when it is marked, it leaves the list and
its reply is discarded (R158, R161). -/
def endCommand (c : Carrier) (st : ReplyStatus) (result : List Byte) (s : State) : State :=
  match (s.init .pay).commands.find? (fun x => decide (x.carrier = some c)) with
  | none => s
  | some x =>
    if x.discard then
      s.modInit .pay (fun v => { v with commands := v.commands.filter (fun y => decide (y.carrier ≠ some c)) })
    else
      reply .pay x.tag st result
        (s.modInit .pay (fun v =>
          { v with commands := v.commands.map (fun y => if y.carrier = some c then { y with carrier := none } else y) }))

/-- A running validation is aborted; the TABLE_COMMIT replies ABORTED (R157). -/
def abortCommit (s : State) : State :=
  if s.commit.isSome then endCommand .commit .aborted [] (s.setCommit none) else s

/-! ### Banks -/

/-- The first entry, from index `i` on, that `f` picks, with its index. -/
def findEntry (f : Entry → Bool) : List Entry → Nat → Option (Nat × Entry)
  | [], _ => none
  | e :: es, i => if f e then some (i, e) else findEntry f es (i + 1)

/-- Some valid entry of the ACTIVE bank names the meter (R39). -/
def meterNamed (s : State) (n : Fin 16) : Bool := s.active.toList.any (fun e => e.valid && decide (e.meter = some n))

/-- The custody-gap check of the ACTIVE bank for unit `u` on port `p` with range [x, x + n) (R39). -/
def custodyGap (s : State) (u : Fin 8) (p : Port) (x n : Nat) : Option Nat :=
  (findEntry
    (fun e => e.valid && decide (e.target = p) && overlap x n e.offset.toNat (sizeBytes e.size) && decide (e.unit ≠ some u))
    s.active.toList 0).map Prod.fst

/-- POSTs counted against the allowance of the port of `d`: its POST records and its parked POSTs (R57). -/
def postCount (s : State) (d : Domain) : Nat :=
  (s.requests.filter (fun r => decide (r.dom = d) && decide (r.kind = .post))).length
  + ((s.units.toList.flatMap (fun u => u.parked)).filter
      (fun k => decide (k.req.dom = d) && decide (k.req.kind = .post))).length

end Sys2Proof.Machine
end

