-- ==== Sys2Proof/Machine/Flags.lean ====
section
/-! DEFINITION. Sticky flags, fault records and their queues, and the score: what a fault does (R123 to R146). -/

namespace Sys2Proof.Machine

open Sys2Proof

/-! ### Sticky flags (R135) -/

inductive Flag where
  | denied | masked | throttled | clamped | cut | timeout
  deriving DecidableEq, Repr

def Sticky.raise (f : Sticky) : Flag → Sticky
  | .denied => { f with denied := true }
  | .masked => { f with masked := true }
  | .throttled => { f with throttled := true }
  | .clamped => { f with clamped := true }
  | .cut => { f with cut := true }
  | .timeout => { f with timeout := true }

/-- A sticky flag of `d` is set (R135). -/
def setFlag (d : Domain) (f : Flag) (s : State) : State := s.modFlags d (fun v => v.raise f)

/-! ### Queues and notices (R129, R131) -/

/-- A record comes to a queue of `places` places: placed with the next sequence, or dropped with the overrun flag set. -/
def FaultQueue.put {α : Type} (places : Nat) (mk : Half → α) (q : FaultQueue α) : FaultQueue α :=
  if q.records.length < places then { q with records := q.records ++ [mk q.counter], counter := q.counter + 1 }
  else { q with overrun := true }

/-- The records held by the queue read through the port of `d`. -/
def queueFill (s : State) : Domain → Nat
  | .pay => s.supQ.records.length
  | .app => s.ownQ.app.records.length
  | .rad => s.ownQ.rad.records.length

/-- The notice of the queue read through the port of `d` is ARMED. -/
def noticeArmed (s : State) : Domain → Bool
  | .pay => s.supQ.armed
  | .app => s.ownQ.app.armed
  | .rad => s.ownQ.rad.armed

def setArmed (d : Domain) (b : Bool) (s : State) : State :=
  match d with
  | .pay => s.setSupQ { s.supQ with armed := b }
  | .app => s.setOwnQ .app { s.ownQ.app with armed := b }
  | .rad => s.setOwnQ .rad { s.ownQ.rad with armed := b }

/-- The queue's reader is told: a FAULT_NOTICE is handed and the notice becomes DISARMED (R131). -/
def tellReader (d : Domain) (s : State) : State := handFaultNotice d (setArmed d false s)

/-- After a record was placed in the queue of `d`, which held `before` records (R131). -/
def afterPlacing (d : Domain) (before : Nat) (s : State) : State :=
  if before = 0 ∧ noticeArmed s d = true ∧ s.isUp d.port = true then tellReader d s else s

/-- The own queue a fault is delegated to, if it is (R125, R126). -/
def delegatedTo (s : State) (e : FaultEvent) : Option Scored :=
  match e.dom.bind scoredOf with
  | some x => if s.delegated x e.cls then some x else none
  | none => none

/-- Step 1 of R126: the record of a fault is made and placed. -/
def recordFault (e : FaultEvent) (s : State) : State :=
  if (s.control e.cls).record then
    match delegatedTo s e with
    | some x =>
      afterPlacing x.domain (queueFill s x.domain)
        (s.setOwnQ x ((s.ownQ.get x).put Config.ownPlaces (fun n => e.reduced n s.gateTime)))
    | none =>
      afterPlacing .pay (queueFill s .pay) (s.setSupQ (s.supQ.put Config.supervisorPlaces (fun n => ⟨n, s.gateTime, e⟩)))
  else s

/-! ### The score (R139, R140) -/

/-- The decay of a score record at gate time `t` (R139). -/
def ScoreRecord.decay (r : ScoreRecord) (t : Nat) : ScoreRecord :=
  if r.interval.value = 0 then r
  else
    let n := (t - r.lastDecay) / r.interval.duration
    { r with score := r.score - n * r.decayAmount.toNat, lastDecay := r.lastDecay + n * r.interval.duration }

/-- A fault that names no field but its domain: the two classes of the score unit (R140). -/
def scoreFault (x : Scored) (c : FaultClass) (score : Nat) : FaultEvent :=
  { cls := c, srcPort := 7, dom := some x.domain, tag := none, kind := none, addr := none, len := none, entry := none,
    target := none, taddr := none, unit := none, detail := score }

/-- Steps 1 and 2 of R140: the score is decayed, then charged up to 65535. -/
def ScoreRecord.charge (r : ScoreRecord) (t w : Nat) : ScoreRecord :=
  let r1 := r.decay t
  { r1 with score := min Config.scoreLimit (r1.score + w) }

/-- Step 3 of R140: the advisory. -/
def judgeAdvisory (x : Scored) (s : State) : State :=
  let r := s.scores.get x
  if r.advisory = 0 then s
  else if r.score < r.advisory.toNat then s.modScore x (fun v => { v with armed := true })
  else if r.armed then
    recordFault (scoreFault x .scoreAdvisory r.score) (s.modScore x (fun v => { v with armed := false }))
  else s

/-- Step 4 of R140: the quarantine. -/
def judgeQuarantine (x : Scored) (s : State) : State :=
  let r := s.scores.get x
  if r.quarantine ≠ 0 ∧ r.quarantine.toNat ≤ r.score ∧ (s.domain x.domain).mode = .normal then
    recordFault (scoreFault x .quarantined r.score) (s.modDomain x.domain (fun v => { v with mode := .quarantined }))
  else s

/-- A charge of weight `w` for `x` (R140). -/
def chargeScore (x : Scored) (w : Nat) (s : State) : State :=
  judgeQuarantine x (judgeAdvisory x (s.modScore x (fun r => r.charge s.gateTime w)))

/-- Step 2 of R126: the charge a fault makes, if any. -/
def chargeFault (e : FaultEvent) (s : State) : State :=
  match e.dom.bind scoredOf with
  | some x =>
    if e.cls.chargeable = true ∧ (s.control e.cls).weight ≠ 0 then chargeScore x (s.control e.cls).weight.toNat s else s
  | none => s

/-- A fault reaches the fault unit: record, then charge (R126). -/
def raiseFault (e : FaultEvent) (s : State) : State := chargeFault e (recordFault e s)

/-! ### Faults by class -/

/-- A fault of the gate or of a port, attributed to no domain (R75, R76, R101, R106). -/
def portFault (c : FaultClass) (src : Byte) (unit : Option (Fin 8)) (taddr : Option Addr) (detail : Nat) : FaultEvent :=
  { cls := c, srcPort := src, dom := none, tag := none, kind := none, addr := none, len := none, entry := none,
    target := none, taddr := taddr, unit := unit, detail := detail }

/-- The fault of a refused command (R159). -/
def deniedCommand (d : Domain) (t : Fin 4) (code : Byte) : FaultEvent :=
  { cls := .mgmtDenied, srcPort := d.port.byte, dom := some d, tag := some (BitVec.ofNat 8 t.1), kind := some .manage,
    addr := none, len := none, entry := none, target := none, taddr := none, unit := none, detail := code.toNat }

/-- The fault of a malformed packet that failed check `n` of R7 (R8, R127). -/
def malformedFault (p : Port) (pkt : Packet) (n : Nat) : FaultEvent :=
  let base := { portFault .malformed p.byte none none n with dom := p.domain }
  if n = 4 then
    match pkt with
    | .request kind tag lengthCode addr _ =>
      { base with tag := some (BitVec.ofNat 8 tag.1), kind := some (recordKind kind), addr := some addr,
                  len := some (lengthOfCode lengthCode) }
    | .manage _ m => { base with tag := some (BitVec.ofNat 8 m.tag.1), kind := some .manage }
    | .completion .. => base
    | .event .. => base
    | .manageReply _ => base
    | .unknown .. => base
  else base

/-! ### Taking a packet (R6, R7, R8) -/

/-- The payload a request carries suits its length code (check 3 of R7). -/
def requestLengthOk (kind : Kind) (lengthCode : Byte) (payload : List Byte) : Bool :=
  match kind with
  | .read => payload.isEmpty
  | .write => decide (payload.length = lengthOfCode lengthCode)
  | .post => decide (payload.length = lengthOfCode lengthCode)

/-- The number of the first check of R7 that an arriving packet fails; none where it passes. DESIGN CHOICE (log entry 18): the length
code of a COMPLETION whose payload-present mark is 0 is disregarded, and check 3 asks for an empty payload alone (R7, R168). -/
def checkPacket (s : State) (p : Port) : Packet → Option Nat
  | .request kind tag lengthCode _ payload =>
    match p.domain with
    | none => some 2
    | some d =>
      if requestLengthOk kind lengthCode payload then
        if kind ≠ .post ∧ (s.init d).tags.contains tag = true then some 4 else none
      else some 3
  | .completion tag _ present lengthCode payload =>
    if payload.length = (if present then lengthOfCode lengthCode else 0) then
      if (s.port p).tags.get tag = .free then some 4 else none
    else some 3
  | .event _ _ _ declared payload =>
    if p.sendsEvents then (if payload.length ≤ 16 ∧ payload.length = declared.toNat then none else some 3) else some 2
  | .manage _ m =>
    match p.domain with
    | none => some 2
    | some d =>
      if m.params.length ≤ 64 ∧ m.params.length = m.declared.toNat then (if tagInUse s d m.tag then some 4 else none)
      else some 3
  | .manageReply _ => some 2
  | .unknown _ _ => some 1

/-- The packet is at the head of the port's ingress buffer and leaves it: packets are taken in UP, in order, and a packet
that arrives at an empty buffer is taken at once (R6, R10; log entry 13). -/
def fromIngress (p : Port) (pkt : Packet) (s : State) : Option State :=
  if s.isUp p then
    match (s.port p).ingress with
    | [] => some s
    | x :: rest => if x = pkt then some (s.modPort p (fun v => { v with ingress := rest })) else none
  else none

/-- A packet is taken: discarded with a MALFORMED fault, or handed to its block (R6, R7, R8). A packet that cannot be
taken changes nothing (log entry 6). -/
def takePacket (p : Port) (pkt : Packet) (block : State → State) (s : State) : State :=
  match fromIngress p pkt s with
  | none => s
  | some s1 =>
    match checkPacket s1 p pkt with
    | some n => raiseFault (malformedFault p pkt n) s1
    | none => block s1

/-- A MANAGE is taken by the management engine: steps 1 and 2 of R158 and R159, then the command's own part, which makes
step 3 (the parameter length) its first check. `permitted` says whether the port of `d` may issue the command. -/
def takeCommand (p : Port) (code : Byte) (m : MgmtPacket) (permitted : Domain → Bool) (body : Domain → State → State)
    (s : State) : State :=
  takePacket p (.manage code m)
    (fun s1 =>
      match p.domain with
      | none => s1
      | some d =>
        let s2 := enterCommand d m.tag code s1
        if permitted d then body d s2 else reply d m.tag .notPermitted [] (raiseFault (deniedCommand d m.tag code) s2))
    s

/-- Commands that port P alone may issue (R159). -/
def onlyP (d : Domain) : Bool := decide (d = .pay)

/-- Queries that every initiator port may issue (R159). -/
def anyPort (_ : Domain) : Bool := true

/-- A query of one domain: from A or M the operand must not name another domain (R159). -/
def ownDomain (m : MgmtPacket) (d : Domain) : Bool :=
  match d with
  | .pay => true
  | .app =>
    match m.params with
    | [] => true
    | b :: _ => decide (domainOfCode b = none) || decide (domainOfCode b = some .app)
  | .rad =>
    match m.params with
    | [] => true
    | b :: _ => decide (domainOfCode b = none) || decide (domainOfCode b = some .rad)

/-- The refusal of a parameter (R161). -/
def badParameter (d : Domain) (m : MgmtPacket) (s : State) : State := reply d m.tag .badParameter [] s

end Sys2Proof.Machine
end

