-- ==== Sys2Proof/Machine/Pieces.lean ====
section
/-! DEFINITION. The request tracker: splitting, piece states, target tags, removal, merging, answers, the arbiter and meters. -/

namespace Sys2Proof.Machine

open Sys2Proof

/-! ### Splitting (R58) -/

/-- Pieces from number `num`, target address `t`, over `len` bytes at bursts of `b`; `fuel` bounds their number. -/
def splitFrom (b : Nat) (st : PieceState) : Nat → Nat → Nat → Nat → List Piece
  | 0, _, _, _ => []
  | fuel + 1, num, t, len =>
    if len = 0 then []
    else
      let n := min len (b - t % b)
      { num := num, addr := BitVec.ofNat 32 t, len := n, state := st, ttag := none, deadline := none }
        :: splitFrom b st fuel (num + 1) (t + n) (len - n)

/-- The pieces of a request of `len` bytes at target address `t`, all in state `st` (R58, R59). -/
def splitRequest (burst : Burst) (t : Addr) (len : Nat) (st : PieceState) : List Piece :=
  splitFrom burst.bytes st len 1 t.toNat len

/-- The number of pieces of a split (R58). -/
def splitCount (burst : Burst) (t : Addr) (len : Nat) : Nat :=
  (t.toNat % burst.bytes + len + burst.bytes - 1) / burst.bytes

/-! ### Pieces and records -/

/-- Neither resolved nor removed (R56). -/
def PieceState.live : PieceState → Bool
  | .charging | .queued | .granted | .sent => true
  | .resolved _ => false
  | .removed => false

/-- Not yet gone out on the link (R59). -/
def PieceState.unsent : PieceState → Bool
  | .charging | .queued | .granted => true
  | .sent => false
  | .resolved _ => false
  | .removed => false

/-- Severity of a status (R68). -/
def PieceStatus.rank : PieceStatus → Nat
  | .ok => 0 | .targetError => 1 | .timeout => 2 | .cut => 3 | .linkDown => 4

/-- The more severe of two statuses (R69). -/
def PieceStatus.merge (a b : PieceStatus) : PieceStatus := if a.rank < b.rank then b else a

/-- The status a piece's end merges: a REMOVED piece has none (R69). -/
def mergeEnd (w : PieceStatus) : PieceState → PieceStatus
  | .resolved st => w.merge st
  | .removed => w
  | .charging => w
  | .queued => w
  | .granted => w
  | .sent => w

def Request.piece (r : Request) (num : Nat) : Option Piece := r.pieces.find? (fun c => c.num == num)

/-- Change one piece of a record. -/
def Request.modPiece (r : Request) (num : Nat) (f : Piece → Piece) : Request :=
  { r with pieces := r.pieces.map (fun c => if c.num = num then f c else c) }

/-- A piece and its record. -/
def State.piece (s : State) (ref : PieceRef) : Option (Request × Piece) :=
  match s.request ref.req with
  | none => none
  | some r => (r.piece ref.num).map (fun c => (r, c))

/-- Change one piece. -/
def setPiece (ref : PieceRef) (f : Piece → Piece) (s : State) : State :=
  s.modRequest ref.req (fun r => r.modPiece ref.num f)

/-- `n` pieces leave the in-flight count of a bound request's unit (R50). -/
def countOut (unit : Option (Fin 8)) (n : Nat) (s : State) : State :=
  match unit with
  | none => s
  | some u => s.modUnit u (fun v => { v with inFlight := v.inFlight - n })

/-- A live piece ends in `st` (resolved or removed): it leaves the outstanding count and its unit's in-flight count, and
its status is merged (R50, R59, R69). A piece that has ended is not ended again (R50). -/
def endPiece (ref : PieceRef) (st : PieceState) (s : State) : State :=
  match s.piece ref with
  | none => s
  | some (r, c) =>
    if c.state.live then
      countOut r.unit 1
        (s.modRequest ref.req (fun r =>
          { r.modPiece ref.num (fun c => { c with state := st, ttag := none, deadline := none }) with
            outstanding := r.outstanding - 1, worst := mergeEnd r.worst st }))
    else s

/-! ### Target tags and the outbound queue (R63, R64) -/

def setTag (p : Port) (t : Fin 16) (v : TagState) (s : State) : State :=
  s.modPort p (fun x => { x with tags := setAt x.tags t v })

/-- A GRANTED holder is taken out of the outbound queue and its tag becomes FREE (R63). -/
def unsend (p : Port) (t : Fin 16) (s : State) : State :=
  s.modPort p (fun x => { x with tags := setAt x.tags t .free, outbound := dropOut t x.outbound })

/-- Every one of the port's tags is ORPHANED (R75). -/
def allOrphaned (s : State) (p : Port) : Bool := (s.port p).tags.toList.all (fun v => decide (v = .orphaned))

def Arbiter.modQueue (x : Arbiter) (d : Domain) (f : List PieceRef → List PieceRef) : Arbiter :=
  match d with
  | .pay => { x with pay := f x.pay }
  | .app => { x with app := f x.app }
  | .rad => { x with rad := f x.rad }

/-- A piece joins the end of its domain's queue (R59, R61). -/
def enqueuePiece (p : Port) (d : Domain) (ref : PieceRef) (s : State) : State :=
  s.modPort p (fun x => { x with arbiter := x.arbiter.modQueue d (fun q => q ++ [ref]) })

/-- A piece is taken from its domain's queue; the pieces behind it keep their order (R70, R100). -/
def dequeuePiece (p : Port) (d : Domain) (ref : PieceRef) (s : State) : State :=
  s.modPort p (fun x => { x with arbiter := x.arbiter.modQueue d (fun q => q.filter (fun y => decide (y ≠ ref))) })

/-- A piece leaves the place where it stands, before it ends: a QUEUED piece its queue, a GRANTED one the outbound queue
and its tag; the tag of a SENT one becomes ORPHANED (R63, R64, R73, R100). A CHARGING piece leaves with its request. -/
def vacate (r : Request) (c : Piece) (s : State) : State :=
  match c.state with
  | .charging => s
  | .queued => dequeuePiece r.target r.dom ⟨r.id, c.num⟩ s
  | .granted =>
    match c.ttag with
    | some t => unsend r.target t s
    | none => s
  | .sent =>
    match c.ttag with
    | some t => setTag r.target t .orphaned s
    | none => s
  | .resolved _ => s
  | .removed => s

/-- A request leaves its meter's waiting list; the head takes the release time with it (R85, R89). -/
def leaveMeter (r : Request) (s : State) : State :=
  match r.meter with
  | none => s
  | some n =>
    s.modMeter n (fun v =>
      { v with release := if v.waiting.head? = some r.id then none else v.release
               waiting := v.waiting.filter (fun i => decide (i ≠ r.id)) })

/-- The pieces of record `id` that `f` picks vacate their places and end in `st`. -/
def endPieces (id : Nat) (f : PieceState → Bool) (st : PieceState) (s : State) : State :=
  match s.request id with
  | none => s
  | some r =>
    (r.pieces.filter (fun c => f c.state)).foldl (fun t c => endPiece ⟨id, c.num⟩ st (vacate r c t)) s

/-- Every unsent piece of the request is removed, and the request leaves its waiting list (R70, R89, R12). -/
def removeUnsent (id : Nat) (s : State) : State :=
  match s.request id with
  | none => s
  | some r => leaveMeter r (endPieces id PieceState.unsent .removed s)

/-! ### The end of a request (R56, R71, R72) -/

/-- A request with nothing outstanding ends: it is answered unless it is a POST or abandoned, and its record is released. -/
def finishRequest (id : Nat) (s : State) : State :=
  match s.request id with
  | none => s
  | some r =>
    if r.outstanding = 0 then
      let s1 := s.setRequests (s.requests.filter (fun x => decide (x.id ≠ id)))
      if r.abandoned then s1
      else answerTo r.dom r.tag r.worst.answer (if r.kind = .read ∧ r.worst = .ok then r.readData else []) s1
    else s

/-! ### Meters (R79 to R89) -/

/-- The cost of a piece of `n` bytes in units (R80). -/
def pieceCost (n : Nat) : Nat := 1 + (n + 15) / 16

/-- The credit after a refill at gate time `t` (R81). -/
def Meter.refilled (v : Meter) (t : Nat) : Nat := min (256 * v.depth) (v.credit + v.rate * (t - v.last))

/-- A refill (R81). -/
def Meter.refill (v : Meter) (t : Nat) : Meter := { v with credit := v.refilled t, last := t }

/-- What a meter does with its head's next piece (R84 to R87). -/
inductive Charge where
  /-- Paid: the credit left. -/
  | paid (credit : Nat)
  /-- Admitted by the clamp case (R86). -/
  | clamped
  /-- The head waits for this much more credit. -/
  | waits (shortfall : Nat)
  deriving DecidableEq, Repr

def Meter.tryCharge (v : Meter) (cost : Nat) : Charge :=
  if cost ≤ v.depth then
    (if 256 * cost ≤ v.credit then .paid (v.credit - 256 * cost) else .waits (256 * cost - v.credit))
  else if v.credit = 256 * v.depth then .clamped else .waits (256 * v.depth - v.credit)

/-- The release time of a wait begun at `t`: rounded up to a whole µs; none while the meter is stopped (R85, R87). -/
def Meter.releaseAt (v : Meter) (t shortfall : Nat) : Option Nat :=
  if v.rate = 0 then none else some (t + (shortfall + v.rate - 1) / v.rate)

/-- A charged piece enters QUEUED; at a port that is not UP it resolves LINK_DOWN at once (R77). DESIGN CHOICE (log entry 7): the request
that this ends is answered here, before the meter charges the next head of its list. -/
def enterQueued (r : Request) (num : Nat) (s : State) : State :=
  if s.isUp r.target then
    enqueuePiece r.target r.dom ⟨r.id, num⟩ (setPiece ⟨r.id, num⟩ (fun c => { c with state := .queued }) s)
  else finishRequest r.id (removeUnsent r.id (endPiece ⟨r.id, num⟩ (.resolved .linkDown) s))

/-- Meter `n` charges the CHARGING pieces of its head in number order; true where the head waits (R84 to R87). -/
def chargePieces (n : Fin 16) (id : Nat) : List Nat → State → State × Bool
  | [], s => (s, false)
  | num :: nums, s =>
    match s.piece ⟨id, num⟩ with
    | none => chargePieces n id nums s
    | some (r, c) =>
      if c.state = .charging then
        match (s.meter n).tryCharge (pieceCost c.len) with
        | .paid credit => chargePieces n id nums (enterQueued r num (s.modMeter n (fun v => { v with credit := credit })))
        | .clamped =>
          chargePieces n id nums
            (enterQueued r num (setFlag r.dom .clamped (s.modMeter n (fun v => { v with credit := 0 }))))
        | .waits shortfall =>
          (setFlag r.dom .throttled (s.modMeter n (fun v => { v with release := v.releaseAt s.gateTime shortfall })), true)
      else chargePieces n id nums s

/-- The numbers of the pieces of a record, in order. -/
def pieceNums (s : State) (id : Nat) : List Nat :=
  match s.request id with
  | none => []
  | some r => r.pieces.map (fun c => c.num)

/-- Meter `n` charges the requests of its list one after another until the list is empty or its head waits (R84). -/
def chargeHeads (n : Fin 16) : List Nat → State → State
  | [], s => s.modMeter n (fun v => { v with waiting := [] })
  | id :: rest, s =>
    let s1 := s.modMeter n (fun v => { v with waiting := id :: rest })
    match chargePieces n id (pieceNums s1 id) s1 with
    | (s2, true) => s2
    | (s2, false) => chargeHeads n rest s2

/-- An evaluation of meter `n`: refill, then charge from the head (R81, R84). An empty list is not evaluated. -/
def evalMeter (n : Fin 16) (s : State) : State :=
  match (s.meter n).waiting with
  | [] => s
  | id :: rest => chargeHeads n (id :: rest) (s.modMeter n (fun v => { v.refill s.gateTime with release := none }))

/-- After the removals of one event, made between `before` and `s`: each meter that lost its head evaluates the new one
(R89). -/
def evalNewHeads (before s : State) : State :=
  allMeters.foldl
    (fun t n => if (before.meter n).waiting.head? = (s.meter n).waiting.head? then t else evalMeter n t) s

/-- Place a request at the end of the list of meter `n`. -/
def appendWaiting (n : Fin 16) (id : Nat) (s : State) : State :=
  s.modMeter n (fun v => { v with waiting := v.waiting ++ [id] })

/-- The POST that joined the list last (R83). -/
def lastPost (s : State) (n : Fin 16) : Option Request :=
  ((s.meter n).waiting.filterMap s.request).reverse.find? (fun r => decide (r.kind = .post))

/-- The CHARGING pieces of a POST taken from a full list are removed and THROTTLED is set; a POST left with nothing
outstanding ends (R83). -/
def takeOffPost (r : Request) (s : State) : State :=
  finishRequest r.id
    (setFlag r.dom .throttled (leaveMeter r (endPieces r.id (fun st => decide (st = .charging)) .removed s)))

/-- A request joins the list of meter `n` (R82, R83). -/
def joinMeter (n : Fin 16) (r : Request) (s : State) : State :=
  let waiting := (s.meter n).waiting
  if waiting.length < Config.waitingPlaces then
    if waiting = [] then evalMeter n (appendWaiting n r.id s) else appendWaiting n r.id s
  else if r.kind = .post then
    finishRequest r.id (setFlag r.dom .throttled (endPieces r.id (fun st => decide (st = .charging)) .removed s))
  else
    match lastPost s n with
    | none => appendWaiting n r.id s
    | some q => evalNewHeads s (appendWaiting n r.id (takeOffPost q s))

/-! ### A piece fails (R70, R71) -/

/-- A piece has left its place and ends with the failure `st`: the request's unsent pieces are removed, the meter whose
head left is evaluated, and the request is answered if nothing is outstanding. -/
def failPiece (ref : PieceRef) (st : PieceStatus) (s : State) : State :=
  let s1 := removeUnsent ref.req (endPiece ref (.resolved st) s)
  finishRequest ref.req (evalNewHeads s s1)

/-- The fault of a failing piece (R78). -/
def pieceFault (c : FaultClass) (r : Request) (pc : Piece) : FaultEvent :=
  { cls := c, srcPort := r.dom.port.byte, dom := some r.dom,
    tag := if r.abandoned then none else r.tag.map (fun t => BitVec.ofNat 8 t.1),
    kind := some (recordKind r.kind), addr := some r.addr, len := some r.len, entry := some r.entry,
    target := some r.target, taddr := some pc.addr, unit := r.unit, detail := pc.num }

/-! ### The arbiter (R62, R63) -/

/-- What a grant goes to. -/
inductive Granted where
  | scrub (u : Fin 8)
  | piece (ref : PieceRef)
  deriving DecidableEq, Repr

/-- The head that the arbiter chooses, and the arbiter after the grant (R62). -/
def Arbiter.choose (x : Arbiter) : Option (Granted × Arbiter) :=
  match x.scrub, x.pay, x.app, x.rad with
  | u :: us, _, _, _ => some (.scrub u, { x with scrub := us })
  | [], q :: qs, _, _ => some (.piece q, { x with pay := qs })
  | [], [], q :: qs, r :: rs =>
    match x.turn with
    | .app => some (.piece q, { x with app := qs, turn := .rad })
    | .rad => some (.piece r, { x with rad := rs, turn := .app })
  | [], [], q :: qs, [] => some (.piece q, { x with app := qs, turn := x.turn.other })
  | [], [], [], r :: rs => some (.piece r, { x with rad := rs, turn := x.turn.other })
  | [], [], [], [] => none

/-- The lowest-numbered FREE tag (R63). -/
def lowestFree (v : Vector TagState 16) : Option (Fin 16) := allTags.find? (fun t => decide (v.get t = .free))

/-- The bytes of the payload that fall at a piece's place; a READ piece carries none (R58). -/
def piecePayload (r : Request) (c : Piece) : List Byte :=
  match r.kind with
  | .read => []
  | .write => (r.payload.drop (c.addr - r.taddr).toNat).take c.len
  | .post => (r.payload.drop (c.addr - r.taddr).toNat).take c.len

/-- The step a unit's scrub waits for or has sent: step `scrubPos` of its script (R94, R103). -/
def CustodyUnit.step (u : CustodyUnit) : Option ScrubStep :=
  if u.hand.scrubPos = 0 then none else u.script[u.hand.scrubPos - 1]?

/-- The deadline of a piece from its grant: a POST piece has none (R63, R73). -/
def grantDeadline (r : Request) (t : Nat) : Option Nat := if r.kind = .post then none else r.deadline.expiry t

/-- The grant of tag `t` of port `p` to a scrub step or a piece (R63, R103). A head that names no waiting step or piece
only leaves its queue (log entry 12). -/
def grantTag (p : Port) (t : Fin 16) (g : Granted) (s : State) : State :=
  match g with
  | .scrub u =>
    match (s.unit u).step with
    | none => s
    | some st =>
      placeOut p (.request t .write st.addr (codeOfLength st.data.length) st.data)
        (setTag p t (.live (.scrub u false ((s.port p).config.deadline.expiry s.gateTime))) s)
  | .piece ref =>
    match s.piece ref with
    | none => s
    | some (r, c) =>
      if c.state = .queued then
        placeOut p (.request t r.kind c.addr (codeOfLength c.len) (piecePayload r c))
          (setPiece ref (fun c => { c with state := .granted, ttag := some t, deadline := grantDeadline r s.gateTime })
            (setTag p t (.live (.piece ref)) s))
      else s

/-- One grant of the arbiter of port `p`, where it can make one (R62). -/
def arbiterGrant (p : Port) (s : State) : State :=
  if s.isUp p then
    match lowestFree (s.port p).tags, (s.port p).arbiter.choose with
    | some t, some (g, x) => grantTag p t g (s.modPort p (fun v => { v with arbiter := x }))
    | some _, none => s
    | none, _ => s
  else s

/-- The arbiter of port `p` can make a grant (R62). -/
def grantDue (s : State) (p : Port) : Bool :=
  s.isUp p && (lowestFree (s.port p).tags).isSome && (s.port p).arbiter.choose.isSome

/-! ### Admission (R31, R49, R60, R82) -/

/-- The lowest record number that no live record has (R57). -/
def freshRecord (rs : List Request) : Nat :=
  ((List.range rs.length).find? (fun i => rs.all (fun r => decide (r.id ≠ i)))).getD rs.length

/-- The target address of a request through an entry (R31). -/
def EntryCopy.translate (e : EntryCopy) (a : Addr) : Addr := e.offset + (a - e.base)

/-- The number of pieces a request would be split into through an entry, at the target's max burst now (R49, R58). -/
def piecesThrough (s : State) (q : Arrival) (e : EntryCopy) : Nat :=
  splitCount (s.port e.target).config.maxBurst (e.translate q.addr) q.len

/-- The record of a request admitted through an entry copy (R31, R56). -/
def admittedRecord (s : State) (q : Arrival) (e : EntryCopy) : Request :=
  let cfg := (s.port e.target).config
  let t := e.translate q.addr
  let pieces := splitRequest cfg.maxBurst t q.len (if e.meter.isSome then .charging else .queued)
  { id := freshRecord s.requests, dom := q.dom, tag := q.tag, kind := q.kind, addr := q.addr, len := q.len,
    target := e.target, taddr := t, entry := e.index, meter := e.meter, unit := e.unit, payload := q.payload,
    burst := cfg.maxBurst, deadline := cfg.deadline, pieces := pieces, outstanding := pieces.length, worst := .ok,
    readData := if q.kind = .read then List.replicate q.len 0 else [], abandoned := false }

/-- `n` pieces enter the in-flight count of a bound request's unit (R49). -/
def countIn (unit : Option (Fin 8)) (n : Nat) (s : State) : State :=
  match unit with
  | none => s
  | some u => s.modUnit u (fun v => { v with inFlight := v.inFlight + n })

/-- An admitted request is recorded, split, counted and sent to its meter or to the arbiter (R31); toward a port that is
not UP it is answered LINK_DOWN at once (R60). -/
def admitRequest (q : Arrival) (e : EntryCopy) (s : State) : State :=
  if s.isUp e.target then
    let r := admittedRecord s q e
    let s1 := countIn r.unit r.pieces.length (s.setRequests (s.requests ++ [r]))
    match r.meter with
    | some n => joinMeter n r s1
    | none => r.pieces.foldl (fun t c => enqueuePiece r.target r.dom ⟨r.id, c.num⟩ t) s1
  else answerTo q.dom q.tag .linkDown [] s

/-! ### Denial (R32 to R35) -/

/-- The fault of a denial (R35). -/
def denialFault (c : FaultClass) (q : Arrival) (e : Option EntryCopy) (unit : Option (Fin 8)) : FaultEvent :=
  { cls := c, srcPort := q.dom.port.byte, dom := some q.dom, tag := q.tag.map (fun t => BitVec.ofNat 8 t.1),
    kind := some (recordKind q.kind), addr := some q.addr, len := some q.len, entry := e.map (fun x => x.index),
    target := e.map (fun x => x.target), taddr := e.map (fun x => x.translate q.addr), unit := unit, detail := 0 }

/-- A request is denied with a class, in the style of its entry or unit (R32): it is answered, its flag is set, and its
fault is raised. The answer is placed before the charge, as R35 says; that it is placed before the record too, so that the COMPLETION
stands ahead of a FAULT_NOTICE that the record causes on the same port, is a DESIGN CHOICE (log entry 7). -/
def denyRequest (c : FaultClass) (q : Arrival) (e : Option EntryCopy) (unit : Option (Fin 8)) (style : Style)
    (s : State) : State :=
  match style.effective (s.domain q.dom).style with
  | .refuse =>
    raiseFault (denialFault c q e unit) (setFlag q.dom .denied (answerTo q.dom q.tag .denied [] s))
  | .mask =>
    raiseFault (denialFault c q e unit)
      (setFlag q.dom .masked
        (answerTo q.dom q.tag .ok
          (if q.kind = .read then List.replicate q.len (s.domain q.dom).fill else []) s))

end Sys2Proof.Machine
end

