-- ==== Sys2Proof/Machine/Handover.lean ====
section
/-! DEFINITION. Custody: admission, the parked list, and the handover's drain, scrub, settle delay, grant, failure and abort. -/

namespace Sys2Proof.Machine

open Sys2Proof

/-! ### Admission (R51) -/

/-- OPEN admits every domain, HELD(h) admits h (R51, R108). -/
def Holding.admits : Holding → Domain → Bool
  | .opened, _ => true
  | .held h, d => decide (d = h)

def Resting.admits : Resting → Domain → Bool
  | .opened, _ => true
  | .held h, d => decide (d = h)
  | .failed, _ => false

/-- The answers of the custody step (R30). -/
inductive CustodyAnswer where
  | enter | park | deny
  deriving DecidableEq, Repr

/-- Admit, unless the in-flight count would pass 1,632 (R49). -/
def admitWithin (u : CustodyUnit) (n : Nat) : CustodyAnswer :=
  if u.inFlight + n ≤ Config.inFlightLimit then .enter else .deny

/-- Park, unless the list holds 96 requests (R51). -/
def parkWithin (u : CustodyUnit) : CustodyAnswer := if u.parked.length < Config.parkedPlaces then .park else .deny

/-- The answer of a unit to a request of domain `d` that would be `n` pieces (R51). -/
def CustodyUnit.answer (u : CustodyUnit) (d : Domain) (n : Nat) : CustodyAnswer :=
  match u.state with
  | .opened => admitWithin u n
  | .held h => if d = h then admitWithin u n else .deny
  | .draining t => if t.admits d then parkWithin u else .deny
  | .scrubbing t => if t.admits d then parkWithin u else .deny
  | .failed => .deny

/-! ### The parked list (R52, R53) -/

def parkRequest (u : Fin 8) (q : Arrival) (e : EntryCopy) (s : State) : State :=
  s.modUnit u (fun v => { v with parked := v.parked ++ [⟨q, e⟩] })

/-- A CUSTODY denial, in the unit's style as it stands (R51, R53). -/
def denyCustody (u : Fin 8) (q : Arrival) (e : EntryCopy) (s : State) : State :=
  denyRequest .custody q (some e) (some u) (s.unit u).style s

/-- One parked request is decided again by the custody step alone; it is not parked a second time (R53). -/
def redecideOne (u : Fin 8) (s : State) (k : Parked) : State :=
  match (s.unit u).answer k.req.dom (piecesThrough s k.req k.entry) with
  | .enter => admitRequest k.req k.entry s
  | .park => denyCustody u k.req k.entry s
  | .deny => denyCustody u k.req k.entry s

/-- The whole parked list is taken from the unit and decided again, oldest first (R53). -/
def redecideParked (u : Fin 8) (s : State) : State :=
  (s.unit u).parked.foldl (redecideOne u) (s.modUnit u (fun v => { v with parked := [] }))

/-! ### Replies and notices (R108, R109) -/

/-- The handover result: unit, state byte, cut count, scrub position (R109, R171). -/
def handoverResult (u : Fin 8) (st : UnitState) (cutCount scrubPos : Nat) : List Byte :=
  [BitVec.ofNat 8 u.1, st.byte] ++ leBytes 2 cutCount ++ [BitVec.ofNat 8 scrubPos]

/-- The domains admitted under one of the two states and not under the other each get a CUSTODY_NOTICE (R108, R121). -/
def sendNotices (starting final : Resting) (s : State) : State :=
  (allDomains.filter (fun d => starting.admits d != final.admits d)).foldl (fun t d => handCustodyNotice d t) s

/-- The handover's working state is cleared (R94). -/
def clearHandover (u : Fin 8) (s : State) : State :=
  s.modUnit u (fun v => { v with pendingTake := none, hand := Handover.idle })

def Holding.resting : Holding → Resting
  | .opened => .opened
  | .held h => .held h

/-! ### The end of a handover (R106, R107) -/

/-- The port byte of a unit in a fault; a unit that scrubs has a port (log entry 12). -/
def unitPortByte (v : CustodyUnit) : Byte :=
  match v.port with
  | some p => p.byte
  | none => 7

/-- The scrub fails (R106). -/
def scrubFail (u : Fin 8) (s : State) : State :=
  let v := s.unit u
  let s1 := s.modUnit u (fun v => { v with state := .failed, hand := { v.hand with settleTimer := none } })
  let s2 := raiseFault (portFault .scrubFailed (unitPortByte v) (some u) (v.step.map (fun st => st.addr)) v.hand.scrubPos) s1
  let s3 := sendNotices v.hand.starting .failed (redecideParked u s2)
  endCommand (.custody u) .failed (handoverResult u .failed v.hand.cutCount v.hand.scrubPos) (clearHandover u s3)

/-- The grant of a unit that scrubs toward `t` (R107). -/
def grantUnit (u : Fin 8) (t : Holding) (s : State) : State :=
  let v := s.unit u
  let s1 := s.modUnit u (fun v =>
    { v with state := t.toState, previous := if v.hand.op = some .giveBack then .opened else v.previous
             hand := { v.hand with settleTimer := none } })
  let s2 := sendNotices v.hand.starting t.resting (redecideParked u s1)
  endCommand (.custody u) .ok (handoverResult u t.toState v.hand.cutCount 0) (clearHandover u s2)

/-! ### Drain end, scrub, settle delay (R99, R103 to R105) -/

/-- The settle delay starts; a delay of value 0 is empty and the grant follows (R105). -/
def startSettle (u : Fin 8) (t : Holding) (s : State) : State :=
  let s1 := s.modUnit u (fun v => { v with hand := { v.hand with scrubPos := 0 } })
  match (s.unit u).settle.expiry s.gateTime with
  | none => grantUnit u t s1
  | some e => s1.modUnit u (fun v => { v with hand := { v.hand with settleTimer := some e } })

/-- Step `n` of the script waits in the port's scrub queue (R103, R104). -/
def placeStep (u : Fin 8) (p : Port) (n : Nat) (s : State) : State :=
  (s.modUnit u (fun v => { v with hand := { v.hand with scrubPos := n } })).modPort p
    (fun x => { x with arbiter := { x.arbiter with scrub := x.arbiter.scrub ++ [u] } })

/-- The scrub begins (R103). -/
def beginScrub (u : Fin 8) (t : Holding) (s : State) : State :=
  match (s.unit u).port with
  | none => scrubFail u s
  | some p =>
    if s.isUp p then (if (s.unit u).script = [] then startSettle u t s else placeStep u p 1 s) else scrubFail u s

/-- The drain toward `t` ends: timer stopped, SCRUBBING, scrub begun (R99). -/
def endDrain (u : Fin 8) (t : Holding) (s : State) : State :=
  beginScrub u t
    (s.modUnit u (fun v => { v with state := .scrubbing t, hand := { v.hand with drainTimer := none, scrubPos := 0 } }))

/-- The drain of unit `u` has ended: it is DRAINING with no piece in flight (R99). -/
def drainDue (s : State) (u : Fin 8) : Option Holding :=
  match (s.unit u).state with
  | .draining t => if (s.unit u).inFlight = 0 then some t else none
  | .opened => none
  | .held _ => none
  | .scrubbing _ => none
  | .failed => none

/-- A drain that has ended begins its scrub (R99, R103); any other unit is left as it is. -/
def beginDue (u : Fin 8) (s : State) : State :=
  match drainDue s u with
  | some t => endDrain u t s
  | none => s

/-- A scrub step of unit `u` has completed OK (R104). -/
def stepDone (u : Fin 8) (s : State) : State :=
  match (s.unit u).state, (s.unit u).port with
  | .scrubbing t, some p =>
    if (s.unit u).script.length ≤ (s.unit u).hand.scrubPos then startSettle u t s
    else placeStep u p ((s.unit u).hand.scrubPos + 1) s
  | _, _ => s

/-- A scrub step of unit `u` has ended in error, timeout or link down (R104). -/
def stepFailed (u : Fin 8) (s : State) : State :=
  match (s.unit u).state with
  | .scrubbing _ => scrubFail u s
  | .opened => s
  | .held _ => s
  | .draining _ => s
  | .failed => s

/-! ### Takes and returns (R96, R97, R98) -/

/-- OPEN, HELD(x) or FAILED: the states in which a handover may start (R95, R97). -/
def UnitState.resting : UnitState → Option Resting
  | .opened => some .opened
  | .held h => some (.held h)
  | .failed => some .failed
  | .draining _ => none
  | .scrubbing _ => none

/-- The value a take saves in previous (R47, R96): FAILED leaves it as it is. -/
def savedPrevious (start : Resting) (old : Holding) : Holding :=
  match start with
  | .opened => .opened
  | .held h => .held h
  | .failed => old

/-- A handover toward `t` is accepted on a unit at rest in `start`, by the command of tag `tag` (R96, R97). -/
def acceptHandover (u : Fin 8) (op : HandoverKind) (start : Resting) (t : Holding) (tag : Fin 4) (s : State) : State :=
  let s1 := (carryCommand .pay tag (.custody u) s).modUnit u (fun v =>
    { v with
      previous := if op = .take then savedPrevious start v.previous else v.previous
      state := .draining t
      pendingTake := some tag
      hand := { op := some op, starting := start, drainTimer := none, scrubPos := 0, settleTimer := none, cutCount := 0 } })
  if (s.unit u).inFlight = 0 then endDrain u t s1
  else s1.modUnit u (fun v => { v with hand := { v.hand with drainTimer := v.drain.expiry s.gateTime } })

/-- The target of a return from HELD(h) (R97). -/
def returnTarget (h : Domain) (previous : Holding) : Holding := if previous = .held h then .opened else previous

/-- A draining take is aborted by a return of tag `tag` (R98): state restored, replies ABORTED and OK, parked list decided
again. -/
def abortTake (u : Fin 8) (tag : Fin 4) (s : State) : State :=
  let back := (s.unit u).previous.toState
  let s1 := clearHandover u (s.modUnit u (fun v => { v with state := back }))
  let s2 := reply .pay tag .ok (handoverResult u back 0 0)
    (endCommand (.custody u) .aborted (handoverResult u back 0 0) s1)
  redecideParked u s2

end Sys2Proof.Machine
end

