-- ==== Sys2Proof/Machine/Resets.lean ====
section
/-! DEFINITION. The port reset (R10 to R13, R76, R110), the orphan limit (R75), link up (R122), the reset of the part (R14, R167). -/

namespace Sys2Proof.Machine

open Sys2Proof

/-! ### The target side of a port reset (R76) -/

/-- A state of a piece that has reached its target port: QUEUED, GRANTED or SENT. -/
def PieceState.atTarget : PieceState → Bool
  | .queued | .granted | .sent => true
  | .charging => false
  | .resolved _ => false
  | .removed => false

/-- The request has a piece that a reset of port `p` reaches (R76). -/
def Request.reached (p : Port) (r : Request) : Bool := decide (r.target = p) && r.pieces.any (fun c => c.state.atTarget)

/-- The pieces of one record at the port resolve LINK_DOWN and its others are removed (R70, R76). -/
def linkDownRequest (s : State) (id : Nat) : State :=
  removeUnsent id (endPieces id PieceState.atTarget (.resolved .linkDown) s)

/-- Every tag FREE, every arbiter queue and both buffers empty; the turn and the configuration stay (R11, R62, R64, R76). -/
def emptyPort (v : PortState) : PortState :=
  { v with ingress := [], outbound := [], tags := Vector.replicate 16 .free,
           arbiter := { scrub := [], pay := [], app := [], rad := [], turn := v.arbiter.turn } }

/-! ### The initiator side of a port reset (R12, R13) -/

/-- One request of the port is abandoned; its unsent pieces are removed (R12). -/
def abandonRequest (s : State) (id : Nat) : State :=
  removeUnsent id (s.modRequest id (fun r => { r with abandoned := true }))

/-- The records of requests taken on the port of `d`. -/
def requestsOf (s : State) (d : Domain) : List Nat := (s.requests.filter (fun r => decide (r.dom = d))).map (fun r => r.id)

/-- Parked requests of `d` are dropped from every unit (R12, R54). -/
def dropParked (d : Domain) (s : State) : State :=
  allUnits.foldl
    (fun t u => t.modUnit u (fun v => { v with parked := v.parked.filter (fun k => decide (k.req.dom ≠ d)) })) s

/-- The tags are freed, the engine's list keeps only the running long commands, all marked; gap flag, event count and
places are cleared (R12, R13, R114, R158). -/
def emptyInit (v : InitState) : InitState :=
  { tags := []
    commands := (v.commands.filter (fun c => c.carrier.isSome)).map (fun c => { c with discard := true })
    gap := false, eventCount := 0, faultNotice := .empty, custodyNotice := .empty }

/-- The initiator side: abandonment, parked requests dropped, commands marked, a running validation aborted if the port is
P, the notice re-armed (R12, R13, R157). -/
def resetInitiator (d : Domain) (s : State) : State :=
  let s1 := dropParked d ((requestsOf s d).foldl abandonRequest s)
  let s2 := setArmed d true (s1.modInit d emptyInit)
  if d = .pay then abortCommit s2 else s2

/-! ### The port reset -/

/-- The handover of a unit whose port has just had a port reset: a scrub fails, and a drain with no piece left in flight ends
and its scrub fails at once, the port not being UP (R67, R103, R104, R105, R110). -/
def endAtReset (u : Fin 8) (s : State) : State :=
  match (s.unit u).state with
  | .draining _ => beginDue u s
  | .scrubbing _ => stepFailed u s
  | .opened => s
  | .held _ => s
  | .failed => s

/-- The units on port `p`, in index order. -/
def unitsOn (s : State) (p : Port) : List (Fin 8) := allUnits.filter (fun u => decide ((s.unit u).port = some p))

/-- The handovers that a reset of `p` ends, in index order (R110). The unit `cutting` is left out: it is being cut, and its drain ends
once the cut is complete (R101). -/
def endHandovers (p : Port) (cutting : Option (Fin 8)) (s : State) : State :=
  ((unitsOn s p).filter (fun u => decide (some u ≠ cutting))).foldl (fun t u => endAtReset u t) s

/-- The drains on `p` that have ended and whose DRAIN_END has not been taken begin their scrubs, in index order (R99; log entry 15). -/
def beginDueOn (p : Port) (s : State) : State := (unitsOn s p).foldl (fun t u => beginDue u t) s

/-- The fault of a port reset (R76). -/
def linkDownFault (p : Port) (affected : Nat) : FaultEvent := portFault .linkDown p.byte none none affected

/-- A port reset of `p`, which goes to `link` with hold `hold` (R10, R11): the pieces toward it end, its own requests are
abandoned, the meters that lost their heads evaluate, emptied requests are answered, one LINK_DOWN record is queued, and
the scrubs on it fail, those of the drains whose last pieces it ended among them (R110). DESIGN CHOICE: LINK_DOWN is raised before their
SCRUB_FAILED (log entry 7), the event places of an initiator port are emptied before they hand their CUSTODY_NOTICEs, one for the port
itself being HELD after the reset (log entry 22), and a drain that had ended before the reset ends within it (log entry 15). -/
def resetPort (p : Port) (link : LinkState) (hold : Option Nat) (cutting : Option (Fin 8)) (s : State) : State :=
  let reached := (s.requests.filter (fun r => r.reached p)).map (fun r => r.id)
  let s1 := s.modPort p (fun v => { v with link := link, established := false, hold := hold })
  let s2 := (reached.foldl linkDownRequest s1).modPort p emptyPort
  let own := match p.domain with
    | some d => requestsOf s2 d
    | none => []
  let s3 := match p.domain with
    | some d => resetInitiator d s2
    | none => s2
  let s4 := (reached ++ own).foldl (fun t id => finishRequest id t) (evalNewHeads s s3)
  endHandovers p cutting (raiseFault (linkDownFault p reached.length) s4)

/-- The orphan limit of port `p` (R75): where all 16 tags are ORPHANED, the record and then the port reset; `cutting` is the unit whose
cut is being made (R101). -/
def orphanLimit (p : Port) (cutting : Option (Fin 8)) (s : State) : State :=
  if allOrphaned s p then
    resetPort p .resetting (some (s.gateTime + Config.holdTime)) cutting (raiseFault (portFault .orphanLimit p.byte none none 0) s)
  else s

/-! ### Link up (R13, R122, R131) -/

/-- An initiator port has become UP: its HELD CUSTODY_NOTICE is placed, then a FAULT_NOTICE if its queue holds records. -/
def announceUp (d : Domain) (s : State) : State :=
  let s1 :=
    if (s.init d).custodyNotice = .held then
      (placeOut d.port (.notice .custody) s).modInit d (fun v => { v with custodyNotice := .waiting })
    else s
  if queueFill s1 d = 0 then s1 else tellReader d s1

/-- A port becomes UP. A drain on it that ended while it was not UP fails its scrub first (R99, R103; log entry 15). -/
def bringUp (p : Port) (s : State) : State :=
  let s1 := (beginDueOn p s).modPort p (fun v => { v with link := .up, established := false, hold := none })
  match p.domain with
  | some d => announceUp d s1
  | none => s1

/-! ### The reset of the part -/

/-- A reset of the part: everything takes its reset value and the cause is recorded (R14, R113, R167). The queue of
commands that wait and the packets their senders hold are the outside's, not the part's (log entries 1 and 13). -/
def resetPart (cause : ResetCause) (s : State) : State := { State.afterReset cause with pending := s.pending, wire := s.wire }

end Sys2Proof.Machine
end

