-- ==== Sys2Proof/Machine/Timers.lean ====
section
/-! DEFINITION. The timers that run, when they have expired, and what is due at an instant (R17). -/

namespace Sys2Proof.Machine

open Sys2Proof

/-- The live piece that holds tag `t` of port `p`, with its record (R73). -/
def pieceUnder (s : State) (p : Port) (t : Fin 16) : Option (PieceRef × Request × Piece) :=
  match (s.port p).tags.get t with
  | .live (.piece ref) =>
    match s.piece ref with
    | some (r, c) => if c.state.live then some (ref, r, c) else none
    | none => none
  | .live (.scrub _ _ _) => none
  | .free => none
  | .orphaned => none

/-- The tag that the scrub step of unit `u` holds at the unit's port, whether the step has left, and its deadline. -/
def stepTag (s : State) (u : Fin 8) : Option (Port × Fin 16 × Bool × Option Nat) :=
  match (s.unit u).port with
  | none => none
  | some p =>
    allTags.findSome? (fun t =>
      match (s.port p).tags.get t with
      | .live (.scrub v sent e) => if v = u then some (p, t, sent, e) else none
      | .live (.piece _) => none
      | .free => none
      | .orphaned => none)

/-- The drain timer of unit `u`, while it can cut: DRAINING with pieces in flight (R94, R100). -/
def cutTimer (s : State) (u : Fin 8) : Option (Holding × Nat) :=
  match (s.unit u).state with
  | .draining t => if (s.unit u).inFlight = 0 then none else (s.unit u).hand.drainTimer.map (fun e => (t, e))
  | .opened => none
  | .held _ => none
  | .scrubbing _ => none
  | .failed => none

/-- The settle timer of unit `u` (R105). -/
def settleTimerOf (s : State) (u : Fin 8) : Option (Holding × Nat) :=
  match (s.unit u).state with
  | .scrubbing t => (s.unit u).hand.settleTimer.map (fun e => (t, e))
  | .opened => none
  | .held _ => none
  | .draining _ => none
  | .failed => none

/-- The hold of a RESETTING port (R10). -/
def holdOf (s : State) (p : Port) : Option Nat := if (s.port p).link = .resetting then (s.port p).hold else none

/-- The release time of a meter (R85). -/
def releaseOf (s : State) (n : Fin 16) : Option Nat := (s.meter n).release

/-- The timers that run, each with the command that its expiry is; a validation ends at the latest 400 µs after its
start (R152). DESIGN CHOICE (log entry 8): where that lies beyond the largest gate time, the end does not fall due, as a timer's does not
(R15). -/
def runningTimers (s : State) : List (Nat × Instr) :=
  (match s.commit with
    | some c => [(c.started + Config.validationLimit, Instr.validationEnd)]
    | none => [])
  ++ allPorts.filterMap (fun p => (holdOf s p).map (fun e => (e, .holdExpiry p)))
  ++ allMeters.filterMap (fun n => (releaseOf s n).map (fun e => (e, .releaseTime n)))
  ++ allPorts.flatMap (fun p => allTags.filterMap (fun t =>
      match pieceUnder s p t with
      | some (_, _, c) => c.deadline.map (fun e => (e, .completionDeadline p t))
      | none => none))
  ++ allUnits.filterMap (fun u =>
      match stepTag s u with
      | some (_, _, _, some e) => some (e, .scrubStepDeadline u)
      | some (_, _, _, none) => none
      | none => none)
  ++ allUnits.filterMap (fun u => (cutTimer s u).map (fun x => (x.2, .drainDeadline u)))
  ++ allUnits.filterMap (fun u => (settleTimerOf s u).map (fun x => (x.2, .settleExpiry u)))

/-- What the block does at this instant by itself, in the order it does it when nothing else is commanded (log entry 2):
drains that have ended, grants that can be made, timers that have expired, packets at the heads of the ingress buffers. -/
def dueEvents (s : State) : List Instr :=
  allUnits.filterMap (fun u => (drainDue s u).map (fun _ => .drainEnd u))
  ++ (allPorts.filter (fun p => grantDue s p)).map (fun p => .arbiterGrant p)
  ++ ((runningTimers s).filter (fun x => decide (x.1 ≤ s.gateTime))).map (fun x => x.2)
  ++ (allPorts.filter (fun p => s.isUp p)).filterMap (fun p => (s.port p).ingress.head?.map (commandOf p))

/-- The ports at which a packet can arrive now, in the order of their indices (R6). -/
def arrivals (s : State) : List Port := allPorts.filter (fun p => canArrive s p)

/-- Nothing arrives or is due now, and no timer expires before gate time `t`. -/
def quietUntil (s : State) (t : Nat) : Bool :=
  (arrivals s).isEmpty && (dueEvents s).isEmpty && (runningTimers s).all (fun x => decide (t ≤ x.1))

/-- One microsecond passes; the largest value holds (R15). -/
def tick (s : State) : State := s.setGateTime (min Config.lastTime (s.gateTime + 1))

end Sys2Proof.Machine
end

