-- ==== Sys2Proof/Machine/Completions.lean ====
section
/-! DEFINITION. How pieces and scrub steps end: COMPLETION_TAKEN, COMPLETION_DEADLINE, SCRUB_STEP_DEADLINE. -/

namespace Sys2Proof.Machine

open Sys2Proof

/-- `bytes` are placed in `data` from offset `off` (R66). -/
def placeBytes (data : List Byte) (off : Nat) (bytes : List Byte) : List Byte :=
  data.take off ++ bytes ++ data.drop (off + bytes.length)

/-- The status with which a SENT piece is resolved by its COMPLETION (R66). -/
def completionStatus (r : Request) (c : Piece) (status : Byte) (payload : List Byte) : PieceStatus :=
  if status ≠ 0 then .targetError
  else if r.kind = .read ∧ payload.length ≠ c.len then .targetError
  else .ok

/-- The bytes of an OK READ piece go to the request's read data at the piece's place (R66). -/
def takeReadData (r : Request) (c : Piece) (payload : List Byte) (s : State) : State :=
  if r.kind = .read then
    s.modRequest r.id (fun x => { x with readData := placeBytes x.readData (c.addr - r.taddr).toNat payload })
  else s

/-- A SENT piece is resolved by its COMPLETION; its tag is already FREE (R66, R70, R71, R78). -/
def completePiece (ref : PieceRef) (r : Request) (c : Piece) (status : Byte) (payload : List Byte) (s : State) : State :=
  match completionStatus r c status payload with
  | .ok => finishRequest ref.req (endPiece ref (.resolved .ok) (takeReadData r c payload s))
  | .targetError => raiseFault (pieceFault .targetError r c) (failPiece ref .targetError s)
  | .timeout => s
  | .cut => s
  | .linkDown => s

/-- A COMPLETION whose tag's holder has not left the link: malformed, check 4 (R65). -/
def completionMalformed (p : Port) (tag : Fin 16) (status : Byte) (present : Bool) (lengthCode : Byte)
    (payload : List Byte) (s : State) : State :=
  raiseFault (malformedFault p (.completion tag status present lengthCode payload) 4) s

/-- A COMPLETION that passed the checks of R7 is matched by its tag (R65). -/
def completionArrives (p : Port) (tag : Fin 16) (status : Byte) (present : Bool) (lengthCode : Byte)
    (payload : List Byte) (s : State) : State :=
  match (s.port p).tags.get tag with
  | .free => s
  | .orphaned => setTag p tag .free s
  | .live (.scrub u sent _) =>
    if sent then (if status = 0 then stepDone u (setTag p tag .free s) else stepFailed u (setTag p tag .free s))
    else completionMalformed p tag status present lengthCode payload s
  | .live (.piece ref) =>
    match s.piece ref with
    | none => completionMalformed p tag status present lengthCode payload s
    | some (r, c) =>
      if c.state = .sent then completePiece ref r c status payload (setTag p tag .free s)
      else completionMalformed p tag status present lengthCode payload s

/-- COMPLETION_TAKEN (R65). -/
def execCompletionTaken (p : Port) (tag : Fin 16) (status : Byte) (present : Bool) (lengthCode : Byte)
    (payload : List Byte) (s : State) : Host.Outcome State Fault Refusal :=
  .next (takePacket p (.completion tag status present lengthCode payload)
    (completionArrives p tag status present lengthCode payload) s)

/-- COMPLETION_DEADLINE of the piece under tag `tag` of port `p`: it resolves TIMEOUT, its tag is orphaned or freed, the
flag is set, the fault raised, and the orphan limit judged (R73, R75, R78). DESIGN CHOICE (log entry 21): the removal of R70, the answer,
the flag and the TIMEOUT record come before the ORPHAN_LIMIT record and the port reset. -/
def execCompletionDeadline (p : Port) (tag : Fin 16) (s : State) : Host.Outcome State Fault Refusal :=
  .next (match pieceUnder s p tag with
    | none => s
    | some (ref, r, c) =>
      if expired c.deadline s.gateTime then
        orphanLimit p none
          (raiseFault (pieceFault .timeout r c) (setFlag r.dom .timeout (failPiece ref .timeout (vacate r c s))))
      else s)

/-- SCRUB_STEP_DEADLINE of unit `u`: the step ends in timeout, its tag is orphaned or freed, the scrub fails, and the
orphan limit is judged (R67, R75, R104). -/
def execScrubStepDeadline (u : Fin 8) (s : State) : Host.Outcome State Fault Refusal :=
  .next (match stepTag s u with
    | none => s
    | some (p, t, sent, e) =>
      if expired e s.gateTime then
        orphanLimit p none (stepFailed u (if sent then setTag p t .orphaned s else unsend p t s))
      else s)

end Sys2Proof.Machine
end

