-- ==== Sys2Proof/Machine/Custody.lean ====
section
/-! DEFINITION. The steps of a handover and the custody commands: DRAIN_END, DRAIN_DEADLINE, SETTLE_EXPIRY, UNIT_DEFINE,
CUSTODY_TAKE, CUSTODY_RETURN, UNIT_READ. -/

namespace Sys2Proof.Machine

open Sys2Proof

/-- DRAIN_END of unit `u` (R99). -/
def execDrainEnd (u : Fin 8) (s : State) : Host.Outcome State Fault Refusal :=
  .next (beginDue u s)

/-! ### The cut (R100, R101) -/

/-- The records of unit `u` that have a piece in flight, in record order (R101). -/
def requestsInFlight (s : State) (u : Fin 8) : List Request :=
  s.requests.filter (fun r => decide (r.unit = some u) && r.pieces.any (fun c => c.state.live))

/-- Every piece in flight of one request resolves CUT, and the request leaves its waiting list (R100). -/
def cutRequest (s : State) (r : Request) : State := leaveMeter r (endPieces r.id PieceState.live (.resolved .cut) s)

/-- The cut of unit `u` (R100, R101): pieces cut, new heads evaluated, requests answered, CUT flags, cut count, CUT record. -/
def makeCut (u : Fin 8) (s : State) : State :=
  let reached := requestsInFlight s u
  let s1 := (reached.foldl cutRequest s).modUnit u (fun v =>
    { v with inFlight := 0, hand := { v.hand with cutCount := reached.length } })
  let s2 := reached.foldl (fun t r => finishRequest r.id t) (evalNewHeads s s1)
  let s3 := reached.foldl (fun t r => setFlag r.dom .cut t) s2
  raiseFault (portFault .cut (unitPortByte (s.unit u)) (some u) none reached.length) s3

/-- DRAIN_DEADLINE of unit `u`: the cut, the orphan limit of each port, then the end of the drain (R100, R101). -/
def execDrainDeadline (u : Fin 8) (s : State) : Host.Outcome State Fault Refusal :=
  .next (match cutTimer s u with
    | some (t, e) =>
      if e ≤ s.gateTime then endDrain u t (allPorts.foldl (fun x p => orphanLimit p (some u) x) (makeCut u s)) else s
    | none => s)

/-- SETTLE_EXPIRY of unit `u`: the grant (R107). -/
def execSettleExpiry (u : Fin 8) (s : State) : Host.Outcome State Fault Refusal :=
  .next (match settleTimerOf s u with
    | some (t, e) => if e ≤ s.gateTime then grantUnit u t s else s
    | none => s)

/-! ### UNIT_DEFINE (R42 to R44) -/

/-- Another unit for which `f` holds. -/
def anotherUnit (s : State) (u : Fin 8) (f : CustodyUnit → Bool) : Bool :=
  allUnits.any (fun v => decide (v ≠ u) && f (s.unit v))

/-- Checks 3 to 5 of R43 pass for a definition on port `p`. -/
def definitionFits (s : State) (u : Fin 8) (d : UnitDefinition) (p : Port) : Bool :=
  !anotherUnit s u (fun v => v.overlaps p d.start.toNat (sizeBytes d.size))
  && (!d.events || (p.sendsEvents && !anotherUnit s u (fun v => decide (v.port = some p) && v.events)))
  && d.script.all (fun st =>
      decide (d.start.toNat ≤ st.addr.toNat)
      && decide (st.addr.toNat + st.data.length ≤ d.start.toNat + sizeBytes d.size))

/-- The definition is stored: previous becomes OPEN, the working part is kept (R42, R44). -/
def CustodyUnit.define (v : CustodyUnit) (d : UnitDefinition) : CustodyUnit :=
  { v with port := d.port, start := d.start, size := d.size, events := d.events, style := d.style, drain := d.drain,
           script := d.script, settle := d.settle, previous := .opened }

/-- Accepted: a running validation is aborted, the definition stored, the reply OK placed (R42, R44, R157). -/
def storeDefinition (u : Fin 8) (d : UnitDefinition) (c : Domain) (m : MgmtPacket) (s : State) : State :=
  reply c m.tag .ok [] ((abortCommit s).modUnit u (fun v => v.define d))

/-- The checks of R43 in their order. -/
def defineUnit (c : Domain) (m : MgmtPacket) (s : State) : State :=
  if m.params.length < 16 then badParameter c m s
  else
    match indexOf 8 (byteAt m.params 0), definitionOfImage m.params with
    | some u, some d =>
      if (s.unit u).state = .opened then
        match d.port with
        | none => storeDefinition u d c m s
        | some p =>
          if definitionFits s u d p then
            match custodyGap s u p d.start.toNat (sizeBytes d.size) with
            | some i => reply c m.tag .rejected [BitVec.ofNat 8 i, 5] s
            | none => storeDefinition u d c m s
          else badParameter c m s
      else reply c m.tag .busy [] s
    | _, _ => badParameter c m s

/-- UNIT_DEFINE (R42). -/
def execUnitDefine (p : Port) (m : MgmtPacket) (s : State) : Host.Outcome State Fault Refusal :=
  .next (takeCommand p 0x20 m onlyP (fun d => defineUnit d m) s)

/-! ### CUSTODY_TAKE (R95, R96) -/

/-- A target code: 0 to 2 HELD of a domain, 3 OPEN (R175). -/
def targetOfCode (b : Byte) : Option Holding := if b = 3 then some .opened else (domainOfCode b).map .held

/-- A take of unit `u` toward `t` (R95). -/
def takeUnit (u : Fin 8) (t : Holding) (c : Domain) (m : MgmtPacket) (s : State) : State :=
  if (s.unit u).port = none then badParameter c m s
  else
    match (s.unit u).state.resting with
    | none => reply c m.tag .busy [] s
    | some start =>
      if (s.unit u).state = t.toState then reply c m.tag .ok (handoverResult u t.toState 0 0) s
      else acceptHandover u .take start t m.tag s

/-- CUSTODY_TAKE (R95). -/
def execCustodyTake (p : Port) (m : MgmtPacket) (s : State) : Host.Outcome State Fault Refusal :=
  .next (takeCommand p 0x21 m onlyP
    (fun d s1 =>
      match m.params with
      | [ub, tb] =>
        match indexOf 8 ub, targetOfCode tb with
        | some u, some t => takeUnit u t d m s1
        | _, _ => badParameter d m s1
      | _ => badParameter d m s1) s)

/-! ### CUSTODY_RETURN (R97, R98) -/

/-- A return of unit `u` (R97). A drain whose count has reached 0 has ended, so it is not aborted (R98; log entry 15). -/
def returnUnit (u : Fin 8) (c : Domain) (m : MgmtPacket) (s : State) : State :=
  let v := s.unit u
  match v.state with
  | .opened => reply c m.tag .ok (handoverResult u .opened 0 0) s
  | .held h => acceptHandover u .giveBack (.held h) (returnTarget h v.previous) m.tag s
  | .draining _ =>
    if v.hand.op = some .take ∧ v.inFlight ≠ 0 then abortTake u m.tag s else reply c m.tag .busy [] s
  | .scrubbing _ => reply c m.tag .busy [] s
  | .failed => acceptHandover u .giveBack .failed v.previous m.tag s

/-- CUSTODY_RETURN (R97). -/
def execCustodyReturn (p : Port) (m : MgmtPacket) (s : State) : Host.Outcome State Fault Refusal :=
  .next (takeCommand p 0x22 m onlyP
    (fun d s1 =>
      match m.params with
      | [ub] =>
        match indexOf 8 ub with
        | some u => returnUnit u d m s1
        | none => badParameter d m s1
      | _ => badParameter d m s1) s)

/-- UNIT_READ (R45). -/
def execUnitRead (p : Port) (m : MgmtPacket) (s : State) : Host.Outcome State Fault Refusal :=
  .next (takeCommand p 0x23 m onlyP
    (fun d s1 =>
      match m.params with
      | [ub] =>
        match indexOf 8 ub with
        | some u => reply d m.tag .ok ((s1.unit u).readImage u) s1
        | none => badParameter d m s1
      | _ => badParameter d m s1) s)

end Sys2Proof.Machine
end

