-- ==== Sys2Proof/Machine/Events.lean ====
section
/-! DEFINITION. Peripheral events and malformed packets: EVENT_TAKEN, MALFORMED_PACKET_TAKEN. -/

namespace Sys2Proof.Machine

open Sys2Proof

/-- The event unit of a port: the unit on it that carries events (R116). -/
def eventUnit (s : State) (p : Port) : Option CustodyUnit :=
  s.units.toList.find? (fun u => decide (u.port = some p) && u.events)

/-- The domain to whose port an event from `p` goes; none where it is discarded (R116). -/
def eventDestination (s : State) (p : Port) : Option Domain :=
  match eventUnit s p with
  | none => (s.port p).config.route
  | some u =>
    match u.state with
    | .opened => (s.port p).config.route
    | .held h => some h
    | .draining _ => none
    | .scrubbing _ => none
    | .failed => none

/-- An event from `p` is delivered to the port of `d` (R117). -/
def deliverEvent (p : Port) (d : Domain) (code : Byte) (payload : List Byte) (s : State) : State :=
  if s.isUp d.port then
    if (s.init d).eventCount < Config.eventPlaces then
      (placeOut d.port (.event p.byte code (s.init d).gap payload) s).modInit d
        (fun v => { v with eventCount := v.eventCount + 1, gap := false })
    else s.modInit d (fun v => { v with gap := true })
  else s

/-- An EVENT that passed the checks of R7 is routed (R115). -/
def routeEvent (p : Port) (code : Byte) (payload : List Byte) (s : State) : State :=
  match eventDestination s p with
  | some d => deliverEvent p d code payload s
  | none => s

/-- EVENT_TAKEN (R115): the arriving source and gap flag are disregarded (R3). -/
def execEventTaken (p : Port) (source code : Byte) (gap : Bool) (declared : Byte) (payload : List Byte) (s : State) :
    Host.Outcome State Fault Refusal :=
  .next (takePacket p (.event source code gap declared payload) (routeEvent p code payload) s)

/-- MALFORMED_PACKET_TAKEN (R8): a packet that passes the checks of R7 is not this row's and changes nothing. -/
def execMalformedPacketTaken (p : Port) (pkt : Packet) (s : State) : Host.Outcome State Fault Refusal :=
  .next (if (fromIngress p pkt s).any (fun s1 => (checkPacket s1 p pkt).isSome) then takePacket p pkt id s else s)

end Sys2Proof.Machine
end

