-- ==== Sys2Proof/Machine/FaultCommands.lean ====
section
/-! DEFINITION. The fault unit's commands: FAULT_FETCH, FLAGS_TAKE, FAULT_CONTROL. -/

namespace Sys2Proof.Machine

open Sys2Proof

/-- The number of records a fetch of `n` returns: `n` clamped to 1 to 8, the fill, and what fits the reply (R133). -/
def fetchCount (n fill fits : Nat) : Nat := min (max 1 (min n 8)) (min fill fits)

/-- The 4-byte head of the result (R172). -/
def fetchHead (returned : Nat) (overrun : Bool) (left size : Nat) : List Byte :=
  [BitVec.ofNat 8 returned, boolByte overrun, BitVec.ofNat 8 left, BitVec.ofNat 8 size]

/-- What a fetch of `k` records leaves of a queue (R133). -/
def FaultQueue.fetched {α : Type} (q : FaultQueue α) (k : Nat) : FaultQueue α :=
  { q with records := q.records.drop k, overrun := false }

/-- The result bytes of a fetch of `k` records (R133, R172). -/
def FaultQueue.fetchBytes {α : Type} (q : FaultQueue α) (k size : Nat) (image : α → List Byte) : List Byte :=
  fetchHead k q.overrun (q.records.length - k) size ++ (q.records.take k).flatMap image

/-- The notice after a fetch: records left hand a FAULT_NOTICE, an empty queue arms it (R131). -/
def afterFetch (d : Domain) (s : State) : State := if queueFill s d = 0 then setArmed d true s else tellReader d s

/-- A fetch of `n` from the queue of `d`: records removed, overrun read and cleared, reply placed, notice treated (R133). -/
def fetchFaults (d : Domain) (m : MgmtPacket) (n : Nat) (s : State) : State :=
  match scoredOf d with
  | none =>
    let q := s.supQ
    let k := fetchCount n q.records.length 2
    afterFetch d (reply d m.tag .ok (q.fetchBytes k 30 FullRecord.image) (s.setSupQ (q.fetched k)))
  | some x =>
    let q := s.ownQ.get x
    let k := fetchCount n q.records.length 3
    afterFetch d (reply d m.tag .ok (q.fetchBytes k 18 ReducedRecord.image) (s.setOwnQ x (q.fetched k)))

/-- FAULT_FETCH (R133). -/
def execFaultFetch (p : Port) (m : MgmtPacket) (s : State) : Host.Outcome State Fault Refusal :=
  .next (takeCommand p 0x03 m anyPort
    (fun d s1 =>
      match m.params with
      | [n] => fetchFaults d m n.toNat s1
      | _ => badParameter d m s1) s)

/-- FLAGS_TAKE (R136). -/
def execFlagsTake (p : Port) (m : MgmtPacket) (s : State) : Host.Outcome State Fault Refusal :=
  .next (takeCommand p 0x04 m (ownDomain m)
    (fun d s1 =>
      match m.params with
      | [db] =>
        match domainOfCode db with
        | some x => reply d m.tag .ok [x.code, (s1.flags.get x).byte] (s1.modFlags x (fun _ => Sticky.clear))
        | none => badParameter d m s1
      | _ => badParameter d m s1) s)

/-- FAULT_CONTROL's result: class, flags, weight as stored (R134, R175). -/
def controlResult (s : State) (c : FaultClass) : List Byte :=
  [c.code, BitVec.ofNat 8 (flagByte [(s.control c).record, s.delegated .app c, s.delegated .rad c]), (s.control c).weight]

/-- The values FAULT_CONTROL stores (R124, R125, R134). -/
def storeControl (c : FaultClass) (flags weight : Byte) (s : State) : State :=
  ((s.setControl c ⟨flags.getLsbD 0, if c.chargeable then weight else 0⟩).setMask .app c
    (flags.getLsbD 1 && c.delegable)).setMask .rad c (flags.getLsbD 2 && c.delegable)

/-- FAULT_CONTROL (R134). -/
def execFaultControl (p : Port) (m : MgmtPacket) (s : State) : Host.Outcome State Fault Refusal :=
  .next (takeCommand p 0x40 m onlyP
    (fun d s1 =>
      match m.params with
      | [cb] =>
        match classOfCode cb with
        | some c => reply d m.tag .ok (controlResult s1 c) s1
        | none => badParameter d m s1
      | [cb, flags, weight] =>
        match classOfCode cb with
        | some c =>
          let s2 := storeControl c flags weight s1
          reply d m.tag .ok (controlResult s2 c) s2
        | none => badParameter d m s1
      | _ => badParameter d m s1) s)

end Sys2Proof.Machine
end

