-- ==== Sys2Proof/Machine/Links.lean ====
section
/-! DEFINITION. The resets of the part, the events of the links and the end of gate time: POWER_ON, RESET_LINE,
LINK_ESTABLISHED, LINK_LOST, HOLD_EXPIRY, GATE_TIME_LARGEST_VALUE. -/

namespace Sys2Proof.Machine

open Sys2Proof

/-- POWER_ON (R167). -/
def execPowerOn (s : State) : Host.Outcome State Fault Refusal := .next (resetPart .powerOn s)

/-- RESET_LINE: asserted and released (R167). -/
def execResetLine (s : State) : Host.Outcome State Fault Refusal := .next (resetPart .line s)

/-- The link of `p` becomes established (R10). -/
def linkEstablished (p : Port) (s : State) : State :=
  match (s.port p).link with
  | .down => bringUp p s
  | .up => s
  | .resetting => s.modPort p (fun v => { v with established := true })

/-- LINK_ESTABLISHED (R10). -/
def execLinkEstablished (p : Port) (s : State) : Host.Outcome State Fault Refusal := .next (linkEstablished p s)

/-- The link of `p` is lost (R10). -/
def linkLost (p : Port) (s : State) : State :=
  match (s.port p).link with
  | .down => s
  | .up => resetPort p .down none none s
  | .resetting => s.modPort p (fun v => { v with established := false })

/-- LINK_LOST (R10). -/
def execLinkLost (p : Port) (s : State) : Host.Outcome State Fault Refusal := .next (linkLost p s)

/-- The hold of `p` expires: UP if the link is established, else DOWN; a PORT_RESET replies (R10, R166). -/
def holdExpires (p : Port) (s : State) : State :=
  if expired (holdOf s p) s.gateTime then
    if (s.port p).established then endCommand (.port p) .ok [p.byte, LinkState.code .up] (bringUp p s)
    else
      endCommand (.port p) .ok [p.byte, LinkState.code .down]
        (s.modPort p (fun v => { v with link := .down, hold := none }))
  else s

/-- HOLD_EXPIRY (R10). -/
def execHoldExpiry (p : Port) (s : State) : Host.Outcome State Fault Refusal := .next (holdExpires p s)

/-- GATE_TIME_LARGEST_VALUE: gate time passes to 2^48 − 1 and holds (R15). The passage is whole only where nothing falls
due on the way; otherwise the event has not come yet (log entry 14). -/
def execGateTimeLargestValue (s : State) : Host.Outcome State Fault Refusal :=
  .next (if quietUntil s Config.lastTime then s.setGateTime Config.lastTime else s)

end Sys2Proof.Machine
end

