-- ==== Sys2Proof/Machine/MeterCommands.lean ====
section
/-! DEFINITION. The meter commands: METER_SET, METER_READ. -/

namespace Sys2Proof.Machine

open Sys2Proof

/-- A written depth as stored: 0 becomes 1, above 4095 becomes 4095 (R90). -/
def storeDepth (v : Nat) : Nat := if v = 0 then 1 else min Config.depthLimit v

/-- Steps 1 to 3 of R91: refill at the old values, store the new ones, limit the credit. -/
def Meter.change (v : Meter) (t rate depth : Nat) : Meter :=
  { v with rate := rate, depth := depth, credit := min (256 * depth) (v.refilled t), last := t }

/-- An accepted METER_SET (R90, R91). -/
def changeMeter (n : Fin 16) (rate depth : Nat) (s : State) : State :=
  evalMeter n ((abortCommit s).modMeter n (fun v => v.change s.gateTime rate depth))

/-- METER_SET's result (R90, R175). -/
def meterSetResult (n : Fin 16) (v : Meter) : List Byte :=
  [BitVec.ofNat 8 n.1] ++ leBytes 2 v.rate ++ leBytes 2 v.depth ++ leBytes 4 v.credit

/-- METER_SET (R90). -/
def execMeterSet (p : Port) (m : MgmtPacket) (s : State) : Host.Outcome State Fault Refusal :=
  .next (takeCommand p 0x30 m onlyP
    (fun d s1 =>
      if m.params.length = 7 then
        match indexOf 16 (byteAt m.params 0) with
        | none => badParameter d m s1
        | some n =>
          if fieldAt m.params 1 4 = 0 ∧ meterNamed s1 n = true then reply d m.tag .rejected [] s1
          else
            let s2 := changeMeter n (min Config.rateLimit (fieldAt m.params 1 4)) (storeDepth (fieldAt m.params 5 2)) s1
            reply d m.tag .ok (meterSetResult n (s2.meter n)) s2
      else badParameter d m s1) s)

/-- METER_READ's result: the credit a refill now would leave (R92, R175). -/
def meterReadResult (n : Fin 16) (v : Meter) (t : Nat) : List Byte :=
  [BitVec.ofNat 8 n.1] ++ leBytes 2 v.rate ++ leBytes 2 v.depth ++ leBytes 4 (v.refilled t) ++ timeBytes t
  ++ [BitVec.ofNat 8 v.waiting.length]
  ++ (match v.release with
      | some e => [1] ++ timeBytes e
      | none => [0] ++ leBytes 6 0)

/-- METER_READ (R92). -/
def execMeterRead (p : Port) (m : MgmtPacket) (s : State) : Host.Outcome State Fault Refusal :=
  .next (takeCommand p 0x31 m onlyP
    (fun d s1 =>
      match m.params with
      | [nb] =>
        match indexOf 16 nb with
        | some n => reply d m.tag .ok (meterReadResult n (s1.meter n) s1.gateTime) s1
        | none => badParameter d m s1
      | _ => badParameter d m s1) s)

end Sys2Proof.Machine
end

