-- ==== Sys2Proof/Machine/Policy.lean ====
section
/-! DEFINITION. Policy edits and the commit: TABLE_CLONE, ENTRY_WRITE, ENTRY_READ, ENTRY_PIN, TABLE_COMMIT, VALIDATION_END. -/

namespace Sys2Proof.Machine

open Sys2Proof

/-- TABLE_CLONE (R147). -/
def execTableClone (p : Port) (m : MgmtPacket) (s : State) : Host.Outcome State Fault Refusal :=
  .next (takeCommand p 0x10 m onlyP
    (fun d s1 =>
      match m.params with
      | [] =>
        let s2 := abortCommit s1
        reply d m.tag .ok [] (s2.setPendingBank s2.active)
      | _ :: _ => badParameter d m s1) s)

/-- ENTRY_WRITE (R148). -/
def execEntryWrite (p : Port) (m : MgmtPacket) (s : State) : Host.Outcome State Fault Refusal :=
  .next (takeCommand p 0x11 m onlyP
    (fun d s1 =>
      if m.params.length = 19 then
        match indexOf 96 (byteAt m.params 0) with
        | none => badParameter d m s1
        | some i =>
          match entryOfImage m.params (s1.pendingBank.get i).pinned with
          | none => badParameter d m s1
          | some e =>
            let s2 := abortCommit s1
            reply d m.tag .ok (e.image i.1) (s2.setPendingBank (setAt s2.pendingBank i e))
      else badParameter d m s1) s)

/-- The bank a bank byte names by its role: 0 ACTIVE, 1 PENDING (R149, R170). -/
def bankOf (s : State) (b : Byte) : Option (Vector Entry 96) :=
  if b = 0 then some s.active else if b = 1 then some s.pendingBank else none

/-- ENTRY_READ (R149). -/
def execEntryRead (p : Port) (m : MgmtPacket) (s : State) : Host.Outcome State Fault Refusal :=
  .next (takeCommand p 0x12 m onlyP
    (fun d s1 =>
      match m.params with
      | [bank, ib] =>
        match bankOf s1 bank, indexOf 96 ib with
        | some v, some i => reply d m.tag .ok (leBytes 2 s1.generation.toNat ++ (v.get i).image i.1) s1
        | _, _ => badParameter d m s1
      | _ => badParameter d m s1) s)

/-- The pinned flag of one ACTIVE entry is set (R150). -/
def pinEntry (i : Fin 96) (s : State) : State :=
  s.setActive (setAt s.active i { s.active.get i with pinned := true })

/-- ENTRY_PIN (R150). DESIGN CHOICE (log entry 20): the index is judged before the running validation, so an index outside 0 to 95 is
BAD_PARAMETER, not BUSY. -/
def execEntryPin (p : Port) (m : MgmtPacket) (s : State) : Host.Outcome State Fault Refusal :=
  .next (takeCommand p 0x14 m onlyP
    (fun d s1 =>
      match m.params with
      | [ib] =>
        match indexOf 96 ib with
        | none => badParameter d m s1
        | some i =>
          if s1.commit.isSome then reply d m.tag .busy [] s1
          else
            let s2 := pinEntry i s1
            reply d m.tag .ok ((s2.active.get i).image i.1) s2
      | _ => badParameter d m s1) s)

/-- TABLE_COMMIT: the validation starts (R152). -/
def execTableCommit (p : Port) (m : MgmtPacket) (s : State) : Host.Outcome State Fault Refusal :=
  .next (takeCommand p 0x13 m onlyP
    (fun d s1 =>
      match m.params with
      | [] =>
        if s1.commit.isSome then reply d m.tag .busy [] s1
        else (carryCommand d m.tag .commit s1).setCommit (some ⟨m.tag, s1.gateTime⟩)
      | _ :: _ => badParameter d m s1) s)

/-! ### The validation (R153, R154) -/

inductive Reason where
  | selfTarget | targetSpan | meterUnset | unitUndefined | custodyGap | quarantineBound | pinnedChanged | oversubscribed
  deriving DecidableEq, Repr

/-- Reason codes (R171). -/
def Reason.code : Reason → Byte
  | .selfTarget => 1 | .targetSpan => 2 | .meterUnset => 3 | .unitUndefined => 4 | .custodyGap => 5 | .quarantineBound => 6
  | .pinnedChanged => 7 | .oversubscribed => 8

/-- The span of a port in bytes (R18, R153). -/
def spanBytes (c : PortConfig) : Nat := 65536 * (if c.span = 0 then 65536 else c.span.toNat)

/-- Check 1: the target is the port of a domain in the set (R153). -/
def Entry.selfTarget (e : Entry) : Bool :=
  match e.target.domain with
  | some d => e.domains.has d
  | none => false

/-- Check 2 (R153). -/
def pastSpan (s : State) (e : Entry) : Bool :=
  decide (spanBytes (s.port e.target).config < e.offset.toNat + sizeBytes e.size)

/-- Check 3 (R153). -/
def namesStoppedMeter (s : State) (e : Entry) : Bool :=
  match e.meter with
  | some n => decide ((s.meter n).rate = 0)
  | none => false

/-- Check 4 (R153). -/
def namesUndefinedUnit (s : State) (e : Entry) : Bool :=
  match e.unit with
  | some u => decide ((s.unit u).port ≠ some e.target)
  | none => false

/-- Check 5 (R153). -/
def reachesOtherUnit (s : State) (e : Entry) : Bool :=
  allUnits.any (fun u =>
    (s.unit u).overlaps e.target e.offset.toNat (sizeBytes e.size) && decide (e.unit ≠ some u))

/-- Check 6 (R153). -/
def boundInQuarantine (e : Entry) : Bool := decide (e.view ≠ .normal) && e.unit.isSome

/-- The sum of the rates of the meters counted toward a port (R154). -/
def countedRate (s : State) (counted : List (Port × Fin 16)) (p : Port) : Nat :=
  ((counted.filter (fun x => decide (x.1 = p))).map (fun x => (s.meter x.2).rate)).foldl (· + ·) 0

/-- The meters counted toward ports after an entry: each meter once for each port whose capacity is not 0 (R154). -/
def countEntry (s : State) (counted : List (Port × Fin 16)) (e : Entry) : List (Port × Fin 16) :=
  match e.meter with
  | some n =>
    if e.valid = true ∧ (s.port e.target).config.capacity ≠ 0 ∧ (e.target, n) ∉ counted then (e.target, n) :: counted
    else counted
  | none => counted

/-- Check 8, with the meters counted after this entry (R154). -/
def oversubscribed (s : State) (counted : List (Port × Fin 16)) (e : Entry) : Bool :=
  e.meter.isSome && decide ((s.port e.target).config.capacity ≠ 0)
    && decide ((s.port e.target).config.capacity.toNat < countedRate s counted e.target)

/-- The first check that an entry fails, given the ACTIVE entry at its index and the meters counted after it (R153). -/
def entryFails (s : State) (counted : List (Port × Fin 16)) (e act : Entry) : Option Reason :=
  if e.valid && e.selfTarget then some .selfTarget
  else if e.valid && pastSpan s e then some .targetSpan
  else if e.valid && namesStoppedMeter s e then some .meterUnset
  else if e.valid && namesUndefinedUnit s e then some .unitUndefined
  else if e.valid && reachesOtherUnit s e then some .custodyGap
  else if e.valid && boundInQuarantine e then some .quarantineBound
  else if act.pinned && decide (e ≠ act) then some .pinnedChanged
  else if e.valid && oversubscribed s counted e then some .oversubscribed
  else none

/-- The examination in index order: the first failing index and its reason (R153). -/
def validateFrom (s : State) : List (Entry × Entry) → Nat → List (Port × Fin 16) → Option (Nat × Reason)
  | [], _, _ => none
  | (e, act) :: rest, i, counted =>
    match entryFails s (countEntry s counted e) e act with
    | some r => some (i, r)
    | none => validateFrom s rest (i + 1) (countEntry s counted e)

/-- The outcome of a validation of the PENDING bank: none where every entry passes (R153). -/
def validate (s : State) : Option (Nat × Reason) := validateFrom s (s.pendingBank.toList.zip s.active.toList) 0 []

/-- The swap (R156). -/
def swapBanks (s : State) : State :=
  { s with active := s.pendingBank, pendingBank := s.active, generation := s.generation + 1, commit := none }

/-- The end of the validation: swap or failure (R155, R156). -/
def endValidation (s : State) : State :=
  match validate s with
  | some (i, r) => endCommand .commit .rejected [BitVec.ofNat 8 i, r.code] (s.setCommit none)
  | none => endCommand .commit .ok (leBytes 2 (s.generation + 1).toNat) (swapBanks s)

/-- VALIDATION_END, at the earliest 1 µs after the start (R152, R153; log entry 8). DESIGN CHOICE (log entry 8): a validation that starts at
the largest gate time, which holds, is not ended by it. -/
def execValidationEnd (s : State) : Host.Outcome State Fault Refusal :=
  .next (match s.commit with
    | some c => if c.started + 1 ≤ s.gateTime then endValidation s else s
    | none => s)

end Sys2Proof.Machine
end

