-- ==== Sys2Proof/Machine/PortCommands.lean ====
section
/-! DEFINITION. Domain, port and part commands: DOMAIN_SET, PORT_SET, PORT_RESET, GATE_RESET. -/

namespace Sys2Proof.Machine

open Sys2Proof

/-- DOMAIN_SET (R164). -/
def execDomainSet (p : Port) (m : MgmtPacket) (s : State) : Host.Outcome State Fault Refusal :=
  .next (takeCommand p 0x44 m onlyP
    (fun d s1 =>
      match m.params with
      | [db, sb, fill] =>
        match domainOfCode db, domainStyleOfCode sb with
        | some x, some style =>
          reply d m.tag .ok [x.code, style.code, fill] (s1.modDomain x (fun v => { v with style := style, fill := fill }))
        | _, _ => badParameter d m s1
      | _ => badParameter d m s1) s)

/-- The route PORT_SET would store, if the selection names it; none where the value is refused (R18, R165). -/
def selectedRoute (p : Port) (selected : Bool) (code : Byte) (old : Option Domain) : Option (Option Domain) :=
  if selected then
    match routeOfCode code with
    | some r => if p.sendsEvents = false ∧ r ≠ none then none else some r
    | none => none
  else some old

/-- A written capacity as stored (R18, R165). -/
def storeCapacity (v : Nat) : BitVec 20 := BitVec.ofNat 20 (min 1048575 v)

/-- The record after the selected fields of PORT_SET's parameters are stored (R165, R175). -/
def PortConfig.select (c : PortConfig) (params : List Byte) (route : Option Domain) : PortConfig :=
  let sel := byteAt params 1
  { maxBurst := if sel.getLsbD 0 then storeBurst (fieldAt params 2 2) else c.maxBurst
    deadline := if sel.getLsbD 1 then timeCodeOfField (fieldAt params 4 2) else c.deadline
    span := if sel.getLsbD 2 then BitVec.ofNat 16 (fieldAt params 6 2) else c.span
    capacity := if sel.getLsbD 3 then storeCapacity (fieldAt params 8 4) else c.capacity
    route := route }

/-- The selection names the max burst, the span or the capacity (R19, R165). -/
def abortsValidation (sel : Byte) : Bool := sel.getLsbD 0 || sel.getLsbD 2 || sel.getLsbD 3

/-- An accepted PORT_SET (R165). -/
def storePort (q : Port) (params : List Byte) (route : Option Domain) (s : State) : State :=
  (if abortsValidation (byteAt params 1) then abortCommit s else s).modPort q
    (fun v => { v with config := v.config.select params route })

/-- PORT_SET (R165). -/
def execPortSet (p : Port) (m : MgmtPacket) (s : State) : Host.Outcome State Fault Refusal :=
  .next (takeCommand p 0x50 m onlyP
    (fun d s1 =>
      if m.params.length = 13 then
        match portOfCode (byteAt m.params 0) with
        | none => badParameter d m s1
        | some q =>
          match selectedRoute q ((byteAt m.params 1).getLsbD 4) (byteAt m.params 12) (s1.port q).config.route with
          | none => badParameter d m s1
          | some route =>
            reply d m.tag .ok ((storePort q m.params route s1).port q |>.config.image q) (storePort q m.params route s1)
      else badParameter d m s1) s)

/-- PORT_RESET (R166). -/
def execPortReset (p : Port) (m : MgmtPacket) (s : State) : Host.Outcome State Fault Refusal :=
  .next (takeCommand p 0x51 m onlyP
    (fun d s1 =>
      match m.params with
      | [pb] =>
        match portOfCode pb with
        | none => badParameter d m s1
        | some q =>
          if q = .P then badParameter d m s1
          else if (s1.port q).link = .resetting then reply d m.tag .busy [] s1
          else
            resetPort q .resetting (some (s1.gateTime + Config.holdTime)) none (carryCommand d m.tag (.port q) s1)
      | _ => badParameter d m s1) s)

/-- GATE_RESET: from P it resets the part and has no reply (R167). -/
def execGateReset (p : Port) (m : MgmtPacket) (s : State) : Host.Outcome State Fault Refusal :=
  .next (takeCommand p 0x52 m onlyP
    (fun d s1 =>
      match m.params with
      | [] => resetPart .command s1
      | _ :: _ => badParameter d m s1) s)

end Sys2Proof.Machine
end

