-- ==== Sys2Proof/Machine/Queries.lean ====
section
/-! DEFINITION. The management engine's own commands and the queries: UNKNOWN_COMMAND, STATUS, TIME_READ. -/

namespace Sys2Proof.Machine

open Sys2Proof

/-- UNKNOWN_COMMAND: an unknown code is answered UNKNOWN and raises no fault (R158). A known code is another row's and
changes nothing. -/
def execUnknownCommand (p : Port) (code : Byte) (m : MgmtPacket) (s : State) : Host.Outcome State Fault Refusal :=
  .next (if commandCodes.contains code then s
    else takeCommand p code m anyPort (fun d s1 => reply d m.tag .unknown [] s1) s)

/-- Part code and revision (R162, R173). -/
def partBytes : List Byte := leBytes 2 Config.partCode ++ [Config.revision]

/-- The report to P, 38 bytes (R162, R173). -/
def fullStatus (s : State) : List Byte :=
  partBytes ++ [s.resetCause.code] ++ timeBytes s.gateTime ++ leBytes 2 s.generation.toNat ++ [boolByte s.commit.isSome]
  ++ allPorts.map (fun p => (s.port p).link.code)
  ++ allDomains.map (fun d => (s.domain d).mode.code)
  ++ leBytes 2 s.scores.app.score ++ leBytes 2 s.scores.rad.score
  ++ allUnits.map (fun u => (s.unit u).state.byte)
  ++ [BitVec.ofNat 8 (queueFill s .pay), BitVec.ofNat 8 (queueFill s .app), BitVec.ofNat 8 (queueFill s .rad)]

/-- The report to A or M, 8 bytes (R162, R173): held units as a set. -/
def reducedStatus (s : State) (d : Domain) : List Byte :=
  partBytes ++ [(s.domain d).mode.code]
  ++ [BitVec.ofNat 8 (flagByte (allUnits.map (fun u => decide ((s.unit u).state = .held d))))]
  ++ [BitVec.ofNat 8 (queueFill s d)] ++ leBytes 2 s.generation.toNat

/-- STATUS (R162). -/
def execStatus (p : Port) (m : MgmtPacket) (s : State) : Host.Outcome State Fault Refusal :=
  .next (takeCommand p 0x01 m anyPort
    (fun d s1 =>
      match m.params with
      | [] => reply d m.tag .ok (if d = .pay then fullStatus s1 else reducedStatus s1 d) s1
      | _ :: _ => badParameter d m s1) s)

/-- TIME_READ (R163). -/
def execTimeRead (p : Port) (m : MgmtPacket) (s : State) : Host.Outcome State Fault Refusal :=
  .next (takeCommand p 0x02 m anyPort
    (fun d s1 =>
      match m.params with
      | [] => reply d m.tag .ok (timeBytes s1.gateTime) s1
      | _ :: _ => badParameter d m s1) s)

end Sys2Proof.Machine
end

