-- ==== Sys2Proof/Machine/Requests.lean ====
section
/-! DEFINITION. Requests taken: REQUEST_TAKEN, with the POST allowance and the decision of the window table. -/

namespace Sys2Proof.Machine

open Sys2Proof

/-- The four conditions of the match (R26). -/
def Entry.covers (e : Entry) (d : Domain) (mode : Mode) (a : Addr) : Bool :=
  e.valid && e.domains.has d && e.view.seen mode && decide (e.base.toNat ≤ a.toNat)
    && decide (a.toNat < e.base.toNat + sizeBytes e.size)

/-- The matched entry of the ACTIVE bank with its index (R26). -/
def matchEntry (s : State) (d : Domain) (a : Addr) : Option (Nat × Entry) :=
  findEntry (fun e => e.covers d (s.domain d).mode a) s.active.toList 0

/-- What a decision keeps of its matched entry (R30, R31). -/
def Entry.copy (index : Nat) (e : Entry) : EntryCopy :=
  { index := index, base := e.base, target := e.target, offset := e.offset, meter := e.meter, unit := e.unit }

/-- The custody and admission steps (R30, R31). -/
def decideCustody (q : Arrival) (e : EntryCopy) (s : State) : State :=
  match e.unit with
  | none => admitRequest q e s
  | some u =>
    match (s.unit u).answer q.dom (piecesThrough s q e) with
    | .enter => admitRequest q e s
    | .park => parkRequest u q e s
    | .deny => denyCustody u q e s

/-- The decision of a request: match, bounds, kind, custody, admission (R25 to R31). -/
def decideRequest (q : Arrival) (s : State) : State :=
  match matchEntry s q.dom q.addr with
  | none => denyRequest .noWindow q none none .default s
  | some (i, e) =>
    if e.base.toNat + sizeBytes e.size < q.addr.toNat + q.len then
      denyRequest .bounds q (some (e.copy i)) none e.style s
    else if e.kinds.has q.kind then decideCustody q (e.copy i) s
    else denyRequest .kind q (some (e.copy i)) none e.style s

/-- A READ or WRITE enters its tag in the initiator tag set (R4). -/
def enterTag (d : Domain) (tag : Fin 32) (s : State) : State :=
  s.modInit d (fun v => { v with tags := tag :: v.tags })

/-- A request of domain `d` that passed the checks of R7: a POST meets its allowance (R57), a READ or WRITE enters its
tag (R4), and the request is decided. -/
def requestArrives (d : Domain) (kind : Kind) (tag : Fin 32) (lengthCode : Byte) (addr : Addr) (payload : List Byte)
    (s : State) : State :=
  if kind = .post then
    if postCount s d < Config.postAllowance then
      decideRequest ⟨d, none, kind, addr, lengthOfCode lengthCode, payload⟩ s
    else setFlag d .throttled s
  else decideRequest ⟨d, some tag, kind, addr, lengthOfCode lengthCode, payload⟩ (enterTag d tag s)

/-- REQUEST_TAKEN (R25). -/
def execRequestTaken (p : Port) (kind : Kind) (tag : Fin 32) (lengthCode : Byte) (addr : Addr) (payload : List Byte)
    (s : State) : Host.Outcome State Fault Refusal :=
  .next (takePacket p (.request kind tag lengthCode addr payload)
    (fun s1 =>
      match p.domain with
      | none => s1
      | some d => requestArrives d kind tag lengthCode addr payload s1) s)

end Sys2Proof.Machine
end

