-- ==== Sys2Proof/Machine/ScoreCommands.lean ====
section
/-! DEFINITION. The score unit's commands: SCORE_READ, SCORE_CONTROL, PARDON, QUARANTINE. -/

namespace Sys2Proof.Machine

open Sys2Proof

/-- The scored domain a domain byte names; PAY and no domain are none (R142, R143). -/
def scoredOfCode (b : Byte) : Option Scored := (domainOfCode b).bind scoredOf

/-- SCORE_READ's result (R143, R175). -/
def scoreReadResult (x : Scored) (r : ScoreRecord) (mode : Mode) (t : Nat) : List Byte :=
  [x.domain.code] ++ leBytes 2 r.score ++ leBytes 2 r.advisory.toNat ++ leBytes 2 r.quarantine.toNat ++ [r.decayAmount]
  ++ leBytes 2 r.interval.field ++ timeBytes r.lastDecay ++ [boolByte r.armed, mode.code] ++ timeBytes t

/-- Steps 1 and 2 of R143: decay, and re-arm below the threshold. -/
def ScoreRecord.readNow (r : ScoreRecord) (t : Nat) : ScoreRecord :=
  let r1 := r.decay t
  if r1.advisory ≠ 0 ∧ r1.score < r1.advisory.toNat then { r1 with armed := true } else r1

/-- SCORE_READ (R143). -/
def execScoreRead (p : Port) (m : MgmtPacket) (s : State) : Host.Outcome State Fault Refusal :=
  .next (takeCommand p 0x05 m (ownDomain m)
    (fun d s1 =>
      match m.params with
      | [db] =>
        match scoredOfCode db with
        | some x =>
          let s2 := s1.modScore x (fun r => r.readNow s1.gateTime)
          reply d m.tag .ok (scoreReadResult x (s2.scores.get x) (s2.domain x.domain).mode s2.gateTime) s2
        | none => badParameter d m s1
      | _ => badParameter d m s1) s)

/-- The stored advisory threshold: not above a quarantine threshold other than 0 (R142). -/
def storeAdvisory (advisory quarantine : Half) : Half :=
  if quarantine ≠ 0 ∧ quarantine.toNat < advisory.toNat then quarantine else advisory

/-- SCORE_CONTROL on a record: decay under the stored values, the new values, the advisory armed (R142). -/
def ScoreRecord.configure (r : ScoreRecord) (t : Nat) (advisory quarantine : Half) (amount : Byte) (interval : TimeCode) :
    ScoreRecord :=
  { r.decay t with advisory := storeAdvisory advisory quarantine, quarantine := quarantine, decayAmount := amount,
                   interval := interval, armed := true }

/-- SCORE_CONTROL's result (R142, R175). -/
def scoreControlResult (x : Scored) (r : ScoreRecord) (mode : Mode) : List Byte :=
  [x.domain.code] ++ leBytes 2 r.advisory.toNat ++ leBytes 2 r.quarantine.toNat ++ [r.decayAmount]
  ++ leBytes 2 r.interval.field ++ leBytes 2 r.score ++ [mode.code]

/-- SCORE_CONTROL (R142). -/
def execScoreControl (p : Port) (m : MgmtPacket) (s : State) : Host.Outcome State Fault Refusal :=
  .next (takeCommand p 0x41 m onlyP
    (fun d s1 =>
      if m.params.length = 8 then
        match scoredOfCode (byteAt m.params 0) with
        | some x =>
          let s2 := s1.modScore x (fun r =>
            r.configure s1.gateTime (BitVec.ofNat 16 (fieldAt m.params 1 2)) (BitVec.ofNat 16 (fieldAt m.params 3 2))
              (byteAt m.params 5) (timeCodeOfField (fieldAt m.params 6 2)))
          reply d m.tag .ok (scoreControlResult x (s2.scores.get x) (s2.domain x.domain).mode) s2
        | none => badParameter d m s1
      else badParameter d m s1) s)

/-- The result of PARDON and QUARANTINE: domain, mode, score (R144, R145, R175). -/
def modeResult (s : State) (x : Scored) : List Byte :=
  [x.domain.code, (s.domain x.domain).mode.code] ++ leBytes 2 (s.scores.get x).score

/-- A pardon of `x` (R145). -/
def pardonDomain (x : Scored) (s : State) : State :=
  (s.modScore x (fun r => { r with score := 0, armed := true, lastDecay := s.gateTime })).modDomain x.domain
    (fun v => { v with mode := .normal })

/-- PARDON (R145). -/
def execPardon (p : Port) (m : MgmtPacket) (s : State) : Host.Outcome State Fault Refusal :=
  .next (takeCommand p 0x42 m onlyP
    (fun d s1 =>
      match m.params with
      | [db] =>
        match scoredOfCode db with
        | some x => reply d m.tag .ok (modeResult (pardonDomain x s1) x) (pardonDomain x s1)
        | none => badParameter d m s1
      | _ => badParameter d m s1) s)

/-- A quarantine of `x` by command (R144). -/
def quarantineDomain (x : Scored) (s : State) : State := s.modDomain x.domain (fun v => { v with mode := .quarantined })

/-- QUARANTINE (R144). -/
def execQuarantine (p : Port) (m : MgmtPacket) (s : State) : Host.Outcome State Fault Refusal :=
  .next (takeCommand p 0x43 m onlyP
    (fun d s1 =>
      match m.params with
      | [db] =>
        match scoredOfCode db with
        | some x => reply d m.tag .ok (modeResult (quarantineDomain x s1) x) (quarantineDomain x s1)
        | none => badParameter d m s1
      | _ => badParameter d m s1) s)

end Sys2Proof.Machine
end

