-- ==== Sys2Proof/Machine/Traffic.lean ====
section
/-! DEFINITION. Metering, grants and packets leaving: RELEASE_TIME, ARBITER_GRANT, PIECE_LEAVES, COMPLETION_LEAVES,
REPLY_LEAVES, EVENT_LEAVES, NOTICE_LEAVES. -/

namespace Sys2Proof.Machine

open Sys2Proof

/-- RELEASE_TIME: the release time of meter `n` expires and the meter is evaluated (R88). -/
def execReleaseTime (n : Fin 16) (s : State) : Host.Outcome State Fault Refusal :=
  .next (if expired (releaseOf s n) s.gateTime then evalMeter n (s.modMeter n (fun v => { v with release := none })) else s)

/-- ARBITER_GRANT (R62, R63). -/
def execArbiterGrant (p : Port) (s : State) : Host.Outcome State Fault Refusal := .next (arbiterGrant p s)

/-- The head of an UP port's outbound queue, and the state once it has left the link (R9, R10). -/
def headLeaves (p : Port) (s : State) : Option (OutPacket × State) :=
  if s.isUp p then
    match (s.port p).outbound with
    | [] => none
    | pkt :: rest => some (pkt, s.modPort p (fun v => { v with outbound := rest }))
  else none

/-- A piece or scrub step under tag `t` has left port `p` (R63). A tag held by a piece that is not GRANTED belongs to no packet
in the queue (log entry 12). -/
def pieceLeft (p : Port) (t : Fin 16) (s : State) : State :=
  match (s.port p).tags.get t with
  | .live (.piece ref) =>
    match s.piece ref with
    | none => s
    | some (r, c) =>
      if r.kind = .post then finishRequest ref.req (endPiece ref (.resolved .ok) (setTag p t .free s))
      else if c.state = .granted then setPiece ref (fun c => { c with state := .sent }) s
      else s
  | .live (.scrub u _ e) => setTag p t (.live (.scrub u true e)) s
  | .free => s
  | .orphaned => s

/-- PIECE_LEAVES (R63). -/
def execPieceLeaves (p : Port) (s : State) : Host.Outcome State Fault Refusal :=
  .next (match headLeaves p s with
    | some (.request t _ _ _ _, s1) => pieceLeft p t s1
    | some (.completion _ _ _, _) => s
    | some (.reply _ _ _, _) => s
    | some (.event _ _ _ _, _) => s
    | some (.notice _, _) => s
    | none => s)

/-- COMPLETION_LEAVES: the initiator tag leaves the tag set (R4). -/
def execCompletionLeaves (p : Port) (s : State) : Host.Outcome State Fault Refusal :=
  .next (match headLeaves p s, p.domain with
    | some (.completion t _ _, s1), some d =>
      s1.modInit d (fun v => { v with tags := v.tags.filter (fun x => decide (x ≠ t)) })
    | _, _ => s)

/-- REPLY_LEAVES: the management tag is freed and the command leaves the engine's list (R5, R158). -/
def execReplyLeaves (p : Port) (s : State) : Host.Outcome State Fault Refusal :=
  .next (match headLeaves p s, p.domain with
    | some (.reply t _ _, s1), some d =>
      s1.modInit d (fun v => { v with commands := v.commands.filter (fun c => c.discard || decide (c.tag ≠ t)) })
    | _, _ => s)

/-- EVENT_LEAVES: the peripheral event count falls by one (R118). -/
def execEventLeaves (p : Port) (s : State) : Host.Outcome State Fault Refusal :=
  .next (match headLeaves p s, p.domain with
    | some (.event _ _ _ _, s1), some d => s1.modInit d (fun v => { v with eventCount := v.eventCount - 1 })
    | _, _ => s)

/-- The place of a gate event that has left becomes EMPTY (R120, R121). -/
def InitState.noticeLeft (v : InitState) : NoticeKind → InitState
  | .fault => { v with faultNotice := .empty }
  | .custody => { v with custodyNotice := .empty }

/-- NOTICE_LEAVES (R120, R121). -/
def execNoticeLeaves (p : Port) (s : State) : Host.Outcome State Fault Refusal :=
  .next (match headLeaves p s, p.domain with
    | some (.notice k, s1), some d => s1.modInit d (fun v => v.noticeLeft k)
    | _, _ => s)

end Sys2Proof.Machine
end

