-- ==== Sys2Proof/Machine/Dispatch.lean ====
section
/-! DEFINITION. The dispatch: one arm per command, each one direct call of its meaning. -/

namespace Sys2Proof.Machine

open Sys2Proof

def exec (i : Instr) (s : State) : Host.Outcome State Fault Refusal :=
  match i with
  | .powerOn => Sys2Proof.Machine.execPowerOn s
  | .resetLine => Sys2Proof.Machine.execResetLine s
  | .linkEstablished p => Sys2Proof.Machine.execLinkEstablished p s
  | .linkLost p => Sys2Proof.Machine.execLinkLost p s
  | .holdExpiry p => Sys2Proof.Machine.execHoldExpiry p s
  | .requestTaken p kind tag lengthCode addr payload => Sys2Proof.Machine.execRequestTaken p kind tag lengthCode addr payload s
  | .releaseTime n => Sys2Proof.Machine.execReleaseTime n s
  | .arbiterGrant p => Sys2Proof.Machine.execArbiterGrant p s
  | .pieceLeaves p => Sys2Proof.Machine.execPieceLeaves p s
  | .completionLeaves p => Sys2Proof.Machine.execCompletionLeaves p s
  | .replyLeaves p => Sys2Proof.Machine.execReplyLeaves p s
  | .eventLeaves p => Sys2Proof.Machine.execEventLeaves p s
  | .noticeLeaves p => Sys2Proof.Machine.execNoticeLeaves p s
  | .completionTaken p tag status present lengthCode payload => Sys2Proof.Machine.execCompletionTaken p tag status present lengthCode payload s
  | .completionDeadline p tag => Sys2Proof.Machine.execCompletionDeadline p tag s
  | .scrubStepDeadline u => Sys2Proof.Machine.execScrubStepDeadline u s
  | .drainEnd u => Sys2Proof.Machine.execDrainEnd u s
  | .drainDeadline u => Sys2Proof.Machine.execDrainDeadline u s
  | .settleExpiry u => Sys2Proof.Machine.execSettleExpiry u s
  | .eventTaken p source code gap declared payload => Sys2Proof.Machine.execEventTaken p source code gap declared payload s
  | .validationEnd => Sys2Proof.Machine.execValidationEnd s
  | .unknownCommand p code m => Sys2Proof.Machine.execUnknownCommand p code m s
  | .status p m => Sys2Proof.Machine.execStatus p m s
  | .timeRead p m => Sys2Proof.Machine.execTimeRead p m s
  | .faultFetch p m => Sys2Proof.Machine.execFaultFetch p m s
  | .flagsTake p m => Sys2Proof.Machine.execFlagsTake p m s
  | .scoreRead p m => Sys2Proof.Machine.execScoreRead p m s
  | .tableClone p m => Sys2Proof.Machine.execTableClone p m s
  | .entryWrite p m => Sys2Proof.Machine.execEntryWrite p m s
  | .entryRead p m => Sys2Proof.Machine.execEntryRead p m s
  | .tableCommit p m => Sys2Proof.Machine.execTableCommit p m s
  | .entryPin p m => Sys2Proof.Machine.execEntryPin p m s
  | .unitDefine p m => Sys2Proof.Machine.execUnitDefine p m s
  | .custodyTake p m => Sys2Proof.Machine.execCustodyTake p m s
  | .custodyReturn p m => Sys2Proof.Machine.execCustodyReturn p m s
  | .unitRead p m => Sys2Proof.Machine.execUnitRead p m s
  | .meterSet p m => Sys2Proof.Machine.execMeterSet p m s
  | .meterRead p m => Sys2Proof.Machine.execMeterRead p m s
  | .faultControl p m => Sys2Proof.Machine.execFaultControl p m s
  | .scoreControl p m => Sys2Proof.Machine.execScoreControl p m s
  | .pardon p m => Sys2Proof.Machine.execPardon p m s
  | .quarantine p m => Sys2Proof.Machine.execQuarantine p m s
  | .domainSet p m => Sys2Proof.Machine.execDomainSet p m s
  | .portSet p m => Sys2Proof.Machine.execPortSet p m s
  | .portReset p m => Sys2Proof.Machine.execPortReset p m s
  | .gateReset p m => Sys2Proof.Machine.execGateReset p m s
  | .malformedPacketTaken p pkt => Sys2Proof.Machine.execMalformedPacketTaken p pkt s
  | .gateTimeLargestValue => Sys2Proof.Machine.execGateTimeLargestValue s

end Sys2Proof.Machine
end

