-- ==== Sys2Proof/Machine/Clock.lean ====
section
/-! DEFINITION. The block between commands: packets arrive, what is due happens, else a microsecond passes (log entry 2). -/

namespace Sys2Proof.Machine

open Sys2Proof

/-- The block with no command waiting: a packet that can arrive does; else the first thing that is due at this instant is done; where
nothing is due, gate time goes on by 1 µs (R6, R15, R17; log entries 2 and 13). -/
def idle (s : State) : Host.Outcome State Fault Refusal :=
  match arrivals s, dueEvents s with
  | p :: _, _ => .next (arrive p s)
  | [], c :: _ => exec c s
  | [], [] => .next (tick s)

end Sys2Proof.Machine
end

