-- ==== Sys2Proof/Safety.lean ====
section
/-! DEFINITION. What a lawful state of the gate is: the laws the spec states of every state, and the words in which commands and their effects are claimed. -/

namespace Sys2Proof.Machine

open Sys2Proof

/-! ### Laws of one state -/

/-- Gate time is within 48 bits (R15), and a running validation started at or before it and at most 400 µs before it (R152). -/
def State.TimeLaw (s : State) : Prop :=
  s.gateTime ≤ 2 ^ 48 - 1 ∧ ∀ c, s.commit = some c → c.started ≤ s.gateTime ∧ s.gateTime ≤ c.started + 400

/-- The fault queues hold at most 32 and 16 records (R129). -/
def State.QueueLaw (s : State) : Prop :=
  s.supQ.records.length ≤ 32 ∧ s.ownQ.app.records.length ≤ 16 ∧ s.ownQ.rad.records.length ≤ 16

/-- Scores stay within 65535, and PAY's mode is NORMAL (R24, R138, R140). -/
def State.ScoreLaw (s : State) : Prop :=
  s.scores.app.score ≤ 65535 ∧ s.scores.rad.score ≤ 65535 ∧ s.domains.pay.mode = .normal

/-- The weight of a class that is not chargeable is 0, and the masks hold delegable classes alone (R124, R125). -/
def State.ControlLaw (s : State) : Prop :=
  ∀ c : FaultClass, (c.chargeable = false → (s.controls.get c.index).weight = 0) ∧
    (c.delegable = false → (s.masks.app.get c.index) = false ∧ (s.masks.rad.get c.index) = false)

/-- The ranges of a meter's fields; the credit stays within 0 and 256 times the depth (R79, R81). -/
def State.MeterLaw (s : State) : Prop :=
  ∀ n : Fin 16, (s.meters.get n).rate ≤ 65535 ∧ 1 ≤ (s.meters.get n).depth ∧ (s.meters.get n).depth ≤ 4095 ∧
    (s.meters.get n).credit ≤ 256 * (s.meters.get n).depth

/-- An entry as R22 stores it: base and offset with their low four bits 0, the domain range ending at or below 2^32. -/
def Entry.Stored (e : Entry) : Prop :=
  e.base.toNat % 16 = 0 ∧ e.offset.toNat % 16 = 0 ∧ e.base.toNat + sizeBytes e.size ≤ 2 ^ 32

/-- Every entry of both banks is as R22 stores it (R22, R23). -/
def State.EntryLaw (s : State) : Prop := ∀ i : Fin 96, (s.active.get i).Stored ∧ (s.pendingBank.get i).Stored

/-- The indices pinned in the PENDING bank are among those pinned in the ACTIVE bank (R154). -/
def State.PinLaw (s : State) : Prop :=
  ∀ i : Fin 96, (s.pendingBank.get i).pinned = true → (s.active.get i).pinned = true

/-- The custody-gap law: a valid ACTIVE entry whose translated range overlaps a defined unit's range on its target port is
bound to that unit (R44). -/
def State.GapLaw (s : State) : Prop :=
  ∀ (i : Fin 96) (u : Fin 8), (s.active.get i).valid = true → (s.units.get u).port = some (s.active.get i).target →
    (s.active.get i).offset.toNat < (s.units.get u).start.toNat + sizeBytes (s.units.get u).size →
    (s.units.get u).start.toNat < (s.active.get i).offset.toNat + sizeBytes (s.active.get i).size →
    (s.active.get i).unit = some u

/-- What validation guarantees of every valid ACTIVE entry for as long as it is in force: it does not target the port of a
domain in its set (R153), its translated range ends at or below 2^32 (R23), it names no stopped meter (R87), and it is not
bound when it is seen under QUARANTINED (R141). -/
def State.ActiveLaw (s : State) : Prop :=
  ∀ i : Fin 96, (s.active.get i).valid = true →
    (∀ d : Domain, (s.active.get i).target = d.port → (s.active.get i).domains.has d = false) ∧
    (s.active.get i).offset.toNat + sizeBytes (s.active.get i).size ≤ 2 ^ 32 ∧
    (∀ n, (s.active.get i).meter = some n → (s.meters.get n).rate ≠ 0) ∧
    ((s.active.get i).view ≠ .normal → (s.active.get i).unit = none)

/-- The definitions of the units: a script has at most 4 steps of 1 to 16 bytes (R43); of a unit that has a port, the range starts at a
multiple of 16 and ends at or below 2^32 (R42), ranges on one port do not overlap, a port has at most one event unit and only K, D and C
have one, and every scrub step lies inside its unit's range (R43). -/
def State.DefinitionLaw (s : State) : Prop :=
  (∀ u : Fin 8, (s.units.get u).script.length ≤ 4 ∧
    ∀ st ∈ (s.units.get u).script, 1 ≤ st.data.length ∧ st.data.length ≤ 16) ∧
  (∀ (u : Fin 8) (p : Port), (s.units.get u).port = some p →
    (s.units.get u).start.toNat % 16 = 0 ∧ (s.units.get u).start.toNat + sizeBytes (s.units.get u).size ≤ 2 ^ 32 ∧
    ((s.units.get u).events = true → p.sendsEvents = true) ∧
    (∀ st ∈ (s.units.get u).script, (s.units.get u).start.toNat ≤ st.addr.toNat ∧
      st.addr.toNat + st.data.length ≤ (s.units.get u).start.toNat + sizeBytes (s.units.get u).size)) ∧
  (∀ (u v : Fin 8) (p : Port), u ≠ v → (s.units.get u).port = some p → (s.units.get v).port = some p →
    ((s.units.get u).start.toNat + sizeBytes (s.units.get u).size ≤ (s.units.get v).start.toNat ∨
      (s.units.get v).start.toNat + sizeBytes (s.units.get v).size ≤ (s.units.get u).start.toNat) ∧
    ¬((s.units.get u).events = true ∧ (s.units.get v).events = true))

/-- A handover is running: DRAINING or SCRUBBING (R46). -/
def UnitState.inHandover : UnitState → Bool
  | .draining _ => true
  | .scrubbing _ => true
  | .opened => false
  | .held _ => false
  | .failed => false

/-- The working part of a unit: the count holds at most 1,632 (R49) and the parked list at most 96 requests, each with a copy
bound to this unit (R52); a SCRUBBING or FAILED unit has no piece in flight (R96, R99), requests are parked in a handover
alone (R51, R53), and the pending take is held exactly in a handover (R47). -/
def State.CustodyLaw (s : State) : Prop :=
  ∀ u : Fin 8,
    (s.units.get u).inFlight ≤ 1632 ∧
    (s.units.get u).parked.length ≤ 96 ∧
    (∀ k ∈ (s.units.get u).parked, k.entry.unit = some u) ∧
    (∀ t, (s.units.get u).state = .scrubbing t → (s.units.get u).inFlight = 0) ∧
    ((s.units.get u).state = .failed → (s.units.get u).inFlight = 0) ∧
    ((s.units.get u).state.inHandover = false → (s.units.get u).parked = [] ∧ (s.units.get u).pendingTake = none) ∧
    ((s.units.get u).state.inHandover = true → (s.units.get u).pendingTake ≠ none)

/-- The pieces of a record that are neither resolved nor removed (R56). -/
def Request.livePieces (r : Request) : Nat := (r.pieces.filter (fun c => c.state.live)).length

/-- The pieces belonging to unit `u` that are in flight (R48, R50). -/
def State.livePieces (s : State) (u : Fin 8) : Nat :=
  ((s.requests.filter (fun r => decide (r.unit = some u))).map Request.livePieces).sum

/-- The accounts of the tracker: records and pieces are told apart by their numbers, the outstanding count is the number of
pieces neither resolved nor removed (R56), and the in-flight count of a unit is the number of pieces of it in flight (R50). -/
def State.CountLaw (s : State) : Prop :=
  (s.requests.map (fun r => r.id)).Nodup ∧
  (∀ r ∈ s.requests, (r.pieces.map (fun c => c.num)).Nodup ∧ r.outstanding = r.livePieces) ∧
  ∀ u : Fin 8, (s.units.get u).inFlight = s.livePieces u

/-- Every piece of unit `u` in flight was issued by domain `h`. -/
def State.PiecesOf (s : State) (u : Fin 8) (h : Domain) : Prop :=
  ∀ r ∈ s.requests, r.unit = some u → 0 < r.livePieces → r.dom = h

/-- The holder law (R46): while a unit is HELD(h), its pieces in flight are those of h. The second clause is what keeps it over
a take that a return aborts: while a take from HELD(x) drains, the pieces in flight are those of x (R98). -/
def State.HolderLaw (s : State) : Prop :=
  ∀ (u : Fin 8) (h : Domain),
    ((s.units.get u).state = .held h → s.PiecesOf u h) ∧
    (∀ t, (s.units.get u).state = .draining t → (s.units.get u).hand.op = some .take →
      (s.units.get u).previous = .held h → s.PiecesOf u h)

/-- The accounts of the waiting lists: no request is on a list twice; a request on the list of a meter is one of its requests and has a
piece CHARGING (R82, R84, R89), and while its target is not UP nothing of it has gone there (R76, R77, R89); a request that is not
abandoned, and a parked one, came from a port that is UP (R12, R54). -/
def State.WaitingLaw (s : State) : Prop :=
  (∀ n : Fin 16, (s.meters.get n).waiting.Nodup ∧
    ∀ id ∈ (s.meters.get n).waiting, ∃ r ∈ s.requests, r.id = id ∧ r.meter = some n ∧ (∃ c ∈ r.pieces, c.state = .charging) ∧
      ((s.ports.get r.target).link ≠ .up → ∀ c ∈ r.pieces, c.state.live = true → c.state = .charging)) ∧
  (∀ r ∈ s.requests, r.abandoned = false → (s.ports.get r.dom.port).link = .up) ∧
  ∀ u : Fin 8, ∀ k ∈ (s.units.get u).parked, (s.ports.get k.req.dom.port).link = .up

/-- Every parked request has the length of a request, 1 to 256 bytes (R1, R52). -/
def State.ParkedLaw (s : State) : Prop :=
  ∀ u : Fin 8, ∀ k ∈ (s.units.get u).parked, 1 ≤ k.req.len ∧ k.req.len ≤ 256

/-- Peripheral events waiting on an initiator port are at most 8 (R114, R118). -/
def State.EventLaw (s : State) : Prop := ∀ d : Domain, (s.inits.get d).eventCount ≤ 8

/-- No initiator tag is held twice, and no management tag is held by two commands whose replies are not to be discarded
(R4, R158). -/
def State.TagLaw (s : State) : Prop :=
  ∀ d : Domain, (s.inits.get d).tags.Nodup ∧
    (((s.inits.get d).commands.filter (fun c => !c.discard)).map (fun c => c.tag)).Nodup

/-- An ingress buffer holds at most 8 packets, and none while its port is not UP (R6, R10, R11). -/
def State.IngressLaw (s : State) : Prop :=
  ∀ p : Port, (s.ports.get p).ingress.length ≤ 8 ∧ ((s.ports.get p).link ≠ .up → (s.ports.get p).ingress = [])

/-- The pieces that the queue of one domain holds at an arbiter (R62). -/
def Arbiter.queueOf (x : Arbiter) (d : Domain) : List PieceRef :=
  match d with
  | .pay => x.pay
  | .app => x.app
  | .rad => x.rad

/-- The target tags of the pieces and scrub steps that wait in an outbound queue (R9). -/
def requestTags (pkts : List OutPacket) : List (Fin 16) :=
  pkts.filterMap (fun pkt => match pkt with | .request t _ _ _ _ => some t | _ => none)

/-- The accounts of the target ports: a queue of an arbiter holds QUEUED pieces of its domain toward its port, none twice (R62); a
GRANTED or SENT piece holds a LIVE tag of its target, and a LIVE tag that names a piece is the one that piece holds (R63, R64); a piece
or step in the outbound queue is GRANTED or has not left, each under a tag of its own (R9, R63, R67). -/
def State.TargetLaw (s : State) : Prop :=
  (∀ (p : Port) (d : Domain), (((s.ports.get p).arbiter.queueOf d)).Nodup ∧
    ∀ ref ∈ (s.ports.get p).arbiter.queueOf d, ∃ r ∈ s.requests, ∃ c ∈ r.pieces,
      ref = ⟨r.id, c.num⟩ ∧ r.target = p ∧ r.dom = d ∧ c.state = .queued) ∧
  (∀ r ∈ s.requests, ∀ c ∈ r.pieces, c.state = .granted ∨ c.state = .sent →
    ∃ t, c.ttag = some t ∧ (s.ports.get r.target).tags.get t = .live (.piece ⟨r.id, c.num⟩)) ∧
  (∀ (p : Port) (t : Fin 16) (ref : PieceRef), (s.ports.get p).tags.get t = .live (.piece ref) →
    ∃ r ∈ s.requests, ∃ c ∈ r.pieces,
      ref = ⟨r.id, c.num⟩ ∧ r.target = p ∧ c.ttag = some t ∧ (c.state = .granted ∨ c.state = .sent)) ∧
  ∀ p : Port, (requestTags (s.ports.get p).outbound).Nodup ∧
    ∀ t ∈ requestTags (s.ports.get p).outbound,
      (∃ u e, (s.ports.get p).tags.get t = .live (.scrub u false e)) ∨
      ∃ r ∈ s.requests, ∃ c ∈ r.pieces, (s.ports.get p).tags.get t = .live (.piece ⟨r.id, c.num⟩) ∧ c.state = .granted

/-- The peripheral events in an outbound queue. -/
def eventsIn (pkts : List OutPacket) : Nat :=
  (pkts.filter (fun pkt => match pkt with | .event _ _ _ _ => true | _ => false)).length

/-- The gate events of one kind in an outbound queue. -/
def noticesIn (k : NoticeKind) (pkts : List OutPacket) : Nat :=
  (pkts.filter (fun pkt => match pkt with | .notice k' => decide (k' = k) | _ => false)).length

/-- The management tags whose replies wait in an outbound queue. -/
def replyTags (pkts : List OutPacket) : List (Fin 4) :=
  pkts.filterMap (fun pkt => match pkt with | .reply t _ _ => some t | _ => none)

/-- The initiator tags whose COMPLETIONs wait in an outbound queue. -/
def completionTags (pkts : List OutPacket) : List (Fin 32) :=
  pkts.filterMap (fun pkt => match pkt with | .completion t _ _ => some t | _ => none)

/-- The initiator tags of `d` that are still to be answered or whose answers wait: those of its requests that are not abandoned, of its
parked requests, and of the COMPLETIONs in its outbound queue (R4, R52, R56). -/
def State.tagsOwed (s : State) (d : Domain) : List (Fin 32) :=
  (s.requests.filter (fun r => decide (r.dom = d) && !r.abandoned)).filterMap (fun r => r.tag)
  ++ ((s.units.toList.flatMap (fun v => v.parked)).filter (fun k => decide (k.req.dom = d))).filterMap (fun k => k.req.tag)
  ++ completionTags (s.ports.get d.port).outbound

/-- The accounts of the outbound queues (R9): a queue is empty while its port is not UP; a peripheral port's holds pieces and scrub steps
alone; an initiator port's holds as many peripheral events as are counted and a gate event of each kind exactly while its place is WAITING
(R114), one reply for each of some commands whose tag is in use and that no block carries (R158), and one COMPLETION for each of some tags
of the set (R4). -/
def State.OutboundLaw (s : State) : Prop :=
  (∀ p : Port, (s.ports.get p).link ≠ .up → (s.ports.get p).outbound = []) ∧
  (∀ p : Port, p.domain = none → ∀ pkt ∈ (s.ports.get p).outbound, ∃ t kind a l y, pkt = .request t kind a l y) ∧
  ∀ d : Domain,
    let v := s.inits.get d
    let out := (s.ports.get d.port).outbound
    eventsIn out = v.eventCount ∧
    noticesIn .fault out = (if v.faultNotice = .waiting then 1 else 0) ∧
    noticesIn .custody out = (if v.custodyNotice = .waiting then 1 else 0) ∧
    (replyTags out).Nodup ∧
    (∀ t ∈ replyTags out, ∃ c ∈ v.commands, c.tag = t ∧ c.discard = false ∧ c.carrier = none) ∧
    (s.tagsOwed d).Nodup ∧ ∀ t ∈ s.tagsOwed d, t ∈ v.tags

/-- The limits of R9: at most 62 packets wait at a port, 16 at a peripheral port, and of those at an initiator port at most 8 are
peripheral events and at most 2 are gate events (R9, R114). -/
def State.PlacesLaw (s : State) : Prop :=
  (∀ p : Port, (s.ports.get p).outbound.length ≤ 62 ∧ (p.domain = none → (s.ports.get p).outbound.length ≤ 16)) ∧
  ∀ d : Domain,
    let out := (s.ports.get d.port).outbound
    eventsIn out ≤ 8 ∧ noticesIn .fault out + noticesIn .custody out ≤ 2

/-! ### Outcomes -/

/-- `t` is a state right after a reset of the part. -/
def State.isReset (t : State) : Prop := ∃ cause, t = { State.afterReset cause with pending := t.pending, wire := t.wire }

/-! ### Packets that arrive (R6, R7) -/

/-- `pkt` can be taken on port `p` of `s`, and `s1` is `s` once it has left the ingress buffer (R6, R10). -/
def Arrives (p : Port) (pkt : Packet) (s s1 : State) : Prop :=
  (s.ports.get p).link = .up ∧
  (((s.ports.get p).ingress = [] ∧ s1 = s) ∨
    ∃ rest, (s.ports.get p).ingress = pkt :: rest ∧
      s1 = { s with ports := s.ports.set p { s.ports.get p with ingress := rest } })

/-- The command code of `m` can be taken on the port of `d`: the packet arrives and passes the checks of R7, its parameters
being as many as its header says and at most 64, and its tag held by no command of the port. -/
def CommandArrives (d : Domain) (code : Byte) (m : MgmtPacket) (s s1 : State) : Prop :=
  Arrives d.port (.manage code m) s s1 ∧ m.params.length = m.declared.toNat ∧ m.params.length ≤ 64 ∧
  ∀ c ∈ (s.inits.get d).commands, c.discard = false → c.tag ≠ m.tag

/-- A READ, WRITE or POST can be taken on the port of `d` and passes the checks of R7. -/
def RequestArrives (d : Domain) (kind : Kind) (tag : Fin 32) (lengthCode : Byte) (addr : Addr) (payload : List Byte)
    (s s1 : State) : Prop :=
  Arrives d.port (.request kind tag lengthCode addr payload) s s1 ∧
  (kind = .read → payload = []) ∧ (kind ≠ .read → payload.length = lengthOfCode lengthCode) ∧
  (kind ≠ .post → tag ∉ (s.inits.get d).tags)

/-! ### Effects as they are claimed: whole next states, so that all they do not name is unchanged -/

/-- Packets at the end of a port's outbound queue. -/
def withOut (p : Port) (pkts : List OutPacket) (s : State) : State :=
  { s with ports := s.ports.set p { s.ports.get p with outbound := (s.ports.get p).outbound ++ pkts } }

/-- A command at the end of the engine's list of a port (R158). -/
def withCommand (d : Domain) (m : MgmtPacket) (code : Byte) (carrier : Option Carrier) (s : State) : State :=
  { s with
    inits := s.inits.set d
      { s.inits.get d with commands := (s.inits.get d).commands ++ [⟨m.tag, code, false, carrier⟩] } }

/-- A command taken and answered at once (R158, R160). -/
def answered (d : Domain) (m : MgmtPacket) (code : Byte) (st : ReplyStatus) (result : List Byte) (s : State) : State :=
  withOut d.port [.reply m.tag st result] (withCommand d m code none s)

/-- A READ or WRITE's tag is in the initiator tag set; a POST enters none (R3, R4). -/
def withTag (d : Domain) (kind : Kind) (tag : Fin 32) (s : State) : State :=
  if kind = .post then s
  else { s with inits := s.inits.set d { s.inits.get d with tags := tag :: (s.inits.get d).tags } }

/-- The COMPLETION of a READ or WRITE; a POST has none (R33, R34, R71). -/
def withAnswer (d : Domain) (kind : Kind) (tag : Fin 32) (st : AnswerStatus) (data : List Byte) (s : State) : State :=
  if kind = .post then s else withOut d.port [.completion tag st data] s

/-- A sticky flag of `d` is set. -/
def withFlag (d : Domain) (f : Flag) (s : State) : State := { s with flags := s.flags.set d ((s.flags.get d).raise f) }

/-- A FAULT_NOTICE handed for the UP port of `d`: placed unless one already waits (R120). -/
def withFaultNotice (d : Domain) (s : State) : State :=
  if (s.inits.get d).faultNotice = .empty then
    { withOut d.port [.notice .fault] s with inits := s.inits.set d { s.inits.get d with faultNotice := .waiting } }
  else s

/-- The COMPLETION of a READ or WRITE that was not answered at its arrival: there is none for a POST, which has no tag, and none where the
initiator's port is not UP (R9, R71). -/
def withLateAnswer (q : Arrival) (st : AnswerStatus) (data : List Byte) (s : State) : State :=
  match q.tag with
  | none => s
  | some t => if (s.ports.get q.dom.port).link = .up then withOut q.dom.port [.completion t st data] s else s

/-- The COMPLETION with which an ended request of an UP port is answered: an abandoned one and a POST get none, and only a READ
that ended OK carries its data (R71, R72). -/
def withRequestAnswer (r : Request) (st : PieceStatus) (data : List Byte) (s : State) : State :=
  match r.tag with
  | none => s
  | some t =>
    if r.abandoned then s
    else withOut r.dom.port [.completion t st.answer (if r.kind = .read ∧ st = .ok then data else [])] s

/-! ### The decision of a request (R26, R32 to R34) -/

/-- The four conditions of the match (R26). -/
def Entry.Meets (e : Entry) (d : Domain) (mode : Mode) (a : Addr) : Prop :=
  e.valid = true ∧ e.domains.has d = true ∧
  (e.view = .both ∨ (mode = .normal ∧ e.view = .normal) ∨ (mode = .quarantined ∧ e.view = .quarantine)) ∧
  e.base.toNat ≤ a.toNat ∧ a.toNat < e.base.toNat + sizeBytes e.size

/-- `i` is the matched entry: it meets the conditions and none before it does (R26). -/
def Matched (s : State) (d : Domain) (a : Addr) (i : Fin 96) : Prop :=
  (s.active.get i).Meets d (s.domain d).mode a ∧ ∀ j : Fin 96, j < i → ¬(s.active.get j).Meets d (s.domain d).mode a

/-- The matched entry's range holds the whole request and its kinds the request's kind (R28, R29). -/
def Entry.Allows (e : Entry) (kind : Kind) (a : Addr) (len : Nat) : Prop :=
  a.toNat + len ≤ e.base.toNat + sizeBytes e.size ∧ e.kinds.has kind = true

/-- The answer and the flag of a denial in a style (R33, R34). -/
def withDenial (style : DomainStyle) (d : Domain) (kind : Kind) (tag : Fin 32) (len : Nat) (s : State) : State :=
  match style with
  | .refuse => withFlag d .denied (withAnswer d kind tag .denied [] s)
  | .mask =>
    withFlag d .masked (withAnswer d kind tag .ok (if kind = .read then List.replicate len (s.domains.get d).fill else []) s)

/-- A request denied CUSTODY by unit `u` from its entry copy in a style: answered, flagged and reported (R32 to R35, R53). -/
def withCustodyDenial (style : DomainStyle) (q : Arrival) (e : EntryCopy) (u : Fin 8) (s : State) : State :=
  raiseFault
    ⟨.custody, q.dom.port.byte, some q.dom, q.tag.map (fun t => BitVec.ofNat 8 t.1), some (recordKind q.kind), some q.addr, some q.len,
      some e.index, some e.target, some (e.offset + (q.addr - e.base)), some u, 0⟩
    (match style with
      | .refuse => withFlag q.dom .denied (withLateAnswer q .denied [] s)
      | .mask =>
        withFlag q.dom .masked
          (withLateAnswer q .ok (if q.kind = .read then List.replicate q.len (s.domains.get q.dom).fill else []) s))

/-- A target state admits a domain (R51). -/
def Holding.Admits (t : Holding) (d : Domain) : Prop := t = .opened ∨ t = .held d

/-- The state of a unit admits a request of `d` (R51). -/
def UnitState.Admits (st : UnitState) (d : Domain) : Prop := st = .opened ∨ st = .held d

/-- The state of a unit parks a request of `d` (R51). -/
def UnitState.Parks (st : UnitState) (d : Domain) : Prop :=
  ∃ t : Holding, (st = .draining t ∨ st = .scrubbing t) ∧ t.Admits d

/-! ### Admission and metering (R31, R49, R56, R58, R77, R80, R84 to R87) -/

/-- The pieces of a request through an entry copy, in `st`, at its target's max burst now (R31, R58). -/
def piecesOf (s : State) (q : Arrival) (e : EntryCopy) (st : PieceState) : List Piece :=
  splitRequest (s.ports.get e.target).config.maxBurst (e.offset + (q.addr - e.base)) q.len st

/-- The record of a request admitted through an entry copy, its pieces in `st` (R31, R56); its number and the first value of its read
data are the model's (log entry 5). -/
def recordOf (s : State) (q : Arrival) (e : EntryCopy) (st : PieceState) : Request :=
  let cfg := (s.ports.get e.target).config
  let pieces := piecesOf s q e st
  { id := freshRecord s.requests, dom := q.dom, tag := q.tag, kind := q.kind, addr := q.addr, len := q.len, target := e.target,
    taddr := e.offset + (q.addr - e.base), entry := e.index, meter := e.meter, unit := e.unit, payload := q.payload,
    burst := cfg.maxBurst, deadline := cfg.deadline, pieces := pieces, outstanding := pieces.length, worst := .ok,
    readData := if q.kind = .read then List.replicate q.len 0 else [], abandoned := false }

/-- The record at the end of the list, its pieces counted into unit `u` (R31, R49). -/
def withRecord (r : Request) (u : Fin 8) (s : State) : State :=
  { s with
    requests := s.requests ++ [r]
    units := setAt s.units u { s.units.get u with inFlight := (s.units.get u).inFlight + r.pieces.length } }

/-- The POST `q`, which stands on meter `n`'s list between `before` and `after`, makes room at the end for record `id`: its CHARGING pieces
are removed and counted out of its unit, it ends if none of it is left, THROTTLED is set, and where it was the head the release time goes
with it (R83, R85, R89). -/
def withRoomMade (n : Fin 16) (q : Request) (before after : List Nat) (id : Nat) (s : State) : State :=
  let gone := (q.pieces.filter (fun c => decide (c.state = .charging))).length
  let rest : Request :=
    { q with
      outstanding := q.outstanding - gone
      pieces := q.pieces.map (fun c =>
        if c.state = .charging then { c with state := .removed, ttag := none, deadline := none } else c) }
  let v := s.meters.get n
  { s with
    requests :=
      if q.outstanding = gone then s.requests.filter (fun r => decide (r.id ≠ q.id))
      else s.requests.map (fun r => if r.id = q.id then rest else r)
    units := match q.unit with
      | none => s.units
      | some u => setAt s.units u { s.units.get u with inFlight := (s.units.get u).inFlight - gone }
    flags := s.flags.set q.dom { s.flags.get q.dom with throttled := true }
    meters := setAt s.meters n
      { v with waiting := before ++ after ++ [id], release := if before = [] then none else v.release } }

/-- A charged piece of `r` enters QUEUED at its UP target, at the end of its domain's queue (R59, R61, R84). -/
def withQueued (r : Request) (before : List Piece) (c : Piece) (after : List Piece) (s : State) : State :=
  { s with
    requests := s.requests.map (fun q =>
      if q.id = r.id then { r with pieces := before ++ { c with state := .queued } :: after } else q)
    ports := s.ports.set r.target
      { s.ports.get r.target with
        arbiter := (s.ports.get r.target).arbiter.modQueue r.dom (fun l => l ++ [⟨r.id, c.num⟩]) } }

/-- A request whose live pieces all are CHARGING, of which one is charged while its target is not UP, ends LINK_DOWN and leaves the
list, its pieces counted out of its unit (R77). -/
def withLinkDown (n : Fin 16) (r : Request) (rest : List Nat) (s : State) : State :=
  withRequestAnswer r .linkDown []
    { s with
      requests := s.requests.filter (fun q => decide (q.id ≠ r.id))
      units := match r.unit with
        | none => s.units
        | some u => setAt s.units u { s.units.get u with inFlight := (s.units.get u).inFlight - r.livePieces }
      meters := setAt s.meters n { s.meters.get n with waiting := rest } }

/-- The head of a meter's list with the first of its CHARGING pieces (R84). -/
def NextPiece (n : Fin 16) (s : State) (r : Request) (rest : List Nat) (before : List Piece) (c : Piece) (after : List Piece) : Prop :=
  (s.meters.get n).waiting = r.id :: rest ∧ r ∈ s.requests ∧ r.pieces = before ++ c :: after ∧ c.state = .charging ∧
  ∀ y ∈ before, y.state ≠ .charging

/-- The charge of a piece of `len` bytes, and the state that its payment or the clamp case leaves (R80, R84, R86): a cost within the
depth is paid from a credit that holds it; a cost above the depth takes the whole of a full credit and sets CLAMPED. -/
def Paid (n : Fin 16) (d : Domain) (len : Nat) (s s1 : State) : Prop :=
  let v := s.meters.get n
  let cost := 1 + (len + 15) / 16
  (cost ≤ v.depth ∧ 256 * cost ≤ v.credit ∧
    s1 = { s with meters := setAt s.meters n { v with credit := v.credit - 256 * cost } }) ∨
  (v.depth < cost ∧ v.credit = 256 * v.depth ∧
    s1 = withFlag d .clamped { s with meters := setAt s.meters n { v with credit := 0 } })

/-- The credit at which a meter charges a piece of `len` bytes: 256 times its cost, or a full credit where the cost is above the depth
(R80, R85, R86). -/
def wantedCredit (v : Meter) (len : Nat) : Nat := 256 * min (1 + (len + 15) / 16) v.depth

/-- The head begins to wait with a piece of `len` bytes: THROTTLED is set, and the release time where the meter has a rate (R85 to
R87). -/
def withWait (n : Fin 16) (d : Domain) (len : Nat) (s : State) : State :=
  let v := s.meters.get n
  withFlag d .throttled
    { s with
      meters := setAt s.meters n
        { v with
          release :=
            if v.rate = 0 then none else some (s.gateTime + (wantedCredit v len - v.credit + v.rate - 1) / v.rate) } }

/-- The evaluation of meter `n` after its refill, step by step from the head (R77, R84 to R87): from `s` it ends in `t`. -/
inductive Charges (n : Fin 16) : State → State → Prop
  /-- The list is empty: the meter keeps its credit (R84). -/
  | empty (s : State) : (s.meters.get n).waiting = [] → Charges n s s
  /-- The head has no piece left CHARGING: it leaves the list and the next becomes head (R84). -/
  | next (s t : State) (r : Request) (rest : List Nat) : (s.meters.get n).waiting = r.id :: rest → r ∈ s.requests →
      (∀ y ∈ r.pieces, y.state ≠ .charging) →
      Charges n { s with meters := setAt s.meters n { s.meters.get n with waiting := rest } } t → Charges n s t
  /-- The head's next piece is charged and enters QUEUED at its UP target (R84, R86). -/
  | queued (s s1 t : State) (r : Request) (rest : List Nat) (before : List Piece) (c : Piece) (after : List Piece) :
      NextPiece n s r rest before c after → (s.ports.get r.target).link = .up → Paid n r.dom c.len s s1 →
      Charges n (withQueued r before c after s1) t → Charges n s t
  /-- The head's next piece is charged while its target is not UP: the request ends LINK_DOWN, and the credit is not returned (R77). That it
  is answered before the next head is charged is the model's order (log entry 7). -/
  | linkDown (s s1 t : State) (r : Request) (rest : List Nat) (before : List Piece) (c : Piece) (after : List Piece) :
      NextPiece n s r rest before c after → (s.ports.get r.target).link ≠ .up → Paid n r.dom c.len s s1 →
      Charges n (withLinkDown n r rest s1) t → Charges n s t
  /-- The head waits for the credit of its next piece, or for a full credit where the piece costs more than the depth (R85 to R87). -/
  | waits (s : State) (r : Request) (rest : List Nat) (before : List Piece) (c : Piece) (after : List Piece) :
      NextPiece n s r rest before c after → (s.meters.get n).credit < wantedCredit (s.meters.get n) c.len →
      Charges n s (withWait n r.dom c.len s)

/-- Meter `n` at the start of an evaluation: refilled to now, no release time, with `waiting` as its list (R81, R88). -/
def withRefill (n : Fin 16) (waiting : List Nat) (s : State) : State :=
  let v := s.meters.get n
  { s with
    meters := setAt s.meters n
      { v with
        credit := min (256 * v.depth) (v.credit + v.rate * (s.gateTime - v.last)), last := s.gateTime, waiting := waiting
        release := none } }

/-! ### Pieces that are removed, and the meters whose heads they were (R69, R70, R89) -/

/-- Meter `n` after the removals of one event, made between `s` and `b`: if its head was removed and a request is left, the new head is
evaluated, and `t` is what that leaves (R81, R84, R89). -/
def MeterGoesOn (n : Fin 16) (s b t : State) : Prop :=
  let list := (b.meters.get n).waiting
  ((s.meters.get n).waiting.head? = list.head? ∨ list = [] → t = b) ∧
  ((s.meters.get n).waiting.head? ≠ list.head? → list ≠ [] → Charges n (withRefill n list b) t)

/-- The meters of a list go on one after another. -/
def MetersGoOn (s : State) : List (Fin 16) → State → State → Prop
  | [], b, t => t = b
  | n :: ns, b, t => ∃ x, MeterGoesOn n s b x ∧ MetersGoOn s ns x t

/-- A meter without the requests for which `gone` holds: those left keep their order, and where the head went the release time went with
it (R89). -/
def withoutListed (gone : Nat → Bool) (v : Meter) : Meter :=
  { v with
    waiting := v.waiting.filter (fun i => !gone i)
    release := match v.waiting with
      | [] => v.release
      | i :: _ => if gone i then none else v.release }

/-- The pieces `gone` of `r` leave the places where they stand: QUEUED ones their queue, GRANTED ones the outbound queue with their tags
FREE; they leave the count of their unit, and the request leaves its waiting list (R50, R63, R70, R89). -/
def withoutPieces (r : Request) (gone : List Piece) (s : State) : State :=
  let v := s.ports.get r.target
  let freed := fun (t : Fin 16) => gone.any (fun y => decide (y.state = .granted ∧ y.ttag = some t))
  { s with
    ports := s.ports.set r.target
      { v with
        arbiter := v.arbiter.modQueue r.dom
          (fun l => l.filter (fun ref => !gone.any (fun y => decide (y.state = .queued ∧ ref = ⟨r.id, y.num⟩))))
        tags := Vector.ofFn (fun t => if freed t then .free else v.tags.get t)
        outbound := v.outbound.filter (fun pkt => match pkt with | .request t _ _ _ _ => !freed t | _ => true) }
    units := match r.unit with
      | none => s.units
      | some u => setAt s.units u { s.units.get u with inFlight := (s.units.get u).inFlight - gone.length }
    meters := match r.meter with
      | none => s.meters
      | some n => setAt s.meters n (withoutListed (fun i => decide (i = r.id)) (s.meters.get n)) }

/-- What is left of `r` once its piece `c` has ended in `st` and its other unsent pieces are REMOVED: its SENT pieces are awaited, and the
status is merged (R69, R70). -/
def Request.afterFailure (r : Request) (c : Piece) (st : PieceStatus) : Request :=
  { r with
    pieces := r.pieces.map (fun y =>
      if y.num = c.num then { y with state := .resolved st, ttag := none, deadline := none }
      else if y.state.unsent then { y with state := .removed, ttag := none, deadline := none } else y)
    outstanding := (r.pieces.filter (fun y => decide (y.num ≠ c.num ∧ y.state = .sent))).length
    worst := r.worst.merge st }

/-- The piece `c` of `r`, which has left its place in `s`, fails with `st`: it is counted out of its unit, the unsent pieces of the request
are removed, the meter that lost its head goes on, and the request is answered if nothing of it is outstanding, and else is kept without
an answer (R50, R69 to R71, R89). -/
def PieceFails (r : Request) (c : Piece) (st : PieceStatus) (s t : State) : Prop :=
  let left := r.afterFailure c st
  let out : State :=
    { s with
      requests := s.requests.map (fun q => if q.id = r.id then left else q)
      units := match r.unit with
        | none => s.units
        | some u => setAt s.units u { s.units.get u with inFlight := (s.units.get u).inFlight - 1 } }
  let gone := r.pieces.filter (fun y => decide (y.num ≠ c.num) && y.state.unsent)
  ∃ x, MetersGoOn s (List.finRange 16) (withoutPieces r gone out) x ∧
    t = if left.outstanding = 0 then
        withRequestAnswer r left.worst [] { x with requests := x.requests.filter (fun q => decide (q.id ≠ r.id)) }
      else x

/-- An event has taken the requests for which `gone` holds from the waiting lists and their pieces from the arbiter queues, and the meters
that lost their heads have gone on, in the order of their indices; `t` has the meters, the arbiter queues, the meter flags and the other
requests that this leaves (R12, R76, R84, R89, R100). The order of the meters is the model's (log entry 7). -/
def HeadsGoOn (gone : Nat → Bool) (s t : State) : Prop :=
  ∃ b x : State, MetersGoOn s (List.finRange 16) b x ∧
    (∀ n : Fin 16, b.meters.get n = withoutListed gone (s.meters.get n)) ∧
    (∀ (q : Port) (d : Domain),
      (b.ports.get q).link = (t.ports.get q).link ∧
      (b.ports.get q).arbiter.queueOf d = ((s.ports.get q).arbiter.queueOf d).filter (fun ref => !gone ref.req)) ∧
    (∀ r : Request, gone r.id = false → (r ∈ b.requests ↔ r ∈ s.requests)) ∧
    b.gateTime = s.gateTime ∧ b.flags = s.flags ∧
    t.meters = x.meters ∧
    (∀ (q : Port) (d : Domain), (t.ports.get q).arbiter.queueOf d = (x.ports.get q).arbiter.queueOf d) ∧
    (∀ d : Domain, (t.flags.get d).throttled = (x.flags.get d).throttled ∧ (t.flags.get d).clamped = (x.flags.get d).clamped) ∧
    ∀ r : Request, gone r.id = false → (r ∈ t.requests ↔ r ∈ x.requests)

/-! ### The checks of a validation (R153, R154) -/

/-- The rates of the meters that valid PENDING entries up to index `i` name toward port `p`, each counted once (R154). -/
def rateSum (s : State) (i : Fin 96) (p : Port) : Nat :=
  (((List.finRange 16).filter (fun n => decide (∃ j : Fin 96, j ≤ i ∧ (s.pendingBank.get j).valid = true ∧
      (s.pendingBank.get j).target = p ∧ (s.pendingBank.get j).meter = some n))).map (fun n => (s.meters.get n).rate)).sum

/-- PENDING entry `i` fails the check of reason `r` (R153, R154). -/
def Fails (s : State) (i : Fin 96) (r : Reason) : Prop :=
  let e := s.pendingBank.get i
  match r with
  | .selfTarget => e.valid = true ∧ ∃ d : Domain, e.target = d.port ∧ e.domains.has d = true
  | .targetSpan => e.valid = true ∧
      65536 * (if (s.port e.target).config.span = 0 then 65536 else (s.port e.target).config.span.toNat)
        < e.offset.toNat + sizeBytes e.size
  | .meterUnset => e.valid = true ∧ ∃ n, e.meter = some n ∧ (s.meters.get n).rate = 0
  | .unitUndefined => e.valid = true ∧ ∃ u, e.unit = some u ∧ (s.units.get u).port ≠ some e.target
  | .custodyGap => e.valid = true ∧ ∃ u : Fin 8, (s.units.get u).port = some e.target ∧
      e.offset.toNat < (s.units.get u).start.toNat + sizeBytes (s.units.get u).size ∧
      (s.units.get u).start.toNat < e.offset.toNat + sizeBytes e.size ∧ e.unit ≠ some u
  | .quarantineBound => e.valid = true ∧ e.view ≠ .normal ∧ e.unit ≠ none
  | .pinnedChanged => (s.active.get i).pinned = true ∧ e ≠ s.active.get i
  | .oversubscribed => e.valid = true ∧ e.meter ≠ none ∧ (s.port e.target).config.capacity ≠ 0 ∧
      (s.port e.target).config.capacity.toNat < rateSum s i e.target

/-- The reasons in the order of the checks (R153). -/
def reasonOrder : List Reason :=
  [.selfTarget, .targetSpan, .meterUnset, .unitUndefined, .custodyGap, .quarantineBound, .pinnedChanged, .oversubscribed]

/-- The first PENDING entry that fails a check, and the first check it fails (R153). -/
def FirstOffender (s : State) (i : Fin 96) (r : Reason) : Prop :=
  (∀ j : Fin 96, j < i → ∀ q, ¬Fails s j q) ∧ Fails s i r ∧
  ∀ q, (reasonOrder.idxOf q) < (reasonOrder.idxOf r) → ¬Fails s i q

/-! ### Parameters as they are written out (R171, R175) -/

/-- The parameter lengths a command accepts (R175). -/
def acceptedLengths (code : Byte) : List Nat :=
  if code = 0x20 then (List.range 49).map (fun n => n + 16)
  else if code = 0x40 then [1, 3]
  else if code ∈ [(0x01 : Byte), 0x02, 0x10, 0x13, 0x52] then [0]
  else if code ∈ [(0x03 : Byte), 0x04, 0x05, 0x14, 0x22, 0x23, 0x31, 0x42, 0x43, 0x51] then [1]
  else if code ∈ [(0x12 : Byte), 0x21] then [2]
  else if code = 0x44 then [3]
  else if code = 0x30 then [7]
  else if code = 0x41 then [8]
  else if code = 0x50 then [13]
  else if code = 0x11 then [19]
  else []

/-- Parameters of an accepted length with a value that the command refuses at step 4 of R158 (R43, R95, R97, R134, R136, R142 to R145,
R148 to R150, R164 to R166, R170, R171, R175): an index, a port, a domain, a target, a class, a bank or a style outside what it accepts, or
scrub steps that do not fill the parameters. -/
def RefusedValue (code : Byte) (ps : List Byte) : Prop :=
  let b := fun (i : Nat) => (ps.getD i 0).toNat
  let outside := fun (i top : Nat) => top < b i ∧ b i ≠ 255
  (code = 0x04 ∧ 2 < b 0) ∨
  (code ∈ [(0x05 : Byte), 0x41, 0x42, 0x43] ∧ b 0 ≠ 0 ∧ b 0 ≠ 2) ∨
  (code = 0x11 ∧ (95 < b 0 ∨ 6 < b 4 ∨ outside 5 15 ∨ outside 6 7 ∨ b 1 / 16 % 4 = 3)) ∨
  (code = 0x12 ∧ (1 < b 0 ∨ 95 < b 1)) ∨
  (code = 0x14 ∧ 95 < b 0) ∨
  (code = 0x20 ∧ (7 < b 0 ∨ outside 1 6 ∨ b 2 / 2 % 4 = 3 ∨ 4 < b 3 ∨
    ∀ script : List ScrubStep, script.length = b 3 → (∀ st ∈ script, 1 ≤ st.data.length ∧ st.data.length ≤ 16) →
      ps.drop 16 ≠ script.flatMap (fun st => leBytes 4 st.addr.toNat ++ [BitVec.ofNat 8 st.data.length] ++ st.data))) ∨
  (code = 0x21 ∧ (7 < b 0 ∨ 3 < b 1)) ∨
  (code ∈ [(0x22 : Byte), 0x23] ∧ 7 < b 0) ∨
  (code ∈ [(0x30 : Byte), 0x31] ∧ 15 < b 0) ∨
  (code = 0x40 ∧ (b 0 = 0 ∨ 14 < b 0)) ∨
  (code = 0x44 ∧ (2 < b 0 ∨ 1 < b 1)) ∨
  (code ∈ [(0x50 : Byte), 0x51] ∧ 6 < b 0)

/-- The unit image of a definition (R171). -/
def UnitDefinition.image (u : Fin 8) (d : UnitDefinition) : List Byte :=
  [BitVec.ofNat 8 u.1, optPortByte d.port, BitVec.ofNat 8 ((if d.events then 1 else 0) + 2 * d.style.code),
    BitVec.ofNat 8 d.script.length]
  ++ leBytes 4 d.start.toNat ++ leBytes 4 d.size.toNat ++ leBytes 2 (d.drain.value.1 + 1024 * d.drain.scale.1)
  ++ leBytes 2 (d.settle.value.1 + 1024 * d.settle.scale.1)
  ++ d.script.flatMap (fun st => leBytes 4 st.addr.toNat ++ [BitVec.ofNat 8 st.data.length] ++ st.data)

/-- The unit image of a definition as it may be written (R171): `start` and the fields of the size and the two times as they are sent, and
`spare` the bits of the flags byte that the image leaves unnamed. -/
def UnitDefinition.written (u : Fin 8) (d : UnitDefinition) (start : Addr) (size : BitVec 32) (drain settle : Half) (spare : Fin 32) :
    List Byte :=
  [BitVec.ofNat 8 u.1, optPortByte d.port, BitVec.ofNat 8 ((if d.events then 1 else 0) + 2 * d.style.code + 8 * spare.1),
    BitVec.ofNat 8 d.script.length]
  ++ leBytes 4 start.toNat ++ leBytes 4 size.toNat ++ leBytes 2 drain.toNat ++ leBytes 2 settle.toNat
  ++ d.script.flatMap (fun st => leBytes 4 st.addr.toNat ++ [BitVec.ofNat 8 st.data.length] ++ st.data)

/-- The time code stored for a field: value in bits 9 to 0, the scale in bits 12 to 10 with 4 to 7 stored as 3 (R16, R169). -/
def TimeCode.StoredFrom (c : TimeCode) (field : Half) : Prop :=
  c.value.1 = field.toNat % 1024 ∧ c.scale.1 = min 3 (field.toNat / 1024 % 8)

/-- The definition stored for what is written (R42, R168): the low four bits of the start 0; the size, its top four bits disregarded,
limited so that the range ends at or below 2^32; the times clamped; 0 to 4 steps of 1 to 16 bytes. -/
def UnitDefinition.StoredFrom (d : UnitDefinition) (start : Addr) (size : BitVec 32) (drain settle : Half) : Prop :=
  let asked : Size := BitVec.ofNat 28 size.toNat
  d.start.toNat = start.toNat / 16 * 16 ∧
  d.size = (if 2 ^ 32 < d.start.toNat + sizeBytes asked then BitVec.ofNat 28 ((2 ^ 32 - d.start.toNat) / 16) else asked) ∧
  d.drain.StoredFrom drain ∧ d.settle.StoredFrom settle ∧ d.script.length ≤ 4 ∧
  ∀ st ∈ d.script, 1 ≤ st.data.length ∧ st.data.length ≤ 16

/-- A definition as R42 stores it: start aligned, range ending at or below 2^32, 0 to 4 steps of 1 to 16 bytes. -/
def UnitDefinition.Stored (d : UnitDefinition) : Prop :=
  d.start.toNat % 16 = 0 ∧ d.start.toNat + sizeBytes d.size ≤ 2 ^ 32 ∧ d.script.length ≤ 4 ∧
  ∀ st ∈ d.script, 1 ≤ st.data.length ∧ st.data.length ≤ 16

/-- The unit with a definition stored: previous OPEN, the rest of the working part kept (R42, R44). -/
def UnitDefinition.storedIn (d : UnitDefinition) (v : CustodyUnit) : CustodyUnit :=
  { v with port := d.port, start := d.start, size := d.size, events := d.events, style := d.style, drain := d.drain,
           settle := d.settle, script := d.script, previous := .opened }

/-- Checks 3 to 5 of R43 pass for unit `u`. -/
def UnitDefinition.Fits (s : State) (u : Fin 8) (d : UnitDefinition) (p : Port) : Prop :=
  (∀ v : Fin 8, v ≠ u → (s.units.get v).port = some p →
    ¬(d.start.toNat < (s.units.get v).start.toNat + sizeBytes (s.units.get v).size ∧
      (s.units.get v).start.toNat < d.start.toNat + sizeBytes d.size)) ∧
  (d.events = true → p.sendsEvents = true ∧ ∀ v : Fin 8, v ≠ u → (s.units.get v).port = some p → (s.units.get v).events = false) ∧
  ∀ st ∈ d.script, d.start.toNat ≤ st.addr.toNat ∧ st.addr.toNat + st.data.length ≤ d.start.toNat + sizeBytes d.size

/-- ACTIVE entry `i` makes the custody-gap check of R39 report it for unit `u` with this definition on `p`. -/
def UnitDefinition.GapAt (s : State) (u : Fin 8) (d : UnitDefinition) (p : Port) (i : Fin 96) : Prop :=
  (s.active.get i).valid = true ∧ (s.active.get i).target = p ∧
  d.start.toNat < (s.active.get i).offset.toNat + sizeBytes (s.active.get i).size ∧
  (s.active.get i).offset.toNat < d.start.toNat + sizeBytes d.size ∧ (s.active.get i).unit ≠ some u

/-! ### Resets -/

/-- Every part of the gate has its value after a reset of the part with the recorded cause `cause` (R14, R18, R21, R24, R41, R62,
R64, R79, R94, R114, R124, R129, R135, R138, R151, R158, R167; the values of log entry 4 are the model's). -/
def State.Fresh (cause : ResetCause) (t : State) : Prop :=
  t.gateTime = 0 ∧ t.resetCause = cause ∧ t.requests = [] ∧ t.generation = 0 ∧ t.commit = none ∧
  (∀ p : Port,
    t.ports.get p =
      { link := .down, established := false, hold := none, ingress := [], outbound := [], tags := Vector.replicate 16 .free,
        arbiter := ⟨[], [], [], [], .app⟩,
        config :=
          { maxBurst := (match p with | .K => .b16 | .C => .b32 | .D => .b64 | _ => .b256)
            deadline := ⟨100, 1⟩, span := 0, capacity := 0
            route := (match p with | .K => some .pay | .C => some .pay | .D => some .app | _ => none) } }) ∧
  (∀ d : Domain,
    t.inits.get d =
      { tags := [], commands := [], gap := false, eventCount := 0, faultNotice := .empty, custodyNotice := .empty } ∧
    t.domains.get d = { mode := .normal, style := .refuse, fill := 0xFF } ∧
    t.flags.get d = ⟨false, false, false, false, false, false⟩) ∧
  (∀ i : Fin 96, t.pendingBank.get i = t.active.get i ∧
    t.active.get i =
      { valid := false, domains := ⟨false, false, false⟩, view := .normal, base := 0, size := 0, target := .A, offset := 0,
        kinds := ⟨false, false, false⟩, style := .default, meter := none, unit := none, pinned := false }) ∧
  (∀ u : Fin 8,
    t.units.get u =
      { port := none, start := 0, size := 0, events := false, style := .default, drain := ⟨0, 0⟩, script := [],
        settle := ⟨0, 0⟩, state := .opened, previous := .opened, inFlight := 0, parked := [], pendingTake := none,
        hand :=
          { op := none, starting := .opened, drainTimer := none, scrubPos := 0, settleTimer := none, cutCount := 0 } }) ∧
  (∀ n : Fin 16, t.meters.get n = { rate := 0, depth := 1, credit := 0, last := 0, waiting := [], release := none }) ∧
  (∀ c : FaultClass,
    t.controls.get c.index =
      ⟨true, (match c with
        | .noWindow => 16 | .kind => 16 | .bounds => 16 | .malformed => 32 | .mgmtDenied => 32 | _ => 0)⟩ ∧
    (t.masks.app.get c.index) = false ∧ (t.masks.rad.get c.index) = false) ∧
  t.supQ = { records := [], counter := 0, overrun := false, armed := true } ∧
  (∀ x : Scored,
    t.ownQ.get x = { records := [], counter := 0, overrun := false, armed := true } ∧
    t.scores.get x =
      { score := 0, advisory := 0, quarantine := 0, decayAmount := 0, interval := ⟨0, 0⟩, lastDecay := 0, armed := true })

/-- The request has a piece that a reset of its target port reaches: QUEUED, GRANTED or SENT (R76). -/
def Request.atTarget (r : Request) (p : Port) : Prop :=
  r.target = p ∧ ∃ c ∈ r.pieces, c.state = .queued ∨ c.state = .granted ∨ c.state = .sent

/-- The LINK_DOWN record of a reset of `p`, whose detail is the number of requests reached (R76). -/
def linkDownRecord (p : Port) (s : State) : FullRecord :=
  ⟨s.supQ.counter, s.gateTime,
    ⟨.linkDown, p.byte, none, none, none, none, none, none, none, none, none,
      (s.requests.filter (fun r => decide (r.target = p) &&
        r.pieces.any (fun c => decide (c.state = .queued ∨ c.state = .granted ∨ c.state = .sent)))).length⟩⟩

/-- The scrub of unit `u` fails, or, where it drains, its drain ends at a port that is not UP, so that its scrub begins and fails at
once with scrub position 0 (R99, R103, R110). -/
def withScrubFailed (u : Fin 8) (s : State) : State :=
  let v := s.units.get u
  match v.state with
  | .draining g =>
    scrubFail u
      { s with units := setAt s.units u { v with state := .scrubbing g, hand := { v.hand with drainTimer := none, scrubPos := 0 } } }
  | _ => scrubFail u s

/-- The units on `p` that drain with no piece in flight, in index order: their drains have ended (R99). -/
def drainedOn (p : Port) (s : State) : List (Fin 8) :=
  (List.finRange 8).filter (fun u => decide ((s.units.get u).port = some p ∧ (s.units.get u).inFlight = 0) &&
    (match (s.units.get u).state with | .draining _ => true | _ => false))

/-- The units on `p` that scrub, or drain with no piece in flight, in index order, but not the unit `cutting`. -/
def endingOn (p : Port) (cutting : Option (Fin 8)) (s : State) : List (Fin 8) :=
  (List.finRange 8).filter (fun u => decide ((s.units.get u).port = some p ∧ some u ≠ cutting) &&
    (match (s.units.get u).state with
      | .scrubbing _ => true
      | .draining _ => decide ((s.units.get u).inFlight = 0)
      | _ => false))

/-- The drains that have ended on `p`, which is not UP, fail their scrubs, one after another (R99, R103). -/
def withDrainsFailed (p : Port) (s : State) : State := (drainedOn p s).foldl (fun x u => withScrubFailed u x) s

/-- `p` becomes UP (R10); an initiator port then places a held CUSTODY_NOTICE and, if its fault queue holds records, a FAULT_NOTICE
(R13, R122, R131). -/
def withUp (p : Port) (s : State) : State :=
  let up : State := { s with ports := s.ports.set p { s.ports.get p with link := .up, established := false, hold := none } }
  match p.domain with
  | none => up
  | some d =>
    let s2 :=
      if (s.inits.get d).custodyNotice = .held then
        { withOut p [.notice .custody] up with inits := s.inits.set d { s.inits.get d with custodyNotice := .waiting } }
      else up
    if queueFill s d = 0 then s2 else withFaultNotice d (setArmed d false s2)

/-- What a reset of `p`, the port of `d`, leaves of the requests of `d` (R12): no piece of them waits at a meter, an arbiter or in an
outbound queue, the tags of GRANTED ones being FREE; a piece that is SENT to another port keeps its tag and its request its record; a
request with none such is released. -/
def AbandonedIn (d : Domain) (p : Port) (s t : State) : Prop :=
  (∀ r ∈ t.requests, r.dom = d → ∀ c ∈ r.pieces, c.state ≠ .charging ∧ c.state ≠ .queued ∧ c.state ≠ .granted) ∧
  (∀ q : Port, (t.ports.get q).arbiter.queueOf d = []) ∧
  ∀ r ∈ s.requests, r.dom = d →
    (∀ n, r.meter = some n → r.id ∉ (t.meters.get n).waiting) ∧
    (∀ c ∈ r.pieces, ∀ x, c.ttag = some x → r.target ≠ p →
      (c.state = .granted → (t.ports.get r.target).tags.get x = .free ∧ x ∉ requestTags (t.ports.get r.target).outbound) ∧
      (c.state = .sent → (t.ports.get r.target).tags.get x = (s.ports.get r.target).tags.get x)) ∧
    ((r.target = p ∨ ∀ c ∈ r.pieces, c.state ≠ .sent) → ∀ q ∈ t.requests, q.id ≠ r.id) ∧
    (r.target ≠ p → (∃ c ∈ r.pieces, c.state = .sent) →
      { r with
        abandoned := true
        outstanding := (r.pieces.filter (fun c => decide (c.state = .sent))).length
        pieces := r.pieces.map (fun c =>
          if c.state.unsent then { c with state := .removed, ttag := none, deadline := none } else c) } ∈ t.requests)

/-- `t` is what a port reset of `p` leaves of `s`: the port in `link` with hold `hold`, its buffers, tags and queues empty, its
turn and configuration kept (R10, R11, R62, R64); no piece of a request toward it still at the port, and each request reached released
and, unless it is abandoned, answered LINK_DOWN (R76); its initiator side empty, its notice re-armed, its commands marked, its requests
abandoned and no longer parked (R12, R13, R114, R158), a validation aborted at P (R157); every other port's link and configuration, the
banks, the fault controls, gate time and the packets on the wires as they were; the LINK_DOWN record, if its class is recorded and the
queue has room, the next of the supervisor queue (R76); and then, in the state `t0` with the pieces ended, the units on the port that
scrub, and those that drain with no piece left in flight, FAILED one after another, every other unit in its state, a drain with pieces
left going on (R110). Of the requests of a reset initiator port no unsent piece is left anywhere, the SENT ones keep their tags and records,
and a request without any is released (R12); and the meters whose heads the reset removed go on (R12, R89). Four orders in it are the
model's: LINK_DOWN before the SCRUB_FAILED records and the meters by their index (log entry 7), the event places emptied
before a failed scrub hands its CUSTODY_NOTICE (log entry 22), and a drain that had ended before the reset ending within it (log entry
15). The unit `cutting`, if any, is being cut, and its own drain ends later (R101). -/
def ResetOf (p : Port) (link : LinkState) (hold : Option Nat) (cutting : Option (Fin 8)) (s t : State) : Prop :=
  ((t.ports.get p).link = link ∧ (t.ports.get p).hold = hold ∧ (t.ports.get p).established = false ∧
    (t.ports.get p).ingress = [] ∧ (t.ports.get p).outbound = [] ∧ (t.ports.get p).tags = Vector.replicate 16 .free ∧
    (t.ports.get p).arbiter = ⟨[], [], [], [], (s.ports.get p).arbiter.turn⟩ ∧
    (t.ports.get p).config = (s.ports.get p).config) ∧
  (s.CountLaw → ∀ r ∈ t.requests, r.target = p → ∀ c ∈ r.pieces, c.state ≠ .queued ∧ c.state ≠ .granted ∧ c.state ≠ .sent) ∧
  (s.CountLaw → ∀ r ∈ s.requests, r.atTarget p →
    (∀ q ∈ t.requests, q.id = r.id → q.target ≠ p) ∧
    (∀ x, r.tag = some x → r.abandoned = false → r.dom.port ≠ p → (s.ports.get r.dom.port).link = .up →
      OutPacket.completion x .linkDown [] ∈ (t.ports.get r.dom.port).outbound)) ∧
  (∀ d : Domain, p = d.port →
    (t.inits.get d).tags = [] ∧ (t.inits.get d).gap = false ∧ (t.inits.get d).eventCount = 0 ∧
    (t.inits.get d).faultNotice = .empty ∧ (t.inits.get d).custodyNotice ≠ .waiting ∧
    (∀ c ∈ (t.inits.get d).commands, c.discard = true) ∧
    (∀ u : Fin 8, ∀ k ∈ (t.units.get u).parked, k.req.dom ≠ d) ∧
    (∀ r ∈ t.requests, r.dom = d → r.abandoned = true) ∧ noticeArmed t d = true) ∧
  (∀ d : Domain, p = d.port → s.CountLaw → s.TargetLaw → AbandonedIn d p s t) ∧
  (∀ q : Port, q ≠ p →
    (t.ports.get q).link = (s.ports.get q).link ∧ (t.ports.get q).hold = (s.ports.get q).hold ∧
    (t.ports.get q).config = (s.ports.get q).config) ∧
  t.commit = (if p = .P then none else s.commit) ∧
  (t.gateTime = s.gateTime ∧ t.resetCause = s.resetCause ∧ t.active = s.active ∧ t.pendingBank = s.pendingBank ∧
    t.generation = s.generation ∧ t.controls = s.controls ∧ t.masks = s.masks ∧ t.pending = s.pending ∧ t.wire = s.wire) ∧
  ((s.controls.get FaultClass.linkDown.index).record = true → s.supQ.records.length < 32 →
    ∃ more, t.supQ.records = s.supQ.records ++ linkDownRecord p s :: more) ∧
  ∃ t0 : State, t = (endingOn p cutting t0).foldl (fun x u => withScrubFailed u x) t0 ∧
    (∀ u : Fin 8,
      (t0.units.get u).state = (s.units.get u).state ∧ (t0.units.get u).hand = (s.units.get u).hand ∧
      (t0.units.get u).port = (s.units.get u).port ∧ (t0.units.get u).inFlight ≤ (s.units.get u).inFlight ∧
      (t.units.get u).inFlight = (t0.units.get u).inFlight ∧
      (u ∈ endingOn p cutting t0 →
        (t.units.get u).state = .failed ∧ (t.units.get u).parked = [] ∧ (t.units.get u).pendingTake = none ∧
        (t.units.get u).hand = Handover.idle) ∧
      (u ∉ endingOn p cutting t0 → (t.units.get u).state = (s.units.get u).state ∧ (t.units.get u).hand = (s.units.get u).hand) ∧
      (s.CountLaw → (∀ r ∈ s.requests, r.unit = some u → 0 < r.livePieces → r.atTarget p) → (t0.units.get u).inFlight = 0)) ∧
    (s.CountLaw → t0.CountLaw ∧ t.requests = t0.requests) ∧
    ((s.controls.get FaultClass.linkDown.index).record = true → s.supQ.records.length < 32 →
      t0.supQ.records = s.supQ.records ++ [linkDownRecord p s]) ∧
    (s.CountLaw → s.TargetLaw → s.WaitingLaw →
      HeadsGoOn (fun id => s.requests.any (fun r => decide (r.id = id) && (decide (r.dom.port = p) || (decide (r.target = p) &&
        r.pieces.any (fun c => decide (c.state = .queued ∨ c.state = .granted ∨ c.state = .sent)))))) s t0) ∧
    t0.scores = s.scores ∧ t0.domains = s.domains ∧
    (∀ d : Domain, p = d.port → (t0.inits.get d).custodyNotice = .empty)

/-- The orphan limit of the ports of a list, one after another, after the cut of unit `u`: a port whose 16 tags all are ORPHANED has its
ORPHAN_LIMIT record made and is reset (R75, R101). -/
def OrphanLimits (u : Fin 8) : List Port → State → State → Prop
  | [], s, t => t = s
  | p :: ps, s, t =>
    ∃ x : State,
      ((∀ j, (s.ports.get p).tags.get j = .orphaned) →
        ResetOf p .resetting (some (s.gateTime + 100)) (some u)
          (raiseFault ⟨.orphanLimit, p.byte, none, none, none, none, none, none, none, none, none, 0⟩ s) x) ∧
      ((∃ j, (s.ports.get p).tags.get j ≠ .orphaned) → x = s) ∧ OrphanLimits u ps x t

/-! ### Event routing (R115, R116) -/

/-- The domain to whose port an event from `p` goes: to the route while no unit on `p` carries events or that unit is OPEN, to the
holder while it is HELD, else nowhere. -/
def EventGoesTo (s : State) (p : Port) (o : Option Domain) : Prop :=
  ((∀ u : Fin 8, ¬((s.units.get u).port = some p ∧ (s.units.get u).events = true)) ∧ o = (s.ports.get p).config.route) ∨
  ∃ u : Fin 8, (s.units.get u).port = some p ∧ (s.units.get u).events = true ∧
    (∀ v : Fin 8, v < u → ¬((s.units.get v).port = some p ∧ (s.units.get v).events = true)) ∧
    (((s.units.get u).state = .opened ∧ o = (s.ports.get p).config.route) ∨
      (∃ h, (s.units.get u).state = .held h ∧ o = some h) ∨
      ((s.units.get u).state ≠ .opened ∧ (∀ h, (s.units.get u).state ≠ .held h) ∧ o = none))

end Sys2Proof.Machine
end

