-- ==== Sys2Proof/Certificates/Slice0/Obligations.lean ====
section
/-! DEFINITION. The statements about the gate, one definition each; OBLIGATIONS.json says which rules they formalise. -/

open Sys2Proof Sys2Proof.Machine

/-! ### The step -/

/-- A step takes the command at the front of the queue and runs it on the state with the rest of the queue. -/
def Obligations.StepTakesFrontCommand : Prop :=
  ∀ (s : State) (c : Instr) (rest : List Instr), s.pending = c :: rest → step s = exec c { s with pending := rest }

/-- With no command waiting, a step first lets a packet arrive: at the first UP port with fewer than 8 packets held and a packet waiting
at its sender, that packet goes to the end of the ingress buffer, where it is held until it is taken; while 8 are held, or the port is
not UP, none arrives (R6). Where none can arrive, the step does the first thing that is due, and where nothing is due, gate time goes on
by 1 µs up to its largest value (R15). The order of what happens at one instant, and the wire, are the model's choice (log entries 2 and
13). -/
def Obligations.IdleStepDoesWhatIsDue : Prop :=
  ∀ s : State, s.pending = [] →
    let arrives := fun (p : Port) (pkt : Packet) (rest : List Packet) =>
      (s.ports.get p).link = .up ∧ (s.ports.get p).ingress.length < 8 ∧ s.wire.get p = pkt :: rest
    (∀ (p : Port) (pkt : Packet) (rest : List Packet), arrives p pkt rest →
      (∀ q : Port, q.index < p.index → ∀ x xs, ¬arrives q x xs) →
      step s = .next
        { s with
          ports := s.ports.set p { s.ports.get p with ingress := (s.ports.get p).ingress ++ [pkt] }
          wire := s.wire.set p rest }) ∧
    ((∀ p pkt rest, ¬arrives p pkt rest) →
      (∀ c rest, dueEvents s = c :: rest → step s = exec c s) ∧
      (dueEvents s = [] → step s = .next { s with gateTime := min (2 ^ 48 - 1) (s.gateTime + 1) }))

/-- Every command has a next state in every state, and none touches the queue of commands that wait or the packets that the links'
senders hold (log entries 1 and 13). -/
def Obligations.EveryCommandRuns : Prop :=
  ∀ (c : Instr) (s : State), ∃ t, exec c s = .next t ∧ t.pending = s.pending ∧ t.wire = s.wire

/-! ### Laws that hold after a reset and that every step keeps -/

/-- The laws hold of the state right after reset. -/
def Obligations.ResetStateKeepsTheLaws : Prop :=
  State.reset.TimeLaw ∧ State.reset.QueueLaw ∧ State.reset.ScoreLaw ∧ State.reset.ControlLaw ∧ State.reset.MeterLaw ∧
  State.reset.EntryLaw ∧ State.reset.PinLaw ∧ State.reset.GapLaw ∧ State.reset.ActiveLaw ∧ State.reset.DefinitionLaw ∧
  State.reset.CustodyLaw ∧ State.reset.CountLaw ∧ State.reset.HolderLaw ∧ State.reset.EventLaw ∧ State.reset.TagLaw ∧
  State.reset.IngressLaw ∧ State.reset.WaitingLaw ∧ State.reset.ParkedLaw ∧ State.reset.TargetLaw ∧
  State.reset.OutboundLaw ∧ State.reset.PlacesLaw

/-- Gate time stays within 48 bits, and no validation lasts beyond 400 µs (R15, R152). -/
def Obligations.EveryStepKeepsTimeLaw : Prop :=
  ∀ s t : State, s.TimeLaw → step s = .next t → t.TimeLaw

/-- The fault queues never hold more records than their places (R129), scores stay within 65535 and PAY's mode stays NORMAL (R24,
R138, R140), and the fault controls and masks stay within what their classes allow (R124, R125). -/
def Obligations.EveryStepKeepsFaultUnitLaws : Prop :=
  ∀ s t : State, step s = .next t →
    (s.QueueLaw → t.QueueLaw) ∧ (s.ScoreLaw → t.ScoreLaw) ∧ (s.ControlLaw → t.ControlLaw)

/-- Every meter's fields stay in range and its credit within 0 and 256 times its depth (R79, R81). Its waiting list names requests of its
own with pieces CHARGING, none twice (R82, R84, R89), and what waits or is parked for an initiator port waits while that port is UP (R12,
R54); these rest on the accounts of the pieces and of the target tags, which EveryStepKeepsHolderLaw and EveryStepKeepsInitiatorLaw say are
kept, and on the lengths of the parked requests, which stay 1 to 256 (R1, R52). -/
def Obligations.EveryStepKeepsMeterLaw : Prop :=
  ∀ s t : State, step s = .next t →
    (s.MeterLaw → t.MeterLaw) ∧ (s.ParkedLaw → t.ParkedLaw) ∧
    (s.CountLaw ∧ s.TargetLaw ∧ s.ParkedLaw ∧ s.WaitingLaw → t.WaitingLaw)

/-- Every entry of both banks stays aligned with its domain range ending at or below 2^32 (R22, R23), and the PENDING pins stay among
the ACTIVE pins (R154). -/
def Obligations.EveryStepKeepsBankLaws : Prop :=
  ∀ s t : State, step s = .next t → (s.EntryLaw → t.EntryLaw) ∧ (s.PinLaw → t.PinLaw)

/-- A pinned ACTIVE entry keeps its contents at every step that is not a reset of the part (R154). -/
def Obligations.PinnedEntriesKeepTheirContents : Prop :=
  ∀ (s t : State) (i : Fin 96), (s.active.get i).pinned = true → step s = .next t →
    t.active.get i = s.active.get i ∨ t.isReset

/-- The custody-gap law of the ACTIVE bank (R44, R156). -/
def Obligations.EveryStepKeepsCustodyGapLaw : Prop :=
  ∀ s t : State, s.GapLaw → step s = .next t → t.GapLaw

/-- What every valid ACTIVE entry keeps while it is in force (R23, R87, R141, R153). -/
def Obligations.EveryStepKeepsActiveEntryLaw : Prop :=
  ∀ s t : State, s.ActiveLaw → step s = .next t → t.ActiveLaw

/-- The unit definitions stay as R42 and R43 allow them; what is said of ranges is said of the units that have a port. -/
def Obligations.EveryStepKeepsDefinitionLaw : Prop :=
  ∀ s t : State, s.DefinitionLaw → step s = .next t → t.DefinitionLaw

/-- The working parts of the units stay as R47, R49, R51 to R53 and R96 say. -/
def Obligations.EveryStepKeepsCustodyLaw : Prop :=
  ∀ s t : State, s.CustodyLaw → step s = .next t → t.CustodyLaw

/-- The holder law: while a unit is HELD(h), every piece of it in flight was issued by h (R46). It rests on the accounts of
pieces and units, which are kept with it. -/
def Obligations.EveryStepKeepsHolderLaw : Prop :=
  ∀ s t : State, s.CustodyLaw ∧ s.CountLaw ∧ s.HolderLaw → step s = .next t → t.CustodyLaw ∧ t.CountLaw ∧ t.HolderLaw

/-- At most 8 peripheral events wait on an initiator port (R118), and its tags are told apart (R4, R158). An ingress buffer never holds
more than 8 packets (R6). The packets in the outbound queues are those that the tags, places, counts and commands account for (R4, R9,
R63, R64, R114, R158), so that no queue holds more than 62, a peripheral port's no more than 16, and of those at most 8 are peripheral
events and at most 2 are gate events (R9, R114). -/
def Obligations.EveryStepKeepsInitiatorLaw : Prop :=
  ∀ s t : State, step s = .next t →
    (s.EventLaw ∧ s.TagLaw → t.EventLaw ∧ t.TagLaw) ∧
    (s.IngressLaw → t.IngressLaw) ∧
    (s.EventLaw ∧ s.TagLaw ∧ s.CountLaw ∧ s.TargetLaw ∧ s.OutboundLaw → t.TargetLaw ∧ t.OutboundLaw ∧ t.PlacesLaw)

/-- The active generation changes only at a successful commit, by one modulo 65536, with the exchange of the banks, and at a
reset of the part, to 0; but for these, nothing of the ACTIVE bank changes but pinned flags (R20, R156). -/
def Obligations.GenerationChangesOnlyAtCommit : Prop :=
  ∀ s t : State, step s = .next t →
    (t.generation = s.generation ∧
      ∀ i, { t.active.get i with pinned := (s.active.get i).pinned } = s.active.get i) ∨
    (t.generation = s.generation + 1 ∧ s.commit ≠ none ∧ t.commit = none ∧ t.active = s.pendingBank ∧
      t.pendingBank = s.active) ∨
    (t.isReset ∧ t.generation = 0)

/-! ### Values and records -/

/-- The cost of a piece (R80), and that a READ of 256 bytes costs 17 as one piece, 32 as sixteen and 34 as seventeen. -/
def Obligations.PieceCostIsHeaderPlusBlocks : Prop :=
  (∀ n : Nat, 1 ≤ n → n ≤ 256 → pieceCost n = 1 + (if n % 16 = 0 then n / 16 else n / 16 + 1) ∧ 2 ≤ pieceCost n ∧
    pieceCost n ≤ 17) ∧
  (∀ t : Addr, t.toNat % 256 = 0 →
    ((splitRequest .b256 t 256 .charging).map (fun c => pieceCost c.len)).sum = 17) ∧
  (∀ t : Addr, t.toNat % 16 = 0 →
    ((splitRequest .b16 t 256 .charging).map (fun c => pieceCost c.len)).sum = 32) ∧
  (∀ t : Addr, t.toNat % 16 ≠ 0 →
    ((splitRequest .b16 t 256 .charging).map (fun c => pieceCost c.len)).sum = 34)

/-- The split of a request that ends at or below 2^32 (R58): as many pieces as the rule says, at most 17, numbered from 1 in
address order, each within one burst, each starting where the one before ended, the first at t and their lengths L in sum. -/
def Obligations.SplitCutsAtBurstBoundaries : Prop :=
  ∀ (b : Burst) (t : Addr) (len : Nat) (st : PieceState), 1 ≤ len → len ≤ 256 → t.toNat + len ≤ 2 ^ 32 →
    let ps := splitRequest b t len st
    ps.length = (t.toNat % b.bytes + len + (b.bytes - 1)) / b.bytes ∧ ps.length ≤ 17 ∧
    (ps.map (fun c => c.len)).sum = len ∧
    (ps.head?.map (fun c => c.addr) = some t) ∧
    ∀ (i : Nat) (c : Piece), ps[i]? = some c →
      c.num = i + 1 ∧ c.state = st ∧ 1 ≤ c.len ∧ c.addr.toNat % b.bytes + c.len ≤ b.bytes ∧
      ∀ c', ps[i + 1]? = some c' →
        c'.addr.toNat = c.addr.toNat + c.len ∧ c'.addr.toNat % b.bytes = 0

/-- A refill (R81): the credit becomes the smaller of its limit and C + R (t − last), and last becomes t; it never removes
credit, and two refills in succession leave what one over the whole interval leaves. -/
def Obligations.RefillIsIndependentOfItsMoments : Prop :=
  ∀ (v : Meter) (t1 t2 : Nat), v.credit ≤ 256 * v.depth → v.last ≤ t1 → t1 ≤ t2 →
    v.refill t1 = { v with credit := min (256 * v.depth) (v.credit + v.rate * (t1 - v.last)), last := t1 } ∧
    v.credit ≤ (v.refill t1).credit ∧ (v.refill t1).refill t2 = v.refill t2

/-- Decay (R139): the whole intervals completed are counted, the product is taken from the score down to 0, the last decay
time moves by whole intervals and stays at or below t, and decay does not depend on how often it is made. -/
def Obligations.DecayIsIndependentOfItsMoments : Prop :=
  ∀ (r : ScoreRecord) (t1 t2 : Nat), r.lastDecay ≤ t1 → t1 ≤ t2 →
    (r.interval.value = 0 → r.decay t1 = r) ∧
    (r.interval.value ≠ 0 →
      r.decay t1 = { r with
        score := r.score - (t1 - r.lastDecay) / r.interval.duration * r.decayAmount.toNat,
        lastDecay := r.lastDecay + (t1 - r.lastDecay) / r.interval.duration * r.interval.duration } ∧
      (r.decay t1).lastDecay ≤ t1 ∧ t1 < (r.decay t1).lastDecay + r.interval.duration) ∧
    (r.decay t1).decay t2 = r.decay t2

/-- The entry image (R22, R148, R170): an entry as R22 stores it is read back from its own 19-byte image, its pinned flag being the one
the PENDING entry holds; and any image that is stored gives the written base and offset with their low four bits 0 and the written size,
limited where the range would end beyond 2^32. -/
def Obligations.EntryImageReadsBack : Prop :=
  (∀ (i : Fin 96) (e : Entry), e.Stored →
    (e.image i.1).length = 19 ∧ (e.image i.1).head? = some (BitVec.ofNat 8 i.1) ∧
    entryOfImage (e.image i.1) e.pinned = some e) ∧
  ∀ (image : List Byte) (pinned : Bool) (e : Entry), entryOfImage image pinned = some e →
    let written : Size := BitVec.ofNat 28 (fieldAt image 11 4)
    e.Stored ∧ e.pinned = pinned ∧ e.base.toNat = fieldAt image 7 4 / 16 * 16 ∧ e.offset.toNat = fieldAt image 15 4 / 16 * 16 ∧
    (e.base.toNat + sizeBytes written ≤ 2 ^ 32 → e.size = written) ∧
    (2 ^ 32 < e.base.toNat + sizeBytes written → e.base.toNat + sizeBytes e.size = 2 ^ 32)

/-- The packets the part sends, as their bytes (R168, R169): a piece, a peripheral event, a COMPLETION and a gate event are read back
field by field, and a MANAGE_REPLY is its tag, its status, its length and its result. A COMPLETION under any of the 32 initiator tags is
its kind code, its tag, its status, its payload mark, its length code and its payload; the length code 0 of one without payload is the
model's choice (log entry 18). -/
def Obligations.SentPacketsReadBack : Prop :=
  (∀ (tag : Fin 16) (kind : Kind) (addr : Addr) (lengthCode : Byte) (payload : List Byte),
    decodePacket (OutPacket.request tag kind addr lengthCode payload).bytes =
      some (.request kind (Fin.ofNat 32 tag.1) lengthCode addr payload)) ∧
  (∀ (source code : Byte) (gap : Bool) (payload : List Byte),
    decodePacket (OutPacket.event source code gap payload).bytes =
      some (.event source code gap (BitVec.ofNat 8 payload.length) payload)) ∧
  (∀ (tag : Fin 16) (st : AnswerStatus) (data : List Byte),
    decodePacket (OutPacket.completion (Fin.ofNat 32 tag.1) st data).bytes =
      some (.completion tag st.code (!data.isEmpty) (BitVec.ofNat 8 data.length) data)) ∧
  (∀ (tag : Fin 32) (st : AnswerStatus) (data : List Byte),
    (OutPacket.completion tag st data).bytes =
      [0x24, BitVec.ofNat 8 tag.1,
        (match st with | .ok => 0 | .denied => 1 | .targetError => 2 | .timeout => 3 | .cut => 4 | .linkDown => 5),
        (if data = [] then 0 else 1), BitVec.ofNat 8 data.length] ++ data) ∧
  (∀ (tag : Fin 4) (st : ReplyStatus) (result : List Byte),
    decodePacket (OutPacket.reply tag st result).bytes =
      some (.manageReply ([BitVec.ofNat 8 tag.1, st.code, BitVec.ofNat 8 result.length] ++ result))) ∧
  (∀ kind : NoticeKind,
    decodePacket (OutPacket.notice kind).bytes = some (.event 7 (if kind = .fault then 0xF0 else 0xF1) false 0 []))

/-- Step 1 of R126 with R125, R127 to R129 and R131: where a recorded fault goes, what record it makes, what a full queue does, and
when the reader is told. -/
def Obligations.RecordIsPlacedInItsQueue : Prop :=
  (∀ (e : FaultEvent) (s : State), (s.control e.cls).record = false → recordFault e s = s) ∧
  (∀ (e : FaultEvent) (s : State), (s.control e.cls).record = true →
    (∀ x : Scored, e.dom = some x.domain → (s.masks.get x).get e.cls.index = false) →
    (32 ≤ s.supQ.records.length → recordFault e s = { s with supQ := { s.supQ with overrun := true } }) ∧
    (s.supQ.records.length < 32 →
      recordFault e s =
        let q := { s.supQ with records := s.supQ.records ++ [⟨s.supQ.counter, s.gateTime, e⟩], counter := s.supQ.counter + 1 }
        if s.supQ.records = [] ∧ s.supQ.armed = true ∧ (s.port .P).link = .up then
          handFaultNotice .pay { s with supQ := { q with armed := false } }
        else { s with supQ := q })) ∧
  (∀ (e : FaultEvent) (x : Scored) (s : State), (s.control e.cls).record = true → e.dom = some x.domain →
    (s.masks.get x).get e.cls.index = true → e.cls.delegable = true →
    let reduced := fun (n : Half) =>
      (⟨n, s.gateTime, if e.cls = .noWindow ∨ e.cls = .kind ∨ e.cls = .bounds ∨ e.cls = .custody then 0x10 else e.cls.code,
        e.srcPort, e.tag, e.kind, e.addr, e.len⟩ : ReducedRecord)
    (16 ≤ (s.ownQ.get x).records.length →
      recordFault e s = { s with ownQ := s.ownQ.set x { s.ownQ.get x with overrun := true } }) ∧
    ((s.ownQ.get x).records.length < 16 →
      recordFault e s =
        let q := { s.ownQ.get x with
          records := (s.ownQ.get x).records ++ [reduced (s.ownQ.get x).counter],
          counter := (s.ownQ.get x).counter + 1 }
        if (s.ownQ.get x).records = [] ∧ (s.ownQ.get x).armed = true ∧ (s.port x.domain.port).link = .up then
          handFaultNotice x.domain { s with ownQ := s.ownQ.set x { q with armed := false } }
        else { s with ownQ := s.ownQ.set x q }))

/-- A gate event handed for an UP port is placed once at the end of its outbound queue, and absorbed while one waits; a
CUSTODY_NOTICE for a port that is not UP is held, a FAULT_NOTICE is not (R120, R121). -/
def Obligations.GateEventsHaveOnePlace : Prop :=
  ∀ (d : Domain) (s : State),
    ((s.port d.port).link = .up →
      ((s.init d).faultNotice = .empty →
        handFaultNotice d s = { withOut d.port [.notice .fault] s with
          inits := s.inits.set d { s.init d with faultNotice := .waiting } }) ∧
      ((s.init d).faultNotice = .waiting → handFaultNotice d s = s) ∧
      ((s.init d).custodyNotice = .empty →
        handCustodyNotice d s = { withOut d.port [.notice .custody] s with
          inits := s.inits.set d { s.init d with custodyNotice := .waiting } }) ∧
      ((s.init d).custodyNotice = .waiting → handCustodyNotice d s = s)) ∧
    ((s.port d.port).link ≠ .up →
      handFaultNotice d s = s ∧
      ((s.init d).custodyNotice = .empty →
        handCustodyNotice d s = { s with inits := s.inits.set d { s.init d with custodyNotice := .held } }) ∧
      ((s.init d).custodyNotice = .held → handCustodyNotice d s = s))

/-- Step 2 of R126 and R140: after its record, a fault of APP or RAD whose class is chargeable and weighs something charges the
domain's score; the thresholds are judged, the advisory before the quarantine, each fault with the score as its detail. Any other fault
charges nothing. -/
def Obligations.FaultChargesAndJudges : Prop :=
  (∀ (e : FaultEvent) (s : State),
    (∀ x : Scored, e.dom = some x.domain → e.cls.chargeable = true → (s.control e.cls).weight ≠ 0 →
      raiseFault e s = chargeScore x (s.control e.cls).weight.toNat (recordFault e s)) ∧
    ((e.dom = none ∨ e.dom = some .pay ∨ e.cls.chargeable = false ∨ (s.control e.cls).weight = 0) →
      raiseFault e s = recordFault e s)) ∧
  ∀ (x : Scored) (w : Nat) (s : State),
    let r := (s.scores.get x).decay s.gateTime
    let score := min 65535 (r.score + w)
    let fault := fun (c : FaultClass) =>
      (⟨c, 7, some x.domain, none, none, none, none, none, none, none, none, score⟩ : FaultEvent)
    let advise := r.advisory ≠ 0 ∧ r.advisory.toNat ≤ score ∧ r.armed = true
    let armed := if r.advisory = 0 then r.armed else if score < r.advisory.toNat then true else false
    let s1 : State := { s with scores := s.scores.set x { r with score := score, armed := armed } }
    let s2 := if advise then recordFault (fault .scoreAdvisory) s1 else s1
    (r.quarantine ≠ 0 ∧ r.quarantine.toNat ≤ score ∧ (s.domain x.domain).mode = .normal →
      chargeScore x w s = recordFault (fault .quarantined)
        { s2 with domains := s2.domains.set x.domain { s.domain x.domain with mode := .quarantined } }) ∧
    (¬(r.quarantine ≠ 0 ∧ r.quarantine.toNat ≤ score ∧ (s.domain x.domain).mode = .normal) → chargeScore x w s = s2)

/-! ### Resets and links -/

/-- Power-on, the reset line and GATE_RESET from P leave every part of the gate at its reset value, with the cause recorded; GATE_RESET
has no reply (R14, R167). The values of log entry 4 are the model's. -/
def Obligations.PartResetLeavesResetValues : Prop :=
  (∀ s : State, ∃ t, exec .powerOn s = .next t ∧ t.Fresh .powerOn ∧ t.pending = s.pending ∧ t.wire = s.wire) ∧
  (∀ s : State, ∃ t, exec .resetLine s = .next t ∧ t.Fresh .line ∧ t.pending = s.pending ∧ t.wire = s.wire) ∧
  (∀ (m : MgmtPacket) (s s1 : State), CommandArrives .pay 0x52 m s s1 → m.params = [] →
    ∃ t, exec (.gateReset .P m) s = .next t ∧ t.Fresh .command ∧ t.pending = s.pending ∧ t.wire = s.wire)

/-- The link of a port becomes established (R10, R13, R122, R131): a DOWN port becomes UP; an initiator port then places a held
CUSTODY_NOTICE and, if its fault queue holds records, a FAULT_NOTICE; an UP port is unchanged; a RESETTING port notes it. A drain of a
unit on the port that ended while it was DOWN fails its scrub, and the port becomes UP after that (R99, R103); that the two come in this
order where DRAIN_END has not been taken is the model's choice (log entry 15). -/
def Obligations.EstablishedLinkBringsPortUp : Prop :=
  ∀ (p : Port) (s : State),
    ((s.ports.get p).link = .down → drainedOn p s = [] → exec (.linkEstablished p) s = .next (withUp p s)) ∧
    ((s.ports.get p).link = .down → exec (.linkEstablished p) s = .next (withUp p (withDrainsFailed p s))) ∧
    ((s.ports.get p).link = .up → exec (.linkEstablished p) s = .next s) ∧
    ((s.ports.get p).link = .resetting →
      exec (.linkEstablished p) s = .next { s with ports := s.ports.set p { s.ports.get p with established := true } })

/-- A lost link resets an UP port; PORT_RESET from P resets any port but P that is not RESETTING, holds it for 100 µs and has its
command carried by the port (R10, R11, R12, R13, R76, R110, R166). What the port reset leaves is ResetOf: the requests reached are answered
LINK_DOWN, the notice of an initiator port is re-armed, and the units on the port that scrub fail, and so do at once those that drain and
have no piece left in flight. Of the requests taken on a reset initiator port the unsent pieces are removed everywhere and the SENT ones
awaited, a request without any being released (AbandonedIn), and each meter that lost its head evaluates the new one (HeadsGoOn; R12, R89).
That the LINK_DOWN record stands ahead of their SCRUB_FAILED records, and that meters go on by their index, each answering a head that
ends LINK_DOWN before it charges the next, are the model's orders (log entry 7), and that the event places are emptied before their CUSTODY_NOTICEs (log entry 22), and that a drain which had ended before the reset ends
within it (log entry 15). -/
def Obligations.PortResetEmptiesThePort : Prop :=
  (∀ (p : Port) (s : State),
    ((s.ports.get p).link = .up → ∃ t, exec (.linkLost p) s = .next t ∧ ResetOf p .down none none s t) ∧
    ((s.ports.get p).link = .down → exec (.linkLost p) s = .next s) ∧
    ((s.ports.get p).link = .resetting →
      exec (.linkLost p) s = .next { s with ports := s.ports.set p { s.ports.get p with established := false } })) ∧
  (∀ (q : Port) (m : MgmtPacket) (s s1 : State), CommandArrives .pay 0x51 m s s1 → m.params = [q.byte] →
    (q ≠ .P → (s.ports.get q).link ≠ .resetting →
      ∃ t, exec (.portReset .P m) s = .next t ∧
        ResetOf q .resetting (some (s.gateTime + 100)) none (withCommand .pay m 0x51 (some (.port q)) s1) t ∧
        ⟨m.tag, 0x51, false, some (.port q)⟩ ∈ (t.inits.get .pay).commands) ∧
    (q ≠ .P → (s.ports.get q).link = .resetting → exec (.portReset .P m) s = .next (answered .pay m 0x51 .busy [] s1)) ∧
    (q = .P → exec (.portReset .P m) s = .next (answered .pay m 0x51 .badParameter [] s1)))

/-- The hold of a RESETTING port expires (R10, R166): with its link established the port becomes UP as LINK_ESTABLISHED makes a DOWN
port UP, a drain that ended on it failing its scrub first (R103; that order is log entry 15), else it becomes DOWN; the PORT_RESET that it
carries replies with the port and its state. -/
def Obligations.HoldExpiryEndsReset : Prop :=
  ∀ (p : Port) (e : Nat) (s : State), (s.ports.get p).link = .resetting → (s.ports.get p).hold = some e →
    (e ≤ s.gateTime → (s.ports.get p).established = true →
      exec (.holdExpiry p) s = .next (endCommand (.port p) .ok [p.byte, 1] (withUp p (withDrainsFailed p s)))) ∧
    (e ≤ s.gateTime → (s.ports.get p).established = false →
      exec (.holdExpiry p) s = .next (endCommand (.port p) .ok [p.byte, 0]
        { s with ports := s.ports.set p { s.ports.get p with link := .down, hold := none } })) ∧
    (s.gateTime < e → exec (.holdExpiry p) s = .next s)

/-- Gate time passes to its largest value and holds there (R15). The row's passage is whole only where nothing falls due on the way
(log entry 14). -/
def Obligations.GateTimeHoldsAtLargestValue : Prop :=
  ∀ s : State,
    (quietUntil s (2 ^ 48 - 1) = true → exec .gateTimeLargestValue s = .next { s with gateTime := 2 ^ 48 - 1 }) ∧
    (quietUntil s (2 ^ 48 - 1) = false → exec .gateTimeLargestValue s = .next s)

/-! ### Requests -/

/-- A request that matches no entry, passes the matched entry's range, or has a kind outside its kinds is denied NO_WINDOW, BOUNDS or
KIND in the style of the domain or the entry, and raises one fault (R26 to R29, R32 to R35). The answer comes before the charge (R35); that
it comes before the record and its notice too is the model's order (log entry 7). -/
def Obligations.RequestWithoutAccessIsDenied : Prop :=
  ∀ (d : Domain) (kind : Kind) (tag : Fin 32) (lengthCode : Byte) (addr : Addr) (payload : List Byte) (s s1 : State),
    RequestArrives d kind tag lengthCode addr payload s s1 → (kind = .post → postCount s d < 16) →
    let len := lengthOfCode lengthCode
    let fault := fun (c : FaultClass) (entry : Option Nat) (target : Option Port) (taddr : Option Addr) =>
      (⟨c, d.port.byte, some d, if kind = .post then none else some (BitVec.ofNat 8 tag.1), some (recordKind kind), some addr,
        some len, entry, target, taddr, none, 0⟩ : FaultEvent)
    let style := fun (e : Entry) =>
      match e.style with
      | .refuse => DomainStyle.refuse
      | .mask => DomainStyle.mask
      | .default => (s.domains.get d).style
    ((∀ i : Fin 96, ¬(s.active.get i).Meets d (s.domains.get d).mode addr) →
      exec (.requestTaken d.port kind tag lengthCode addr payload) s =
        .next (raiseFault (fault .noWindow none none none)
          (withDenial (s.domains.get d).style d kind tag len (withTag d kind tag s1)))) ∧
    (∀ i : Fin 96, Matched s d addr i →
      let e := s.active.get i
      let denied := fun c => Host.Outcome.next (raiseFault (fault c (some i.1) (some e.target) (some (e.offset + (addr - e.base))))
        (withDenial (style e) d kind tag len (withTag d kind tag s1)))
      (e.base.toNat + sizeBytes e.size < addr.toNat + len →
        exec (.requestTaken d.port kind tag lengthCode addr payload) s = denied .bounds) ∧
      (addr.toNat + len ≤ e.base.toNat + sizeBytes e.size → e.kinds.has kind = false →
        exec (.requestTaken d.port kind tag lengthCode addr payload) s = denied .kind))

/-- A request that its entry allows, whose unit, if any, admits it, and whose entry names no meter, is recorded, split at the target's
max burst now, counted into its unit and queued piece by piece at the UP target's arbiter (R31, R49, R56, R58, R61). The record number
and the readData's first value are the model's (log entry 5). -/
def Obligations.UnmeteredRequestIsAdmitted : Prop :=
  ∀ (d : Domain) (kind : Kind) (tag : Fin 32) (lengthCode : Byte) (addr : Addr) (payload : List Byte) (i : Fin 96) (s s1 : State),
    RequestArrives d kind tag lengthCode addr payload s s1 → (kind = .post → postCount s d < 16) → Matched s d addr i →
    let e := s.active.get i
    let len := lengthOfCode lengthCode
    let cfg := (s.ports.get e.target).config
    let taddr := e.offset + (addr - e.base)
    let pieces := splitRequest cfg.maxBurst taddr len .queued
    let id := freshRecord s.requests
    let record : Request :=
      { id := id, dom := d, tag := if kind = .post then none else some tag, kind := kind, addr := addr, len := len,
        target := e.target, taddr := taddr, entry := i.1, meter := none, unit := e.unit, payload := payload,
        burst := cfg.maxBurst, deadline := cfg.deadline, pieces := pieces, outstanding := pieces.length, worst := .ok,
        readData := if kind = .read then List.replicate len 0 else [], abandoned := false }
    let s2 := withTag d kind tag s1
    e.Allows kind addr len → e.meter = none → (s.ports.get e.target).link = .up →
    (∀ u, e.unit = some u → (s.units.get u).state.Admits d ∧ (s.units.get u).inFlight + pieces.length ≤ 1632) →
    (∀ r ∈ s.requests, r.id ≠ id) ∧
    exec (.requestTaken d.port kind tag lengthCode addr payload) s = .next
      { s2 with
        requests := s.requests ++ [record]
        units := match e.unit with
          | none => s.units
          | some u => setAt s.units u { s.units.get u with inFlight := (s.units.get u).inFlight + pieces.length }
        ports := s2.ports.set e.target
          { s2.ports.get e.target with
            arbiter := (s2.ports.get e.target).arbiter.modQueue d (fun q => q ++ pieces.map (fun c => ⟨id, c.num⟩)) } }

/-- What else becomes of a request that its entry allows: a unit in a handover parks it, a unit that keeps it out or has no room
denies it CUSTODY in its own style, and one toward a port that is not UP completes LINK_DOWN; a POST beyond the allowance is dropped
(R30, R32, R49, R51, R52, R57, R60). That a denial's answer comes before its record and notice is the model's order (log entry 7). -/
def Obligations.RequestMeetsItsUnitAndPort : Prop :=
  ∀ (d : Domain) (kind : Kind) (tag : Fin 32) (lengthCode : Byte) (addr : Addr) (payload : List Byte) (s s1 : State),
    RequestArrives d kind tag lengthCode addr payload s s1 →
    (kind = .post → 16 ≤ postCount s d →
      exec (.requestTaken d.port kind tag lengthCode addr payload) s = .next (withFlag d .throttled s1)) ∧
    ((kind = .post → postCount s d < 16) → ∀ i : Fin 96, Matched s d addr i →
      let e := s.active.get i
      let len := lengthOfCode lengthCode
      let taddr := e.offset + (addr - e.base)
      let count := (splitRequest (s.ports.get e.target).config.maxBurst taddr len .queued).length
      let s2 := withTag d kind tag s1
      let arrival : Arrival := ⟨d, if kind = .post then none else some tag, kind, addr, len, payload⟩
      e.Allows kind addr len →
      (∀ u, e.unit = some u →
        let v := s.units.get u
        let style := match v.style with
          | .refuse => DomainStyle.refuse
          | .mask => DomainStyle.mask
          | .default => (s.domains.get d).style
        (v.state.Parks d → v.parked.length < 96 →
          exec (.requestTaken d.port kind tag lengthCode addr payload) s = .next
            { s2 with
              units := setAt s.units u
                { v with parked := v.parked ++ [⟨arrival, ⟨i.1, e.base, e.target, e.offset, e.meter, e.unit⟩⟩] } }) ∧
        ((¬v.state.Admits d ∧ ¬v.state.Parks d) ∨ (v.state.Parks d ∧ 96 ≤ v.parked.length) ∨
            (v.state.Admits d ∧ 1632 < v.inFlight + count) →
          exec (.requestTaken d.port kind tag lengthCode addr payload) s = .next
            (raiseFault
              ⟨.custody, d.port.byte, some d, if kind = .post then none else some (BitVec.ofNat 8 tag.1),
                some (recordKind kind), some addr, some len, some i.1, some e.target, some taddr, some u, 0⟩
              (withDenial style d kind tag len s2)))) ∧
      ((∀ u, e.unit = some u → (s.units.get u).state.Admits d ∧ (s.units.get u).inFlight + count ≤ 1632) →
        (s.ports.get e.target).link ≠ .up →
        exec (.requestTaken d.port kind tag lengthCode addr payload) s = .next (withAnswer d kind tag .linkDown [] s2)))

/-- An admitted request whose entry names a meter joins the end of its list, its pieces CHARGING (R59, R82, R83): behind others it
waits; on an empty list it is the head, and the refilled meter charges it at once (R82, R84 to R87); a POST is not placed on a list of 96;
a READ or WRITE takes the place of the POST that joined last. Of that POST, first one that is unbound, not the head, and has been charged
for nothing; then any: its CHARGING pieces are removed and counted out of its unit, those charged go on, it ends if none is left, and where
it was the head the next request is evaluated (R83, R89). The record number and the first value of the read data are the model's (log
entry 5), and so is the order in which Charges answers a head LINK_DOWN before it charges the next (log entry 7). -/
def Obligations.MeteredRequestJoinsItsList : Prop :=
  ∀ (d : Domain) (kind : Kind) (tag : Fin 32) (lengthCode : Byte) (addr : Addr) (payload : List Byte) (i : Fin 96) (n : Fin 16)
    (s s1 : State),
    RequestArrives d kind tag lengthCode addr payload s s1 → (kind = .post → postCount s d < 16) → Matched s d addr i →
    let e := s.active.get i
    let len := lengthOfCode lengthCode
    let cfg := (s.ports.get e.target).config
    let taddr := e.offset + (addr - e.base)
    let pieces := splitRequest cfg.maxBurst taddr len .charging
    let id := freshRecord s.requests
    let record : Request :=
      { id := id, dom := d, tag := if kind = .post then none else some tag, kind := kind, addr := addr, len := len,
        target := e.target, taddr := taddr, entry := i.1, meter := some n, unit := e.unit, payload := payload,
        burst := cfg.maxBurst, deadline := cfg.deadline, pieces := pieces, outstanding := pieces.length, worst := .ok,
        readData := if kind = .read then List.replicate len 0 else [], abandoned := false }
    let s2 := withTag d kind tag s1
    let v := s.meters.get n
    e.Allows kind addr len → e.meter = some n → (s.ports.get e.target).link = .up →
    (∀ u, e.unit = some u → (s.units.get u).state.Admits d ∧ (s.units.get u).inFlight + pieces.length ≤ 1632) →
    (v.waiting ≠ [] → v.waiting.length < 96 →
      exec (.requestTaken d.port kind tag lengthCode addr payload) s = .next
        { s2 with
          requests := s.requests ++ [record]
          units := match e.unit with
            | none => s.units
            | some u => setAt s.units u { s.units.get u with inFlight := (s.units.get u).inFlight + pieces.length }
          meters := setAt s.meters n { v with waiting := v.waiting ++ [id] } }) ∧
    (v.waiting = [] →
      ∃ t, exec (.requestTaken d.port kind tag lengthCode addr payload) s = .next t ∧
        Charges n
          (withRefill n [id]
            { s2 with
              requests := s.requests ++ [record]
              units := match e.unit with
                | none => s.units
                | some u => setAt s.units u { s.units.get u with inFlight := (s.units.get u).inFlight + pieces.length } }) t) ∧
    (kind = .post → 96 ≤ v.waiting.length →
      exec (.requestTaken d.port kind tag lengthCode addr payload) s = .next (withFlag d .throttled s1)) ∧
    (∀ (q : Request) (before after : List Nat), kind ≠ .post → 96 ≤ v.waiting.length → s.CountLaw → e.unit = none →
      v.waiting = before ++ q.id :: after → before ≠ [] → v.waiting.Nodup →
      q ∈ s.requests → q.kind = .post → q.tag = none → q.meter = some n → q.unit = none →
      (∀ c ∈ q.pieces, c.state = .charging) → (∀ r ∈ s.requests, r.id ∈ after → r.kind ≠ .post) →
      exec (.requestTaken d.port kind tag lengthCode addr payload) s = .next
        { s2 with
          requests := s.requests.filter (fun r => decide (r.id ≠ q.id)) ++ [record]
          flags := s.flags.set q.dom { s.flags.get q.dom with throttled := true }
          meters := setAt s.meters n { v with waiting := before ++ after ++ [id] } }) ∧
    (∀ (q : Request) (before after : List Nat), kind ≠ .post → 96 ≤ v.waiting.length → s.CountLaw → s.WaitingLaw →
      v.waiting = before ++ q.id :: after → q ∈ s.requests → q.kind = .post → q.tag = none →
      (∀ r ∈ s.requests, r.id ∈ after → r.kind ≠ .post) →
      let gone := (q.pieces.filter (fun c => decide (c.state = .charging))).length
      let rest : Request :=
        { q with
          outstanding := q.outstanding - gone
          pieces := q.pieces.map (fun c =>
            if c.state = .charging then { c with state := .removed, ttag := none, deadline := none } else c) }
      let counted := match e.unit with
        | none => s.units
        | some u => setAt s.units u { s.units.get u with inFlight := (s.units.get u).inFlight + pieces.length }
      let taken : State :=
        { s2 with
          requests :=
            (if q.outstanding = gone then s.requests.filter (fun r => decide (r.id ≠ q.id))
              else s.requests.map (fun r => if r.id = q.id then rest else r)) ++ [record]
          units := match q.unit with
            | none => counted
            | some u => setAt counted u { counted.get u with inFlight := (counted.get u).inFlight - gone }
          flags := s.flags.set q.dom { s.flags.get q.dom with throttled := true }
          meters := setAt s.meters n
            { v with waiting := before ++ after ++ [id], release := if before = [] then none else v.release } }
      ∃ t, exec (.requestTaken d.port kind tag lengthCode addr payload) s = .next t ∧
        (before ≠ [] → t = taken) ∧ (before = [] → Charges n (withRefill n (after ++ [id]) taken) t))

/-! ### Meters -/

/-- At its release time a meter is refilled and charges its head (R80, R81, R84 to R88): here a head with one CHARGING piece toward an
UP port. It is paid for where the credit holds its cost, admitted for the whole credit where the cost is above the depth and the credit
at its limit, and else waits with a new release time, THROTTLED set and nothing behind it charged. The last clause is the general one:
heads of several pieces, the requests behind them that are charged at the same instant, and targets that are not UP, toward which no
piece of a waiting request has gone (R77, R84 to R87). That it answers a head LINK_DOWN before it charges
the next is the model's order (log entry 7). -/
def Obligations.ReleaseTimeChargesTheHead : Prop :=
  ∀ (n : Fin 16) (e : Nat) (s : State), (s.meters.get n).release = some e →
    (s.gateTime < e → exec (.releaseTime n) s = .next s) ∧
    (e ≤ s.gateTime → (s.meters.get n).waiting = [] →
      exec (.releaseTime n) s = .next { s with meters := setAt s.meters n { s.meters.get n with release := none } }) ∧
    (∀ (r : Request) (c : Piece) (rest : List Nat), e ≤ s.gateTime → (s.meters.get n).waiting = r.id :: rest →
      r ∈ s.requests → (∀ q ∈ s.requests, q.id = r.id → q = r) → r.pieces = [c] → c.state = .charging →
      (s.ports.get r.target).link = .up →
      let v := s.meters.get n
      let credit := min (256 * v.depth) (v.credit + v.rate * (s.gateTime - v.last))
      let cost := 1 + (c.len + 15) / 16
      let admitted := fun (left : Nat) (s2 : State) =>
        { s2 with
          meters := setAt s.meters n { v with credit := left, last := s.gateTime, waiting := [], release := none }
          requests := s.requests.map (fun q => if q.id = r.id then { r with pieces := [{ c with state := .queued }] } else q)
          ports := s.ports.set r.target
            { s.ports.get r.target with
              arbiter := (s.ports.get r.target).arbiter.modQueue r.dom (fun q => q ++ [⟨r.id, c.num⟩]) } }
      let waits := fun (shortfall : Nat) =>
        { withFlag r.dom .throttled s with
          meters := setAt s.meters n
            { v with
              credit := credit, last := s.gateTime
              release := if v.rate = 0 then none else some (s.gateTime + (shortfall + v.rate - 1) / v.rate) } }
      (rest = [] → cost ≤ v.depth → 256 * cost ≤ credit →
        exec (.releaseTime n) s = .next (admitted (credit - 256 * cost) s)) ∧
      (rest = [] → v.depth < cost → credit = 256 * v.depth →
        exec (.releaseTime n) s = .next (admitted 0 (withFlag r.dom .clamped s))) ∧
      (cost ≤ v.depth → credit < 256 * cost → exec (.releaseTime n) s = .next (waits (256 * cost - credit))) ∧
      (v.depth < cost → credit < 256 * v.depth → exec (.releaseTime n) s = .next (waits (256 * v.depth - credit)))) ∧
    (e ≤ s.gateTime → (s.meters.get n).waiting ≠ [] → (s.meters.get n).waiting.Nodup → s.CountLaw →
      (∀ id ∈ (s.meters.get n).waiting, ∃ r ∈ s.requests, r.id = id ∧ r.meter = some n ∧
        ((s.ports.get r.target).link ≠ .up →
          (∀ y ∈ r.pieces, y.state.live = true → y.state = .charging) ∧
          (r.abandoned = false → (s.ports.get r.dom.port).link = .up))) →
      ∃ t, exec (.releaseTime n) s = .next t ∧ Charges n (withRefill n (s.meters.get n).waiting s) t)

/-! ### Grants and packets that leave -/

/-- A grant of an UP port with a FREE tag (R58, R62, R63, R103): the lowest FREE tag goes to the scrub step at the head of the scrub
queue, else to PAY's head, else to APP's or RAD's, the turn deciding where both wait and passing to the other after it; the packet
goes out under the tag, and the deadline starts. With no FREE tag, or nothing waiting, or a port that is not UP, nothing happens. -/
def Obligations.ArbiterGrantsInOrder : Prop :=
  (∀ (p : Port) (t : Fin 16) (s : State), (s.ports.get p).link = .up → (s.ports.get p).tags.get t = .free →
    (∀ j : Fin 16, j < t → (s.ports.get p).tags.get j ≠ .free) →
    let v := s.ports.get p
    let x := v.arbiter
    (∀ (u : Fin 8) (us : List (Fin 8)) (st : ScrubStep), x.scrub = u :: us → 0 < (s.units.get u).hand.scrubPos →
      (s.units.get u).script[(s.units.get u).hand.scrubPos - 1]? = some st →
      exec (.arbiterGrant p) s = .next
        { s with
          ports := s.ports.set p
            { v with
              arbiter := { x with scrub := us }
              tags := setAt v.tags t (.live (.scrub u false
                (if v.config.deadline.value = 0 then none else some (s.gateTime + v.config.deadline.duration))))
              outbound := v.outbound ++ [.request t .write st.addr (BitVec.ofNat 8 st.data.length) st.data] } }) ∧
    (∀ (r : Request) (c : Piece) (d : Domain) (x' : Arbiter), x.scrub = [] → r ∈ s.requests →
      (∀ q ∈ s.requests, q.id = r.id → q = r) → r.pieces.find? (fun y => y.num == c.num) = some c → c.state = .queued →
      ((d = .pay ∧ ∃ rest, x.pay = ⟨r.id, c.num⟩ :: rest ∧ x' = { x with pay := rest }) ∨
        (d = .app ∧ x.pay = [] ∧ (x.rad = [] ∨ x.turn = .app) ∧
          ∃ rest, x.app = ⟨r.id, c.num⟩ :: rest ∧ x' = { x with app := rest, turn := if x.turn = .app then .rad else .app }) ∨
        (d = .rad ∧ x.pay = [] ∧ (x.app = [] ∨ x.turn = .rad) ∧
          ∃ rest, x.rad = ⟨r.id, c.num⟩ :: rest ∧ x' = { x with rad := rest, turn := if x.turn = .app then .rad else .app })) →
      let deadline := if r.kind = .post ∨ r.deadline.value = 0 then none else some (s.gateTime + r.deadline.duration)
      exec (.arbiterGrant p) s = .next
        { s with
          ports := s.ports.set p
            { v with
              arbiter := x'
              tags := setAt v.tags t (.live (.piece ⟨r.id, c.num⟩))
              outbound := v.outbound ++ [.request t r.kind c.addr (BitVec.ofNat 8 c.len)
                (if r.kind = .read then [] else (r.payload.drop (c.addr - r.taddr).toNat).take c.len)] }
          requests := s.requests.map (fun q => if q.id = r.id then
            { r with pieces := r.pieces.map (fun y =>
                if y.num = c.num then { y with state := .granted, ttag := some t, deadline := deadline } else y) }
            else q) })) ∧
  (∀ (p : Port) (s : State),
    ((s.ports.get p).link ≠ .up ∨ (∀ j : Fin 16, (s.ports.get p).tags.get j ≠ .free) ∨
      ((s.ports.get p).arbiter.scrub = [] ∧ (s.ports.get p).arbiter.pay = [] ∧ (s.ports.get p).arbiter.app = [] ∧
        (s.ports.get p).arbiter.rad = [])) →
    exec (.arbiterGrant p) s = .next s)

/-- A piece or scrub step leaves its UP port (R63, R67): a READ or WRITE piece is SENT; a POST piece resolves OK and frees its tag, and
the POST ends with its last piece; a scrub step is marked as gone. -/
def Obligations.PieceLeavesTheLink : Prop :=
  ∀ (p : Port) (t : Fin 16) (kind : Kind) (addr : Addr) (code : Byte) (data : List Byte) (rest : List OutPacket) (s : State),
    (s.ports.get p).link = .up → (s.ports.get p).outbound = .request t kind addr code data :: rest →
    let v := s.ports.get p
    let freed := s.ports.set p { v with outbound := rest, tags := setAt v.tags t .free }
    (∀ (r : Request) (c : Piece), v.tags.get t = .live (.piece ⟨r.id, c.num⟩) → r ∈ s.requests →
      (∀ q ∈ s.requests, q.id = r.id → q = r) → c ∈ r.pieces → (∀ y ∈ r.pieces, y.num = c.num → y = c) → c.state = .granted →
      (r.kind ≠ .post →
        exec (.pieceLeaves p) s = .next
          { s with
            ports := s.ports.set p { v with outbound := rest }
            requests := s.requests.map (fun q => if q.id = r.id then
              { r with pieces := r.pieces.map (fun y => if y.num = c.num then { c with state := .sent } else y) } else q) }) ∧
      (r.kind = .post → r.tag = none →
        let units := match r.unit with
          | none => s.units
          | some u => setAt s.units u { s.units.get u with inFlight := (s.units.get u).inFlight - 1 }
        (r.outstanding = 1 →
          exec (.pieceLeaves p) s = .next
            { s with ports := freed, units := units, requests := s.requests.filter (fun q => decide (q.id ≠ r.id)) }) ∧
        (1 < r.outstanding →
          exec (.pieceLeaves p) s = .next
            { s with
              ports := freed
              units := units
              requests := s.requests.map (fun q => if q.id = r.id then
                { r with
                  outstanding := r.outstanding - 1
                  pieces := r.pieces.map (fun y =>
                    if y.num = c.num then { c with state := .resolved .ok, ttag := none, deadline := none } else y) }
                else q) }))) ∧
    (∀ (u : Fin 8) (sent : Bool) (e : Option Nat), v.tags.get t = .live (.scrub u sent e) →
      exec (.pieceLeaves p) s = .next
        { s with
          ports := s.ports.set p { v with outbound := rest, tags := setAt v.tags t (.live (.scrub u true e)) } })

/-- The other packets leave an UP initiator port at the head of its outbound queue: a COMPLETION frees its tag (R4), a MANAGE_REPLY its
management tag (R5, R158), a peripheral event counts one down (R118), a gate event empties its place (R120, R121). -/
def Obligations.PacketsLeaveInOrder : Prop :=
  ∀ (d : Domain) (rest : List OutPacket) (s : State), (s.ports.get d.port).link = .up →
    let left := fun (v : InitState) =>
      { s with ports := s.ports.set d.port { s.ports.get d.port with outbound := rest }, inits := s.inits.set d v }
    let v := s.inits.get d
    (∀ (t : Fin 32) (st : AnswerStatus) (data : List Byte), (s.ports.get d.port).outbound = .completion t st data :: rest →
      exec (.completionLeaves d.port) s = .next (left { v with tags := v.tags.filter (fun x => decide (x ≠ t)) })) ∧
    (∀ (t : Fin 4) (st : ReplyStatus) (result : List Byte), (s.ports.get d.port).outbound = .reply t st result :: rest →
      exec (.replyLeaves d.port) s =
        .next (left { v with commands := v.commands.filter (fun c => decide (c.discard = true ∨ c.tag ≠ t)) })) ∧
    (∀ (src code : Byte) (gap : Bool) (data : List Byte), (s.ports.get d.port).outbound = .event src code gap data :: rest →
      exec (.eventLeaves d.port) s = .next (left { v with eventCount := v.eventCount - 1 })) ∧
    ((s.ports.get d.port).outbound = .notice .fault :: rest →
      exec (.noticeLeaves d.port) s = .next (left { v with faultNotice := .empty })) ∧
    ((s.ports.get d.port).outbound = .notice .custody :: rest →
      exec (.noticeLeaves d.port) s = .next (left { v with custodyNotice := .empty }))

/-! ### Pieces that end -/

/-- A COMPLETION with its payload as its header says (R64 to R66, R68 to R71, R78): it frees an ORPHANED tag and nothing else; it
resolves the SENT piece that holds its tag OK, places the bytes of a READ, and answers the request with its last piece; a status that
is not OK, or a READ of another length, resolves TARGET_ERROR, raises its fault, and leaves nothing of the request unsent: PieceFails says
what becomes of the request with pieces outstanding, of its unit's count, and of its meter (R50, R69, R70, R89). That the
answer is placed before the fault is raised, and that a meter that goes on answers a head LINK_DOWN before it charges the next, are the
model's orders (log entry 7), and that the length code of a COMPLETION without payload is
disregarded its choice (log entry 18). -/
def Obligations.CompletionResolvesAPiece : Prop :=
  ∀ (p : Port) (t : Fin 16) (status : Byte) (present : Bool) (code : Byte) (data : List Byte) (s s1 : State),
    Arrives p (.completion t status present code data) s s1 →
    data.length = (if present then lengthOfCode code else 0) →
    let v := s1.ports.get p
    let freed := s1.ports.set p { v with tags := setAt v.tags t .free }
    (v.tags.get t = .orphaned →
      exec (.completionTaken p t status present code data) s = .next { s1 with ports := freed }) ∧
    (∀ (r : Request) (c : Piece), v.tags.get t = .live (.piece ⟨r.id, c.num⟩) → r ∈ s.requests →
      (∀ q ∈ s.requests, q.id = r.id → q = r) → c ∈ r.pieces → (∀ y ∈ r.pieces, y.num = c.num → y = c) → c.state = .sent →
      (r.abandoned = false → (s.ports.get r.dom.port).link = .up) →
      let units := match r.unit with
        | none => s.units
        | some u => setAt s.units u { s.units.get u with inFlight := (s.units.get u).inFlight - 1 }
      let ok := status = 0 ∧ (r.kind = .read → data.length = c.len)
      let off := (c.addr - r.taddr).toNat
      let got := if r.kind = .read then r.readData.take off ++ data ++ r.readData.drop (off + data.length) else r.readData
      let fault : FaultEvent :=
        ⟨.targetError, r.dom.port.byte, some r.dom, if r.abandoned then none else r.tag.map (fun x => BitVec.ofNat 8 x.1),
          some (recordKind r.kind), some r.addr, some r.len, some r.entry, some r.target, some c.addr, r.unit, c.num⟩
      let ended := { s1 with ports := freed, units := units, requests := s.requests.filter (fun q => decide (q.id ≠ r.id)) }
      (ok → r.outstanding = 1 →
        exec (.completionTaken p t status present code data) s = .next (withRequestAnswer r r.worst got ended)) ∧
      (ok → 1 < r.outstanding →
        exec (.completionTaken p t status present code data) s = .next
          { s1 with
            ports := freed
            units := units
            requests := s.requests.map (fun q => if q.id = r.id then
              { r with
                outstanding := r.outstanding - 1, readData := got
                pieces := r.pieces.map (fun y =>
                  if y.num = c.num then { c with state := .resolved .ok, ttag := none, deadline := none } else y) }
              else q) }) ∧
      (¬ok → s.CountLaw → r.outstanding = 1 → (∀ n : Fin 16, r.id ∉ (s.meters.get n).waiting) →
        exec (.completionTaken p t status present code data) s = .next
          (raiseFault fault (withRequestAnswer r (r.worst.merge .targetError) [] ended))) ∧
      (¬ok → s.CountLaw →
        ∃ t', exec (.completionTaken p t status present code data) s = .next t' ∧ (t'.ports.get p).tags.get t = .free ∧
          ∀ q ∈ t'.requests, q.id = r.id →
            1 ≤ q.worst.rank ∧ (∀ y ∈ q.pieces, y.state ≠ .charging ∧ y.state ≠ .queued ∧ y.state ≠ .granted)) ∧
      (¬ok → s.CountLaw → s.WaitingLaw → r.target = p →
        ∃ x, PieceFails r c .targetError { s1 with ports := freed } x ∧
          exec (.completionTaken p t status present code data) s = .next (raiseFault fault x)))

/-- The deadline of a piece under a target tag (R73 to R75, R78): the only piece of its request outstanding resolves TIMEOUT, the tag
of a SENT piece is orphaned and that of a GRANTED one freed with its packet, the request is answered, the TIMEOUT flag set and the fault
raised; a sixteenth ORPHANED tag then resets the port. The last clause is the general one: with other pieces outstanding the unsent ones
are removed, the request is kept unanswered with its status merged while SENT ones are left, and the meter that lost its head goes on
(PieceFails; R69, R70, R89). The order answer, flag, fault is the model's (log entry 7), and so are the
orphan limit after them (log entry 21) and the orders within the port reset, that of the meters by their index among them (log entries 7,
15 and 22); a meter that goes on answers a head LINK_DOWN before it charges the next (log entry 7). -/
def Obligations.CompletionDeadlineTimesOut : Prop :=
  ∀ (p : Port) (t : Fin 16) (e : Nat) (r : Request) (c : Piece) (s : State),
    (s.ports.get p).tags.get t = .live (.piece ⟨r.id, c.num⟩) → s.CountLaw → r ∈ s.requests → c ∈ r.pieces →
    r.target = p → c.ttag = some t → c.deadline = some e → (c.state = .granted ∨ c.state = .sent) →
    (s.gateTime < e → exec (.completionDeadline p t) s = .next s) ∧
    (e ≤ s.gateTime → r.outstanding = 1 → (∀ n : Fin 16, r.id ∉ (s.meters.get n).waiting) →
      (r.abandoned = false → (s.ports.get r.dom.port).link = .up) →
      let v := s.ports.get p
      let fault : FaultEvent :=
        ⟨.timeout, r.dom.port.byte, some r.dom, if r.abandoned then none else r.tag.map (fun x => BitVec.ofNat 8 x.1),
          some (recordKind r.kind), some r.addr, some r.len, some r.entry, some r.target, some c.addr, r.unit, c.num⟩
      let ended := fun (v' : PortState) =>
        raiseFault fault (withFlag r.dom .timeout (withRequestAnswer r (r.worst.merge .timeout) []
          { s with
            ports := s.ports.set p v'
            units := match r.unit with
              | none => s.units
              | some u => setAt s.units u { s.units.get u with inFlight := (s.units.get u).inFlight - 1 }
            requests := s.requests.filter (fun q => decide (q.id ≠ r.id)) }))
      (c.state = .granted →
        exec (.completionDeadline p t) s =
          .next (ended { v with tags := setAt v.tags t .free, outbound := dropOut t v.outbound })) ∧
      (c.state = .sent → (∃ j : Fin 16, j ≠ t ∧ v.tags.get j ≠ .orphaned) →
        exec (.completionDeadline p t) s = .next (ended { v with tags := setAt v.tags t .orphaned })) ∧
      (c.state = .sent → (∀ j : Fin 16, j ≠ t → v.tags.get j = .orphaned) →
        ∃ t', exec (.completionDeadline p t) s = .next t' ∧
          ResetOf p .resetting (some (s.gateTime + 100)) none
            (raiseFault ⟨.orphanLimit, p.byte, none, none, none, none, none, none, none, none, none, 0⟩
              (ended { v with tags := setAt v.tags t .orphaned })) t')) ∧
    (e ≤ s.gateTime → s.WaitingLaw →
      let v := s.ports.get p
      let left : PortState :=
        if c.state = .sent then { v with tags := setAt v.tags t .orphaned }
        else { v with tags := setAt v.tags t .free, outbound := dropOut t v.outbound }
      ∃ x t', PieceFails r c .timeout { s with ports := s.ports.set p left } x ∧ exec (.completionDeadline p t) s = .next t' ∧
        let timedOut := raiseFault
          ⟨.timeout, r.dom.port.byte, some r.dom, if r.abandoned then none else r.tag.map (fun x => BitVec.ofNat 8 x.1),
            some (recordKind r.kind), some r.addr, some r.len, some r.entry, some r.target, some c.addr, r.unit, c.num⟩
          (withFlag r.dom .timeout x)
        ((∃ j, (timedOut.ports.get p).tags.get j ≠ .orphaned) → t' = timedOut) ∧
        ((∀ j, (timedOut.ports.get p).tags.get j = .orphaned) →
          ResetOf p .resetting (some (s.gateTime + 100)) none
            (raiseFault ⟨.orphanLimit, p.byte, none, none, none, none, none, none, none, none, none, 0⟩ timedOut) t'))

/-! ### Scrub steps and handovers -/

/-- A COMPLETION of the scrub step that has left (R67, R104, R105): OK places the next step, or after the last starts the settle delay,
an empty one ending at once; any other status fails the scrub (ScrubFailureEndsTheHandover says how). That the length code of a COMPLETION
without payload is disregarded is the model's choice (log entry 18). -/
def Obligations.ScrubStepCompletionMovesOn : Prop :=
  ∀ (p : Port) (t : Fin 16) (status : Byte) (present : Bool) (code : Byte) (data : List Byte) (u : Fin 8) (e : Option Nat)
    (g : Holding) (s s1 : State),
    Arrives p (.completion t status present code data) s s1 →
    data.length = (if present then lengthOfCode code else 0) →
    (s.ports.get p).tags.get t = .live (.scrub u true e) → (s.units.get u).state = .scrubbing g →
    (s.units.get u).port = some p →
    let v := s.units.get u
    let x := s1.ports.get p
    let s2 : State := { s1 with ports := s1.ports.set p { x with tags := setAt x.tags t .free } }
    (status = 0 → v.hand.scrubPos < v.script.length →
      exec (.completionTaken p t status present code data) s = .next
        { s1 with
          units := setAt s.units u { v with hand := { v.hand with scrubPos := v.hand.scrubPos + 1 } }
          ports := s1.ports.set p
            { x with tags := setAt x.tags t .free, arbiter := { x.arbiter with scrub := x.arbiter.scrub ++ [u] } } }) ∧
    (status = 0 → v.script.length ≤ v.hand.scrubPos → v.settle.value ≠ 0 →
      exec (.completionTaken p t status present code data) s = .next
        { s2 with
          units := setAt s.units u
            { v with hand := { v.hand with scrubPos := 0, settleTimer := some (s.gateTime + v.settle.duration) } } }) ∧
    (status = 0 → v.script.length ≤ v.hand.scrubPos → v.settle.value = 0 →
      ∃ t', exec (.settleExpiry u)
          { s2 with
            units := setAt s.units u { v with hand := { v.hand with scrubPos := 0, settleTimer := some s.gateTime } } } = .next t' ∧
        exec (.completionTaken p t status present code data) s = .next t') ∧
    (status ≠ 0 → exec (.completionTaken p t status present code data) s = .next (scrubFail u s2))

/-- A failed scrub, whole (R53, R94, R106, R108, R109): FAILED with the settle timer stopped, the SCRUB_FAILED fault with the step's
number and address, the parked requests decided again in their order (SettleExpiryGrants says what becomes of each), a CUSTODY_NOTICE for
each domain the starting state admitted, the working part cleared, and the command answered FAILED with the cut count and the scrub
position. Since FAILED admits no one, each of them is denied CUSTODY, the oldest first, in the unit's style or its domain's; none stays
parked. That each denial's answer comes before its record and notice is the model's order (log entry 7). -/
def Obligations.ScrubFailureEndsTheHandover : Prop :=
  ∀ (u : Fin 8) (p : Port) (s : State), (s.units.get u).port = some p →
    let v := s.units.get u
    let failed : CustodyUnit := { v with state := .failed, hand := { v.hand with settleTimer := none } }
    let faulted := raiseFault
      ⟨.scrubFailed, p.byte, none, none, none, none, none, none, none,
        (if v.hand.scrubPos = 0 then none else v.script[v.hand.scrubPos - 1]?.map (fun st => st.addr)), some u, v.hand.scrubPos⟩
      { s with units := setAt s.units u failed }
    let told := fun (d : Domain) (x : State) =>
      if v.hand.starting = .opened ∨ v.hand.starting = .held d then handCustodyNotice d x else x
    let result : List Byte :=
      [BitVec.ofNat 8 u.1, 0x34, BitVec.ofNat 8 v.hand.cutCount, BitVec.ofNat 8 (v.hand.cutCount / 256),
        BitVec.ofNat 8 v.hand.scrubPos]
    let ends := fun (x : State) =>
      let s2 := told .rad (told .pay (told .app x))
      endCommand (.custody u) .failed result
        { s2 with units := setAt s2.units u { s2.units.get u with pendingTake := none, hand := Handover.idle } }
    let style := fun (d : Domain) => match v.style with
      | .refuse => DomainStyle.refuse
      | .mask => DomainStyle.mask
      | .default => (s.domains.get d).style
    scrubFail u s = ends (redecideParked u faulted) ∧
    redecideParked u faulted =
      v.parked.foldl (fun x k => withCustodyDenial (style k.req.dom) k.req k.entry u x)
        { faulted with units := setAt faulted.units u { failed with parked := [] } } ∧
    (v.parked = [] →
      let s2 := told .rad (told .pay (told .app faulted))
      scrubFail u s = endCommand (.custody u) .failed result
        { s2 with
          units := setAt s.units u { v with state := .failed, pendingTake := none, hand := Handover.idle } }) ∧
    ((scrubFail u s).units.get u).state = .failed ∧ ((scrubFail u s).units.get u).parked = [] ∧
    ((scrubFail u s).units.get u).pendingTake = none ∧ ((scrubFail u s).units.get u).hand = Handover.idle

/-- The deadline of a unit's scrub step (R67, R75, R104): a step that has left orphans its tag, one that has not is taken back and frees
it, and the scrub fails; a sixteenth ORPHANED tag then resets the port, here with no request parked at the unit. That in this reset the
LINK_DOWN record stands ahead of the SCRUB_FAILED of another unit on the port, and that meters go on by their index, each answering
a head that ends LINK_DOWN before it charges the next, are the model's orders (log entry 7), and that the event places are emptied before its CUSTODY_NOTICE (log entry 22), and that another unit's drain which had ended ends
within the reset (log entry 15). -/
def Obligations.ScrubStepDeadlineFailsTheScrub : Prop :=
  ∀ (u : Fin 8) (p : Port) (t : Fin 16) (sent : Bool) (e : Nat) (g : Holding) (s : State),
    (s.units.get u).port = some p → (s.units.get u).state = .scrubbing g →
    (s.ports.get p).tags.get t = .live (.scrub u sent (some e)) →
    (∀ j : Fin 16, j < t → ∀ b x, (s.ports.get p).tags.get j ≠ .live (.scrub u b x)) →
    let v := s.ports.get p
    (s.gateTime < e → exec (.scrubStepDeadline u) s = .next s) ∧
    (e ≤ s.gateTime → sent = false →
      exec (.scrubStepDeadline u) s = .next (scrubFail u
        { s with ports := s.ports.set p { v with tags := setAt v.tags t .free, outbound := dropOut t v.outbound } })) ∧
    (e ≤ s.gateTime → sent = true →
      let s2 := scrubFail u { s with ports := s.ports.set p { v with tags := setAt v.tags t .orphaned } }
      ((∃ j : Fin 16, j ≠ t ∧ v.tags.get j ≠ .orphaned) → exec (.scrubStepDeadline u) s = .next s2) ∧
      ((s.units.get u).parked = [] → (∀ j : Fin 16, j ≠ t → v.tags.get j = .orphaned) →
        ∃ t', exec (.scrubStepDeadline u) s = .next t' ∧
          ResetOf p .resetting (some (s.gateTime + 100)) none
            (raiseFault ⟨.orphanLimit, p.byte, none, none, none, none, none, none, none, none, none, 0⟩ s2) t'))

/-- The end of a drain (R99, R103, R105): the unit is SCRUBBING with its timer stopped; at a port that is not UP the scrub fails, an
empty script goes on to the settle delay, else step 1 waits in the scrub queue. A unit that is not DRAINING, or has pieces in flight,
is unchanged. -/
def Obligations.DrainEndBeginsTheScrub : Prop :=
  (∀ (u : Fin 8) (g : Holding) (p : Port) (s : State),
    (s.units.get u).state = .draining g → (s.units.get u).inFlight = 0 → (s.units.get u).port = some p →
    let v := s.units.get u
    let scrubs := fun (h : Handover) =>
      { s with units := setAt s.units u { v with state := .scrubbing g, hand := { h with drainTimer := none } } }
    let begun := { v.hand with scrubPos := 0 }
    ((s.ports.get p).link ≠ .up → exec (.drainEnd u) s = .next (scrubFail u (scrubs begun))) ∧
    ((s.ports.get p).link = .up → v.script = [] → v.settle.value ≠ 0 →
      exec (.drainEnd u) s = .next (scrubs { begun with settleTimer := some (s.gateTime + v.settle.duration) })) ∧
    ((s.ports.get p).link = .up → v.script = [] → v.settle.value = 0 →
      ∃ t, exec (.settleExpiry u) (scrubs { begun with settleTimer := some s.gateTime }) = .next t ∧
        exec (.drainEnd u) s = .next t) ∧
    ((s.ports.get p).link = .up → v.script ≠ [] →
      exec (.drainEnd u) s = .next
        { scrubs { v.hand with scrubPos := 1 } with
          ports := s.ports.set p
            { s.ports.get p with
              arbiter := { (s.ports.get p).arbiter with scrub := (s.ports.get p).arbiter.scrub ++ [u] } } })) ∧
  (∀ (u : Fin 8) (s : State), ((∀ g, (s.units.get u).state ≠ .draining g) ∨ (s.units.get u).inFlight ≠ 0) →
    exec (.drainEnd u) s = .next s)

/-- The drain deadline of a unit with pieces in flight (R89, R100, R101): every request of the unit with a piece in flight is reached; a
SENT piece leaves its tag ORPHANED, a GRANTED one leaves the outbound queue and its tag FREE, a QUEUED one its queue, a CHARGING one the
list; each request is released and, unless abandoned, answered CUT; each domain's CUT flag is set, one CUT record is made with the number
of requests reached as its detail, the meters whose heads were cut go on, and the drain ends as DRAIN_END ends it. Before the drain ends, a
port left with all its tags ORPHANED has its ORPHAN_LIMIT record made and is reset (R75, R101); where that is the unit's own port, the
scrub fails at once. The orders answer, flag, fault, of meters and of ports by their index, and of a head answered LINK_DOWN before the
next is charged, are the model's (log entry 7), and so are those within the port reset (log entries 7, 15 and 22). The first clause gives the whole state where one request with one piece, SENT, is in
flight, and it and the last are of ports each with a FREE tag that no piece names, so that none is reset. -/
def Obligations.DrainDeadlineCutsThePieces : Prop :=
  ∀ (u : Fin 8) (g : Holding) (e : Nat) (q : Port) (s : State),
    (s.units.get u).state = .draining g → (s.units.get u).inFlight ≠ 0 → (s.units.get u).hand.drainTimer = some e →
    (s.units.get u).port = some q →
    (s.gateTime < e → exec (.drainDeadline u) s = .next s) ∧
    (e ≤ s.gateTime → s.CountLaw →
      let v := s.units.get u
      let roomy := ∀ p : Port, ∃ j, (s.ports.get p).tags.get j = .free ∧
        ∀ r ∈ s.requests, r.target = p → ∀ c ∈ r.pieces, c.ttag ≠ some j
      (∀ (r : Request) (c : Piece) (t : Fin 16),
        s.requests.filter (fun x => decide (x.unit = some u) && x.pieces.any (fun y => y.state.live)) = [r] →
        r.pieces = [c] → c.state = .sent → c.ttag = some t → (∀ n : Fin 16, r.id ∉ (s.meters.get n).waiting) →
        (r.abandoned = false → (s.ports.get r.dom.port).link = .up) → roomy →
        let x := s.ports.get r.target
        let cut := raiseFault ⟨.cut, q.byte, none, none, none, none, none, none, none, none, some u, 1⟩
          (withFlag r.dom .cut (withRequestAnswer r (r.worst.merge .cut) []
            { s with
              ports := s.ports.set r.target { x with tags := setAt x.tags t .orphaned }
              units := setAt s.units u { v with inFlight := 0, hand := { v.hand with cutCount := 1 } }
              requests := s.requests.filter (fun y => decide (y.id ≠ r.id)) }))
        ∃ t', exec (.drainEnd u) cut = .next t' ∧ exec (.drainDeadline u) s = .next t') ∧
      (s.TargetLaw →
        let reached := s.requests.filter (fun x => decide (x.unit = some u) && x.pieces.any (fun y => y.state.live))
        ∃ c0 c1 t' : State,
          let cut := raiseFault ⟨.cut, q.byte, none, none, none, none, none, none, none, none, some u, reached.length⟩ c0
          OrphanLimits u [.A, .P, .M, .K, .D, .C, .S] cut c1 ∧ (roomy → c1 = cut) ∧
          exec (.drainEnd u) c1 = .next t' ∧ exec (.drainDeadline u) s = .next t' ∧
          ((∀ j, (c0.ports.get q).tags.get j = .orphaned) →
            (c1.ports.get q).link = .resetting ∧ (t'.units.get u).state = .failed ∧ (t'.units.get u).hand = Handover.idle) ∧
          (s.WaitingLaw → ∀ (p : Port) (j : Fin 16), (∀ r ∈ reached, r.target = p → ∀ c ∈ r.pieces, c.ttag ≠ some j) →
            (c0.ports.get p).tags.get j = (s.ports.get p).tags.get j) ∧
          (s.WaitingLaw → HeadsGoOn (fun id => reached.any (fun r => decide (r.id = id))) s c0) ∧
          c0.units.get u = { v with inFlight := 0, hand := { v.hand with cutCount := reached.length } } ∧ c0.livePieces u = 0 ∧
          (∀ r ∈ reached,
            (∀ x ∈ c0.requests, x.id ≠ r.id) ∧ (c0.flags.get r.dom).cut = true ∧
            (∀ n, r.meter = some n → r.id ∉ (c0.meters.get n).waiting) ∧
            (∀ x, r.tag = some x → r.abandoned = false → (s.ports.get r.dom.port).link = .up →
              OutPacket.completion x (r.worst.merge .cut).answer [] ∈ (c0.ports.get r.dom.port).outbound) ∧
            ∀ c ∈ r.pieces,
              (c.state = .queued → ⟨r.id, c.num⟩ ∉ (c0.ports.get r.target).arbiter.queueOf r.dom) ∧
              (∀ t, c.ttag = some t →
                (c.state = .granted → (c0.ports.get r.target).tags.get t = .free ∧
                  t ∉ requestTags (c0.ports.get r.target).outbound) ∧
                (c.state = .sent → (c0.ports.get r.target).tags.get t = .orphaned))) ∧
          ((∀ r ∈ reached, ∀ n : Fin 16, (s.meters.get n).waiting.head? ≠ some r.id) →
            c0.requests = s.requests.filter (fun x => !(decide (x.unit = some u) && x.pieces.any (fun y => y.state.live))) ∧
            ∀ w : Fin 8, w ≠ u → c0.units.get w = s.units.get w) ∧
          (c0.supQ = s.supQ ∧ c0.ownQ = s.ownQ ∧ c0.scores = s.scores ∧ c0.domains = s.domains ∧ c0.active = s.active ∧
            c0.pendingBank = s.pendingBank ∧ c0.controls = s.controls ∧ c0.masks = s.masks ∧ c0.gateTime = s.gateTime ∧
            c0.commit = s.commit ∧ ∀ w : Fin 8, (c0.units.get w).state = (s.units.get w).state)) ∧
      ((s.ports.get q).link = .up → v.script ≠ [] → roomy →
        let reached := s.requests.filter (fun x => decide (x.unit = some u) && x.pieces.any (fun y => y.state.live))
        ∃ t', exec (.drainDeadline u) s = .next t' ∧
          t'.units.get u =
            { v with
              inFlight := 0, state := .scrubbing g
              hand := { v.hand with cutCount := reached.length, drainTimer := none, scrubPos := 1 } } ∧
          t'.livePieces u = 0 ∧ (∀ r ∈ reached, (t'.flags.get r.dom).cut = true) ∧
          (t'.active = s.active ∧ t'.pendingBank = s.pendingBank ∧ t'.scores = s.scores ∧ t'.domains = s.domains ∧
            t'.ownQ = s.ownQ ∧ t'.controls = s.controls ∧ t'.masks = s.masks ∧ t'.gateTime = s.gateTime)))

/-- The settle delay ends in the grant, whole (R47, R94, R107 to R109): the unit is in its target state, previous OPEN after a return;
the parked requests are decided again; each domain whose admission changed is told, the working part is cleared, and the command replies
OK. Deciding again (R53) takes the whole list and decides its requests one by one, the oldest first: one that the state admits and the
count holds is admitted from its entry copy, split now, counted in, and queued, put on its meter's list or answered LINK_DOWN; on a list
of 96 a READ or WRITE takes the place of the POST that joined last (R83); any other request is denied CUSTODY, in the unit's style or its
domain's, and none stays parked. That a denial's answer comes before its record and notice is the model's order, and so is that of a
head answered LINK_DOWN before the next is charged (log entry 7); the number of an admitted record and the first value of its read data
are the model's (log entry 5). -/
def Obligations.SettleExpiryGrants : Prop :=
  (∀ (u : Fin 8) (g : Holding) (e : Nat) (s : State),
    (s.units.get u).state = .scrubbing g → (s.units.get u).hand.settleTimer = some e →
    let v := s.units.get u
    let previous := if v.hand.op = some .giveBack then .opened else v.previous
    let state := match g with
      | .opened => UnitState.opened
      | .held h => .held h
    let told := fun (d : Domain) (x : State) =>
      if (v.hand.starting = .opened ∨ v.hand.starting = .held d) ↔ (g = .opened ∨ g = .held d) then x else handCustodyNotice d x
    let result : List Byte :=
      [BitVec.ofNat 8 u.1, state.byte, BitVec.ofNat 8 v.hand.cutCount, BitVec.ofNat 8 (v.hand.cutCount / 256), 0]
    let granted :=
      { s with
        units := setAt s.units u { v with state := state, previous := previous, hand := { v.hand with settleTimer := none } } }
    (s.gateTime < e → exec (.settleExpiry u) s = .next s) ∧
    (e ≤ s.gateTime →
      let s2 := told .rad (told .pay (told .app (redecideParked u granted)))
      exec (.settleExpiry u) s = .next (endCommand (.custody u) .ok result
        { s2 with units := setAt s2.units u { s2.units.get u with pendingTake := none, hand := Handover.idle } })) ∧
    (e ≤ s.gateTime → v.parked = [] →
      exec (.settleExpiry u) s = .next (endCommand (.custody u) .ok result
        (told .rad (told .pay (told .app
          { s with
            units := setAt s.units u
              { v with state := state, previous := previous, pendingTake := none, hand := Handover.idle } }))))) ∧
    (e ≤ s.gateTime →
      ∃ t, exec (.settleExpiry u) s = .next t ∧ (t.units.get u).state = state ∧ (t.units.get u).previous = previous ∧
        (t.units.get u).parked = [] ∧ (t.units.get u).pendingTake = none ∧ (t.units.get u).hand = Handover.idle ∧
        ∀ k ∈ v.parked, ∀ x, k.req.tag = some x → ¬(state.Admits k.req.dom) →
          (s.ports.get k.req.dom.port).link = .up →
          (match (match v.style with
              | .refuse => DomainStyle.refuse
              | .mask => DomainStyle.mask
              | .default => (s.domains.get k.req.dom).style) with
            | .refuse => OutPacket.completion x .denied []
            | .mask => .completion x .ok
                (if k.req.kind = .read then List.replicate k.req.len (s.domains.get k.req.dom).fill else [])) ∈
            (t.ports.get k.req.dom.port).outbound)) ∧
  (∀ (u : Fin 8) (s : State),
    redecideParked u s = (s.units.get u).parked.foldl (fun x k => redecideOne u x k)
      { s with units := setAt s.units u { s.units.get u with parked := [] } }) ∧
  ∀ (u : Fin 8) (k : Parked) (s : State), k.entry.unit = some u → 1 ≤ k.req.len → k.req.len ≤ 256 →
    let v := s.units.get u
    let q := k.req
    let n := (piecesOf s q k.entry .queued).length
    let style := match v.style with
      | .refuse => DomainStyle.refuse
      | .mask => DomainStyle.mask
      | .default => (s.domains.get q.dom).style
    (¬(v.state.Admits q.dom ∧ v.inFlight + n ≤ 1632) → redecideOne u s k = withCustodyDenial style q k.entry u s) ∧
    (v.state.Admits q.dom → v.inFlight + n ≤ 1632 →
      ((s.ports.get k.entry.target).link ≠ .up → redecideOne u s k = withLateAnswer q .linkDown [] s) ∧
      ((s.ports.get k.entry.target).link = .up →
        (k.entry.meter = none →
          let r := recordOf s q k.entry .queued
          redecideOne u s k =
            { withRecord r u s with
              ports := s.ports.set r.target
                { s.ports.get r.target with
                  arbiter := (s.ports.get r.target).arbiter.modQueue r.dom
                    (fun l => l ++ r.pieces.map (fun c => ⟨r.id, c.num⟩)) } }) ∧
        (∀ m, k.entry.meter = some m →
          let r := recordOf s q k.entry .charging
          let list := (s.meters.get m).waiting
          (list = [] → Charges m (withRefill m [r.id] (withRecord r u s)) (redecideOne u s k)) ∧
          (list ≠ [] → list.length < 96 →
            redecideOne u s k =
              { withRecord r u s with meters := setAt s.meters m { s.meters.get m with waiting := list ++ [r.id] } }) ∧
          (96 ≤ list.length → q.kind = .post → q.tag = none → redecideOne u s k = withFlag q.dom .throttled s) ∧
          (∀ (x : Request) (before after : List Nat), 96 ≤ list.length → q.kind ≠ .post → s.CountLaw → s.WaitingLaw →
            list = before ++ x.id :: after → x ∈ s.requests → x.kind = .post → x.tag = none →
            (∀ y ∈ s.requests, y.id ∈ after → y.kind ≠ .post) →
            let taken := withRoomMade m x before after r.id (withRecord r u s)
            (before ≠ [] → redecideOne u s k = taken) ∧
            (before = [] → Charges m (withRefill m (after ++ [r.id]) taken) (redecideOne u s k))))))

/-! ### Events and malformed packets -/

/-- A peripheral event that passes its checks is routed by the unit that carries the port's events or by the port's route (R3, R115 to
R118): placed with its own port as source and the gap flag, which it clears, while fewer than 8 wait; dropped with the gap flag set when
8 wait; discarded when the destination is not UP or there is none. -/
def Obligations.EventIsRouted : Prop :=
  ∀ (p : Port) (source code : Byte) (gap : Bool) (declared : Byte) (data : List Byte) (o : Option Domain) (s s1 : State),
    p.sendsEvents = true → Arrives p (.event source code gap declared data) s s1 → data.length = declared.toNat →
    data.length ≤ 16 → EventGoesTo s p o →
    (o = none → exec (.eventTaken p source code gap declared data) s = .next s1) ∧
    (∀ d : Domain, o = some d →
      let v := s.inits.get d
      ((s.ports.get d.port).link ≠ .up → exec (.eventTaken p source code gap declared data) s = .next s1) ∧
      ((s.ports.get d.port).link = .up → v.eventCount < 8 →
        exec (.eventTaken p source code gap declared data) s = .next
          { withOut d.port [.event p.byte code v.gap data] s1 with
            inits := s.inits.set d { v with eventCount := v.eventCount + 1, gap := false } }) ∧
      ((s.ports.get d.port).link = .up → 8 ≤ v.eventCount →
        exec (.eventTaken p source code gap declared data) s = .next { s1 with inits := s.inits.set d { v with gap := true } }))

/-- A packet that fails a check of R7 is discarded and raises MALFORMED with the number of the first check it fails as its detail; only
a failure of check 4 gives the packet's fields (R2, R7, R8, R65, R127). That the length code of a COMPLETION without payload is
disregarded is the model's choice (log entry 18). -/
def Obligations.MalformedPacketIsDiscarded : Prop :=
  ∀ (p : Port) (s s1 : State),
    let fault := fun (tag : Option Byte) (kind : Option FaultKind) (addr : Option Addr) (len : Option Nat) (check : Nat) =>
      (Host.Outcome.next (raiseFault ⟨.malformed, p.byte, p.domain, tag, kind, addr, len, none, none, none, none, check⟩ s1) :
        Host.Outcome State Machine.Fault Refusal)
    (∀ (kind : Byte) (rest : List Byte), Arrives p (.unknown kind rest) s s1 →
      exec (.malformedPacketTaken p (.unknown kind rest)) s = fault none none none none 1) ∧
    (∀ pkt : Packet, Arrives p pkt s s1 →
      ((∃ k t l a y, pkt = .request k t l a y ∧ p.initiator = false) ∨ (∃ c m, pkt = .manage c m ∧ p.initiator = false) ∨
        (∃ x c g l y, pkt = .event x c g l y ∧ p.sendsEvents = false) ∨ (∃ rest, pkt = .manageReply rest)) →
      exec (.malformedPacketTaken p pkt) s = fault none none none none 2) ∧
    (∀ (d : Domain) (kind : Kind) (tag : Fin 32) (code : Byte) (addr : Addr) (data : List Byte), p = d.port →
      Arrives p (.request kind tag code addr data) s s1 →
      ((kind = .read ∧ data ≠ []) ∨ (kind ≠ .read ∧ data.length ≠ lengthOfCode code) →
        exec (.requestTaken p kind tag code addr data) s = fault none none none none 3) ∧
      ((kind = .read ∧ data = []) ∨ (kind = .write ∧ data.length = lengthOfCode code) → tag ∈ (s.inits.get d).tags →
        exec (.requestTaken p kind tag code addr data) s =
          fault (some (BitVec.ofNat 8 tag.1)) (some (recordKind kind)) (some addr) (some (lengthOfCode code)) 4)) ∧
    (∀ (tag : Fin 16) (status : Byte) (present : Bool) (code : Byte) (data : List Byte),
      Arrives p (.completion tag status present code data) s s1 →
      (data.length ≠ (if present then lengthOfCode code else 0) →
        exec (.completionTaken p tag status present code data) s = fault none none none none 3) ∧
      (data.length = (if present then lengthOfCode code else 0) →
        ((s.ports.get p).tags.get tag = .free ∨ (∃ u e, (s.ports.get p).tags.get tag = .live (.scrub u false e)) ∨
          (∃ r ∈ s.requests, ∃ c ∈ r.pieces, (s.ports.get p).tags.get tag = .live (.piece ⟨r.id, c.num⟩) ∧
            (∀ q ∈ s.requests, q.id = r.id → q = r) ∧ (∀ y ∈ r.pieces, y.num = c.num → y = c) ∧ c.state = .granted)) →
        exec (.completionTaken p tag status present code data) s = fault none none none none 4)) ∧
    (∀ (source code : Byte) (gap : Bool) (declared : Byte) (data : List Byte), p.sendsEvents = true →
      Arrives p (.event source code gap declared data) s s1 → (data.length ≠ declared.toNat ∨ 16 < data.length) →
      exec (.eventTaken p source code gap declared data) s = fault none none none none 3) ∧
    (∀ (d : Domain) (code : Byte) (m : MgmtPacket), p = d.port → Arrives p (.manage code m) s s1 →
      (m.params.length ≠ m.declared.toNat ∨ 64 < m.params.length →
        exec (commandOfCode p code m) s = fault none none none none 3) ∧
      (m.params.length = m.declared.toNat → m.params.length ≤ 64 →
        (∃ c ∈ (s.inits.get d).commands, c.discard = false ∧ c.tag = m.tag) →
        exec (commandOfCode p code m) s = fault (some (BitVec.ofNat 8 m.tag.1)) (some .manage) none none 4 ∧
        exec (.malformedPacketTaken p (.manage code m)) s = fault (some (BitVec.ofNat 8 m.tag.1)) (some .manage) none none 4))

/-! ### Management commands -/

/-- The order of a command's checks (R158, R159, R161, R175): an unknown code is answered UNKNOWN without a fault; a command that
only P may issue, or one that names another domain, is answered NOT_PERMITTED from A and M, with its fault; a parameter length that the
command does not accept is answered BAD_PARAMETER, and so is a value outside what the command accepts;
that ENTRY_PIN's index is judged before a running validation is the model's choice (log entry 20). -/
def Obligations.RefusedCommandsChangeNothing : Prop :=
  (∀ (d : Domain) (code : Byte) (m : MgmtPacket) (s s1 : State), code ∉ commandCodes → CommandArrives d code m s s1 →
    exec (.unknownCommand d.port code m) s = .next (answered d m code .unknown [] s1)) ∧
  (∀ (d : Domain) (code : Byte) (m : MgmtPacket) (s s1 : State), d ≠ .pay → code ∈ commandCodes → CommandArrives d code m s s1 →
    (5 < code.toNat ∨ ((code = 4 ∨ code = 5) ∧ ∃ x : Domain, x ≠ d ∧ m.params = [x.code])) →
    exec (commandOfCode d.port code m) s = .next
      (withOut d.port [.reply m.tag .notPermitted []]
        (raiseFault ⟨.mgmtDenied, d.port.byte, some d, some (BitVec.ofNat 8 m.tag.1), some .manage, none, none, none, none, none,
          none, code.toNat⟩ (withCommand d m code none s1)))) ∧
  (∀ (d : Domain) (code : Byte) (m : MgmtPacket) (s s1 : State), code ∈ commandCodes → (d = .pay ∨ code.toNat ≤ 3) →
    CommandArrives d code m s s1 → m.params.length ∉ acceptedLengths code →
    exec (commandOfCode d.port code m) s = .next (answered d m code .badParameter [] s1)) ∧
  (∀ (d : Domain) (code : Byte) (m : MgmtPacket) (s s1 : State), m.params.length ∈ acceptedLengths code →
    CommandArrives d code m s s1 → RefusedValue code m.params → (d = .pay ∨ ((code = 4 ∨ code = 5) ∧ 2 < (m.params.getD 0 0).toNat)) →
    exec (commandOfCode d.port code m) s = .next (answered d m code .badParameter [] s1))

/-- The end of a long command of P (R157, R158, R161): its reply is placed and it stays, uncarried, until that has left; one that is
marked leaves the list without a reply; and a running validation that is aborted answers ABORTED so. -/
def Obligations.LongCommandsEndWithTheirReply : Prop :=
  ∀ (b : Carrier) (st : ReplyStatus) (result : List Byte) (s : State),
    let v := s.inits.get .pay
    ((∀ c ∈ v.commands, c.carrier ≠ some b) → endCommand b st result s = s) ∧
    (∀ (before after : List Command) (c : Command), v.commands = before ++ c :: after → c.carrier = some b →
      (∀ x ∈ before ++ after, x.carrier ≠ some b) →
      (c.discard = true →
        endCommand b st result s = { s with inits := s.inits.set .pay { v with commands := before ++ after } }) ∧
      (c.discard = false → (s.ports.get .P).link = .up →
        endCommand b st result s =
          { withOut .P [.reply c.tag st result] s with
            inits := s.inits.set .pay { v with commands := before ++ { c with carrier := none } :: after } })) ∧
    (s.commit = none → abortCommit s = s) ∧
    (s.commit ≠ none → abortCommit s = endCommand .commit .aborted [] { s with commit := none })

/-- STATUS and TIME_READ (R15, R55, R162, R163, R173): the 38 bytes that P reads, the 8 bytes that A and M read, and the six bytes of
gate time. -/
def Obligations.QueriesReport : Prop :=
  ∀ (d : Domain) (m : MgmtPacket) (s s1 : State), m.params = [] → s.gateTime ≤ 2 ^ 48 - 1 →
    let yes := fun (b : Bool) => (if b then 1 else 0 : Byte)
    let mode := fun (x : Domain) => yes (decide ((s.domains.get x).mode = .quarantined))
    let unit := fun (u : Fin 8) => (s.units.get u).state.byte
    let fill := fun (x : Domain) => BitVec.ofNat 8 (match x with
      | .pay => s.supQ.records.length
      | .app => s.ownQ.app.records.length
      | .rad => s.ownQ.rad.records.length)
    (CommandArrives d 0x01 m s s1 →
      exec (.status d.port m) s = .next (answered d m 0x01 .ok
        (if d = .pay then
          [0x40, 0x03, 0x41, s.resetCause.code] ++ leBytes 6 s.gateTime ++ leBytes 2 s.generation.toNat
          ++ [yes s.commit.isSome, s.ports.a.link.code, s.ports.p.link.code, s.ports.m.link.code, s.ports.k.link.code,
              s.ports.d.link.code, s.ports.c.link.code, s.ports.s.link.code, mode .app, mode .pay, mode .rad]
          ++ leBytes 2 s.scores.app.score ++ leBytes 2 s.scores.rad.score
          ++ [unit 0, unit 1, unit 2, unit 3, unit 4, unit 5, unit 6, unit 7, fill .pay, fill .app, fill .rad]
        else
          [0x40, 0x03, 0x41, mode d,
            BitVec.ofNat 8 (((List.finRange 8).map (fun u => if (s.units.get u).state = .held d then 2 ^ u.1 else 0)).sum),
            fill d] ++ leBytes 2 s.generation.toNat) s1)) ∧
    (CommandArrives d 0x02 m s s1 →
      exec (.timeRead d.port m) s = .next (answered d m 0x02 .ok (leBytes 6 s.gateTime) s1))

/-- FAULT_FETCH of n (R131, R133, R172): the oldest records, n clamped to 1 to 8 and no more than the queue holds and the reply carries
(2 of P's, 3 of an own queue), are returned and removed, the overrun flag is reported and cleared, and the notice is armed when none are
left, else the reader is told again. -/
def Obligations.FaultFetchReturnsOldest : Prop :=
  ∀ (d : Domain) (n : Byte) (m : MgmtPacket) (s s1 : State), CommandArrives d 0x03 m s s1 → m.params = [n] →
    let asked := max 1 (min n.toNat 8)
    (d = .pay →
      let q := s.supQ
      let k := min asked (min q.records.length 2)
      let result : List Byte :=
        [BitVec.ofNat 8 k, if q.overrun then 1 else 0, BitVec.ofNat 8 (q.records.length - k), 30]
        ++ (q.records.take k).flatMap FullRecord.image
      let s2 := fun (armed : Bool) =>
        { answered d m 0x03 .ok result s1 with
          supQ := { q with records := q.records.drop k, overrun := false, armed := armed } }
      exec (.faultFetch d.port m) s =
        .next (if q.records.length = k then s2 true else withFaultNotice d (s2 false))) ∧
    (∀ x : Scored, d = x.domain →
      let q := s.ownQ.get x
      let k := min asked (min q.records.length 3)
      let result : List Byte :=
        [BitVec.ofNat 8 k, if q.overrun then 1 else 0, BitVec.ofNat 8 (q.records.length - k), 18]
        ++ (q.records.take k).flatMap ReducedRecord.image
      let s2 := fun (armed : Bool) =>
        { answered d m 0x03 .ok result s1 with
          ownQ := s.ownQ.set x { q with records := q.records.drop k, overrun := false, armed := armed } }
      exec (.faultFetch d.port m) s =
        .next (if q.records.length = k then s2 true else withFaultNotice d (s2 false)))

/-- FLAGS_TAKE reports and clears a domain's flags (R135, R136); FAULT_CONTROL reads, and with values writes, a class's recording,
weight and delegation within what the class allows (R124, R125, R134); DOMAIN_SET writes a style and a fill byte (R164). -/
def Obligations.FlagAndControlCommands : Prop :=
  (∀ (d x : Domain) (m : MgmtPacket) (s s1 : State), CommandArrives d 0x04 m s s1 → (d = .pay ∨ d = x) → m.params = [x.code] →
    let f := s.flags.get x
    let bit := fun (b : Bool) (n : Nat) => if b then n else 0
    exec (.flagsTake d.port m) s = .next
      { answered d m 0x04 .ok
          [x.code, BitVec.ofNat 8 (bit f.denied 1 + bit f.masked 2 + bit f.throttled 4 + bit f.clamped 8 + bit f.cut 16 +
            bit f.timeout 32)] s1 with
        flags := s.flags.set x ⟨false, false, false, false, false, false⟩ }) ∧
  (∀ (c : FaultClass) (m : MgmtPacket) (s s1 : State), CommandArrives .pay 0x40 m s s1 →
    let report := fun (v : FaultControl) (app rad : Bool) =>
      [c.code, BitVec.ofNat 8 ((if v.record then 1 else 0) + (if app then 2 else 0) + (if rad then 4 else 0)), v.weight]
    (m.params = [c.code] →
      exec (.faultControl .P m) s = .next (answered .pay m 0x40 .ok
        (report (s.controls.get c.index) (s.masks.app.get c.index) (s.masks.rad.get c.index)) s1)) ∧
    (∀ flags weight : Byte, m.params = [c.code, flags, weight] →
      let v : FaultControl := ⟨flags.getLsbD 0, if c.chargeable then weight else 0⟩
      let app := c.delegable && flags.getLsbD 1
      let rad := c.delegable && flags.getLsbD 2
      exec (.faultControl .P m) s = .next
        { answered .pay m 0x40 .ok (report v app rad) s1 with
          controls := setAt s.controls c.index v
          masks := ⟨setAt s.masks.app c.index app, setAt s.masks.rad c.index rad⟩ })) ∧
  (∀ (x : Domain) (style : DomainStyle) (fill : Byte) (m : MgmtPacket) (s s1 : State), CommandArrives .pay 0x44 m s s1 →
    m.params = [x.code, style.code, fill] →
    exec (.domainSet .P m) s = .next
      { answered .pay m 0x44 .ok [x.code, style.code, fill] s1 with
        domains := s.domains.set x { s.domains.get x with style := style, fill := fill } })

/-- The score unit's commands (R138, R139, R142 to R145, R175): SCORE_READ decays, re-arms below the threshold and reports;
SCORE_CONTROL decays under the old values and stores the new, the advisory threshold not above a quarantine threshold other than 0;
PARDON and QUARANTINE set the mode, PARDON with the score at 0. -/
def Obligations.ScoreCommands : Prop :=
  ∀ (x : Scored) (m : MgmtPacket) (s s1 : State),
    let r := (s.scores.get x).decay s.gateTime
    let mode := fun (v : Mode) => (if v = .quarantined then 1 else 0 : Byte)
    let times := fun (v : ScoreRecord) => leBytes 2 (v.interval.value.1 + 1024 * v.interval.scale.1)
    (∀ d : Domain, CommandArrives d 0x05 m s s1 → (d = .pay ∨ d = x.domain) → m.params = [x.domain.code] →
      s.gateTime ≤ 2 ^ 48 - 1 → r.lastDecay ≤ 2 ^ 48 - 1 →
      let armed := if r.advisory ≠ 0 ∧ r.score < r.advisory.toNat then true else r.armed
      exec (.scoreRead d.port m) s = .next
        { answered d m 0x05 .ok
            ([x.domain.code] ++ leBytes 2 r.score ++ leBytes 2 r.advisory.toNat ++ leBytes 2 r.quarantine.toNat ++ [r.decayAmount]
              ++ times r ++ leBytes 6 r.lastDecay ++ [if armed then 1 else 0, mode (s.domains.get x.domain).mode]
              ++ leBytes 6 s.gateTime) s1 with
          scores := s.scores.set x { r with armed := armed } }) ∧
    (∀ (advisory quarantine : Half) (amount : Byte) (interval : Fin 65536), CommandArrives .pay 0x41 m s s1 →
      m.params = [x.domain.code] ++ leBytes 2 advisory.toNat ++ leBytes 2 quarantine.toNat ++ [amount] ++ leBytes 2 interval.1 →
      let v : ScoreRecord :=
        { r with
          advisory := if quarantine ≠ 0 ∧ quarantine.toNat < advisory.toNat then quarantine else advisory
          quarantine := quarantine, decayAmount := amount
          interval := ⟨Fin.ofNat 1024 interval.1, Fin.ofNat 4 (min 3 (interval.1 / 1024 % 8))⟩, armed := true }
      exec (.scoreControl .P m) s = .next
        { answered .pay m 0x41 .ok
            ([x.domain.code] ++ leBytes 2 v.advisory.toNat ++ leBytes 2 v.quarantine.toNat ++ [v.decayAmount] ++ times v
              ++ leBytes 2 v.score ++ [mode (s.domains.get x.domain).mode]) s1 with
          scores := s.scores.set x v }) ∧
    (CommandArrives .pay 0x42 m s s1 → m.params = [x.domain.code] →
      exec (.pardon .P m) s = .next
        { answered .pay m 0x42 .ok [x.domain.code, 0, 0, 0] s1 with
          scores := s.scores.set x { s.scores.get x with score := 0, armed := true, lastDecay := s.gateTime }
          domains := s.domains.set x.domain { s.domains.get x.domain with mode := .normal } }) ∧
    (CommandArrives .pay 0x43 m s s1 → m.params = [x.domain.code] →
      exec (.quarantine .P m) s = .next
        { answered .pay m 0x43 .ok ([x.domain.code, 1] ++ leBytes 2 (s.scores.get x).score) s1 with
          domains := s.domains.set x.domain { s.domains.get x.domain with mode := .quarantined } })

/-- The commands on the banks (R20, R147 to R150, R157, R170): TABLE_CLONE copies ACTIVE over PENDING; ENTRY_WRITE stores an image in
PENDING, the pinned flag kept; both abort a running validation first; ENTRY_READ reports an entry of either bank with the generation;
ENTRY_PIN pins an ACTIVE entry, and is BUSY while a validation runs. -/
def Obligations.BankCommands : Prop :=
  ∀ (m : MgmtPacket) (s s1 : State),
    (CommandArrives .pay 0x10 m s s1 → m.params = [] →
      exec (.tableClone .P m) s = .next (withOut .P [.reply m.tag .ok []]
        { abortCommit (withCommand .pay m 0x10 none s1) with pendingBank := s.active })) ∧
    (∀ (i : Fin 96) (e : Entry), CommandArrives .pay 0x11 m s s1 → e.Stored → m.params = e.image i.1 →
      let stored := { e with pinned := (s.pendingBank.get i).pinned }
      exec (.entryWrite .P m) s = .next (withOut .P [.reply m.tag .ok (stored.image i.1)]
        { abortCommit (withCommand .pay m 0x11 none s1) with pendingBank := setAt s.pendingBank i stored })) ∧
    (∀ (i : Fin 96), CommandArrives .pay 0x12 m s s1 →
      (m.params = [0, BitVec.ofNat 8 i.1] →
        exec (.entryRead .P m) s = .next (answered .pay m 0x12 .ok
          (leBytes 2 s.generation.toNat ++ (s.active.get i).image i.1) s1)) ∧
      (m.params = [1, BitVec.ofNat 8 i.1] →
        exec (.entryRead .P m) s = .next (answered .pay m 0x12 .ok
          (leBytes 2 s.generation.toNat ++ (s.pendingBank.get i).image i.1) s1))) ∧
    (∀ (i : Fin 96), CommandArrives .pay 0x14 m s s1 → m.params = [BitVec.ofNat 8 i.1] →
      let pinned := { s.active.get i with pinned := true }
      (s.commit = none →
        exec (.entryPin .P m) s = .next
          { answered .pay m 0x14 .ok (pinned.image i.1) s1 with active := setAt s.active i pinned }) ∧
      (s.commit ≠ none → exec (.entryPin .P m) s = .next (answered .pay m 0x14 .busy [] s1)))

/-- The commit (R151 to R156): TABLE_COMMIT starts a validation, and is BUSY while one runs. At its end, with every PENDING entry
passing every check, the banks are exchanged, the generation rises by one and the command replies with it; else the first offender's
index and first failing check are reported and nothing but the commit state changes. -/
def Obligations.CommitValidatesAndSwaps : Prop :=
  (∀ (m : MgmtPacket) (s s1 : State), CommandArrives .pay 0x13 m s s1 → m.params = [] →
    (s.commit = none →
      exec (.tableCommit .P m) s =
        .next { withCommand .pay m 0x13 (some .commit) s1 with commit := some ⟨m.tag, s.gateTime⟩ }) ∧
    (s.commit ≠ none → exec (.tableCommit .P m) s = .next (answered .pay m 0x13 .busy [] s1))) ∧
  (∀ (c : Commit) (s : State), s.commit = some c → c.started < s.gateTime →
    ((∀ i r, ¬Fails s i r) →
      exec .validationEnd s = .next (endCommand .commit .ok (leBytes 2 (s.generation + 1).toNat)
        { s with active := s.pendingBank, pendingBank := s.active, generation := s.generation + 1, commit := none })) ∧
    (∀ i r, FirstOffender s i r →
      exec .validationEnd s =
        .next (endCommand .commit .rejected [BitVec.ofNat 8 i.1, r.code] { s with commit := none })))

/-- UNIT_DEFINE and UNIT_READ (R16, R39, R42 to R45, R157, R168, R171): a definition in its image, or one whose start, size and times are
written in any way and stored aligned, limited and clamped, is stored in an OPEN unit, a running validation being aborted; it is BUSY in
any other state, BAD_PARAMETER where its range, events or steps do not fit as stored, and REJECTED with the first ACTIVE entry that would
break the custody-gap law. UNIT_READ reports the whole record. That a definition with port NONE is stored with the same limits is the
model's choice (log entry 19). -/
def Obligations.UnitCommands : Prop :=
  (∀ (u : Fin 8) (d : UnitDefinition) (m : MgmtPacket) (s s1 : State), CommandArrives .pay 0x20 m s s1 →
    ((d.Stored ∧ m.params = d.image u) ∨
      ∃ start size drain settle spare, d.StoredFrom start size drain settle ∧ m.params = d.written u start size drain settle spare) →
    ((s.units.get u).state = .opened → (∀ p, d.port = some p → d.Fits s u p ∧ ∀ i, ¬d.GapAt s u p i) →
      exec (.unitDefine .P m) s = .next (withOut .P [.reply m.tag .ok []]
        { abortCommit (withCommand .pay m 0x20 none s1) with units := setAt s.units u (d.storedIn (s.units.get u)) })) ∧
    ((s.units.get u).state ≠ .opened → exec (.unitDefine .P m) s = .next (answered .pay m 0x20 .busy [] s1)) ∧
    (∀ p, (s.units.get u).state = .opened → d.port = some p → ¬d.Fits s u p →
      exec (.unitDefine .P m) s = .next (answered .pay m 0x20 .badParameter [] s1)) ∧
    (∀ p i, (s.units.get u).state = .opened → d.port = some p → d.Fits s u p → d.GapAt s u p i →
      (∀ j, j < i → ¬d.GapAt s u p j) →
      exec (.unitDefine .P m) s = .next (answered .pay m 0x20 .rejected [BitVec.ofNat 8 i.1, 5] s1))) ∧
  (∀ (u : Fin 8) (m : MgmtPacket) (s s1 : State), CommandArrives .pay 0x23 m s s1 → m.params = [BitVec.ofNat 8 u.1] →
    let v := s.units.get u
    let times := fun (c : TimeCode) => leBytes 2 (c.value.1 + 1024 * c.scale.1)
    exec (.unitRead .P m) s = .next (answered .pay m 0x23 .ok
      ([BitVec.ofNat 8 u.1, (match v.port with | none => 0xFF | some p => p.byte),
        BitVec.ofNat 8 ((if v.events then 1 else 0) + 2 * v.style.code), BitVec.ofNat 8 v.script.length]
        ++ leBytes 4 v.start.toNat ++ leBytes 4 v.size.toNat ++ times v.drain ++ times v.settle
        ++ [v.state.byte, (match v.previous with | .opened => 0x30 | .held h => 1 + 16 * h.code)]
        ++ leBytes 2 v.inFlight
        ++ [BitVec.ofNat 8 v.parked.length, (match v.pendingTake with | none => 0xFF | some t => BitVec.ofNat 8 t.1)]
        ++ v.script.flatMap (fun st => leBytes 4 st.addr.toNat ++ [BitVec.ofNat 8 st.data.length])) s1))

/-- CUSTODY_TAKE and CUSTODY_RETURN (R47, R95 to R98, R109): what each answers in every state of the unit, the state a handover starts
from, with its drain timer while pieces are in flight and its drain ended at once without them, and the return that aborts a draining
take, the parked requests being decided again. A drain with nothing in flight has ended (log entry 15). -/
def Obligations.CustodyTakeAndReturn : Prop :=
  ∀ (u : Fin 8) (m : MgmtPacket) (s s1 : State),
    let v := s.units.get u
    let unitByte : Byte := BitVec.ofNat 8 u.1
    let starts := fun (op : HandoverKind) (code : Byte) (from' : Resting) (previous target : Holding) =>
      { withCommand .pay m code (some (.custody u)) s1 with
        units := setAt s.units u
          { v with
            state := .draining target, previous := previous, pendingTake := some m.tag
            hand :=
              { op := some op, starting := from'
                drainTimer := if v.drain.value = 0 then none else some (s.gateTime + v.drain.duration)
                scrubPos := 0, settleTimer := none, cutCount := 0 } } }
    let runs := fun (c : Instr) (t : State) =>
      (v.inFlight ≠ 0 → exec c s = .next t) ∧
      (v.inFlight = 0 → ∃ t', exec (.drainEnd u) t = .next t' ∧ exec c s = .next t')
    (∀ (g : Holding), CommandArrives .pay 0x21 m s s1 →
      m.params = [unitByte, match g with | .opened => 3 | .held h => h.code] →
      (v.port = none → exec (.custodyTake .P m) s = .next (answered .pay m 0x21 .badParameter [] s1)) ∧
      (v.port ≠ none →
        (v.state.inHandover = true → exec (.custodyTake .P m) s = .next (answered .pay m 0x21 .busy [] s1)) ∧
        (v.state = .opened → g = .opened →
          exec (.custodyTake .P m) s = .next (answered .pay m 0x21 .ok [unitByte, 0x30, 0, 0, 0] s1)) ∧
        (∀ h, v.state = .held h → g = .held h →
          exec (.custodyTake .P m) s = .next (answered .pay m 0x21 .ok [unitByte, 1 + 16 * h.code, 0, 0, 0] s1)) ∧
        (v.state = .opened → g ≠ .opened → runs (.custodyTake .P m) (starts .take 0x21 .opened .opened g)) ∧
        (∀ h, v.state = .held h → g ≠ .held h → runs (.custodyTake .P m) (starts .take 0x21 (.held h) (.held h) g)) ∧
        (v.state = .failed → runs (.custodyTake .P m) (starts .take 0x21 .failed v.previous g)))) ∧
    (CommandArrives .pay 0x22 m s s1 → m.params = [unitByte] →
      (v.state = .opened →
        exec (.custodyReturn .P m) s = .next (answered .pay m 0x22 .ok [unitByte, 0x30, 0, 0, 0] s1)) ∧
      (∀ h, v.state = .held h →
        runs (.custodyReturn .P m)
          (starts .giveBack 0x22 (.held h) v.previous (if v.previous = .held h then .opened else v.previous))) ∧
      (v.state = .failed → runs (.custodyReturn .P m) (starts .giveBack 0x22 .failed v.previous v.previous)) ∧
      (∀ g, v.state = .draining g → v.hand.op = some .take → v.inFlight ≠ 0 →
        let back := match v.previous with
          | .opened => UnitState.opened
          | .held h => .held h
        let result : List Byte := [unitByte, back.byte, 0, 0, 0]
        exec (.custodyReturn .P m) s = .next (redecideParked u
          (withOut .P [.reply m.tag .ok result]
            (endCommand (.custody u) .aborted result
              { withCommand .pay m 0x22 none s1 with
                units := setAt s.units u { v with state := back, pendingTake := none, hand := Handover.idle } })))) ∧
      ((∃ g, v.state = .scrubbing g ∨ (v.state = .draining g ∧ (v.hand.op ≠ some .take ∨ v.inFlight = 0))) →
        exec (.custodyReturn .P m) s = .next (answered .pay m 0x22 .busy [] s1)))

/-- METER_SET and METER_READ (R39, R79, R81, R90 to R92): a rate of 0 is REJECTED for a meter that a valid ACTIVE entry names; else a
running validation is aborted, the meter is refilled at its old values, takes the new ones within their limits, loses credit above its
limit, and its head is evaluated. METER_READ reports what a refill now would leave. -/
def Obligations.MeterCommands : Prop :=
  (∀ (n : Fin 16) (rate : BitVec 32) (depth : BitVec 16) (m : MgmtPacket) (s s1 : State), CommandArrives .pay 0x30 m s s1 →
    m.params = [BitVec.ofNat 8 n.1] ++ leBytes 4 rate.toNat ++ leBytes 2 depth.toNat →
    let v := s.meters.get n
    let named := ∃ i : Fin 96, (s.active.get i).valid = true ∧ (s.active.get i).meter = some n
    let newRate := min 65535 rate.toNat
    let newDepth := if depth = 0 then 1 else min 4095 depth.toNat
    let credit := min (256 * newDepth) (min (256 * v.depth) (v.credit + v.rate * (s.gateTime - v.last)))
    let changed :=
      { abortCommit (withCommand .pay m 0x30 none s1) with
        meters := setAt s.meters n { v with rate := newRate, depth := newDepth, credit := credit, last := s.gateTime } }
    (rate = 0 → named → exec (.meterSet .P m) s = .next (answered .pay m 0x30 .rejected [] s1)) ∧
    (rate ≠ 0 ∨ ¬named →
      (v.waiting = [] →
        exec (.meterSet .P m) s = .next (withOut .P [.reply m.tag .ok
          ([BitVec.ofNat 8 n.1] ++ leBytes 2 newRate ++ leBytes 2 newDepth ++ leBytes 4 credit)] changed)) ∧
      exec (.meterSet .P m) s = .next (withOut .P [.reply m.tag .ok
        ([BitVec.ofNat 8 n.1] ++ leBytes 2 newRate ++ leBytes 2 newDepth
          ++ leBytes 4 ((evalMeter n changed).meters.get n).credit)] (evalMeter n changed)))) ∧
  (∀ (n : Fin 16) (m : MgmtPacket) (s s1 : State), CommandArrives .pay 0x31 m s s1 → m.params = [BitVec.ofNat 8 n.1] →
    s.gateTime ≤ 2 ^ 48 - 1 → (∀ e, (s.meters.get n).release = some e → e ≤ 2 ^ 48 - 1) →
    let v := s.meters.get n
    exec (.meterRead .P m) s = .next (answered .pay m 0x31 .ok
      ([BitVec.ofNat 8 n.1] ++ leBytes 2 v.rate ++ leBytes 2 v.depth
        ++ leBytes 4 (min (256 * v.depth) (v.credit + v.rate * (s.gateTime - v.last))) ++ leBytes 6 s.gateTime
        ++ [BitVec.ofNat 8 v.waiting.length]
        ++ (match v.release with | none => [0, 0, 0, 0, 0, 0, 0] | some e => [1] ++ leBytes 6 e)) s1))

/-- PORT_SET (R16, R18, R19, R165): the selected fields are stored as R18 limits them, a running validation is aborted where the max
burst, the span or the capacity is among them, and the whole record is reported; a route other than NONE for a port that sends no
events, and a code above 3, are refused. -/
def Obligations.PortSetStoresTheSelectedFields : Prop :=
  ∀ (q : Port) (sel : Byte) (burst deadline span : BitVec 16) (capacity : BitVec 32) (route : Byte) (m : MgmtPacket)
    (s s1 : State), CommandArrives .pay 0x50 m s s1 →
    m.params = [q.byte, sel] ++ leBytes 2 burst.toNat ++ leBytes 2 deadline.toNat ++ leBytes 2 span.toNat
      ++ leBytes 4 capacity.toNat ++ [route] →
    let old := (s.ports.get q).config
    (∀ r : Option Domain, (sel.getLsbD 4 = false → r = old.route) →
      (sel.getLsbD 4 = true →
        route = (match r with | none => 3 | some d => d.code) ∧ (r = none ∨ q = .K ∨ q = .D ∨ q = .C)) →
      let new : PortConfig :=
        { maxBurst := if sel.getLsbD 0 then (if burst.toNat < 32 then .b16 else if burst.toNat < 64 then .b32
            else if burst.toNat < 128 then .b64 else if burst.toNat < 256 then .b128 else .b256) else old.maxBurst
          deadline := if sel.getLsbD 1 then ⟨Fin.ofNat 1024 deadline.toNat, Fin.ofNat 4 (min 3 (deadline.toNat / 1024 % 8))⟩
            else old.deadline
          span := if sel.getLsbD 2 then span else old.span
          capacity := if sel.getLsbD 3 then BitVec.ofNat 20 (min 1048575 capacity.toNat) else old.capacity
          route := r }
      let s2 := withCommand .pay m 0x50 none s1
      let s3 := if sel.getLsbD 0 || sel.getLsbD 2 || sel.getLsbD 3 then abortCommit s2 else s2
      exec (.portSet .P m) s = .next (withOut .P
        [.reply m.tag .ok
          ([q.byte] ++ leBytes 2 new.maxBurst.bytes ++ leBytes 2 (new.deadline.value.1 + 1024 * new.deadline.scale.1)
            ++ leBytes 2 new.span.toNat ++ leBytes 4 new.capacity.toNat ++ [match r with | none => 3 | some d => d.code])]
        { s3 with ports := s3.ports.set q { s3.ports.get q with config := new } })) ∧
    (sel.getLsbD 4 = true → (3 < route.toNat ∨ (route ≠ 3 ∧ q.sendsEvents = false)) →
      exec (.portSet .P m) s = .next (answered .pay m 0x50 .badParameter [] s1))
end

