-- ==== Sys2Proof/Laws/State.lean ====
section
/-! SUPPORT. What each update of the state does to each field, and reading back what was set. -/

namespace Sys2Proof.Machine

open Sys2Proof

/-! ### Families -/

@[simp] theorem PerPort.get_set_same {α : Type} (v : PerPort α) (i : Port) (x : α) : (v.set i x).get i = x := by
  cases i <;> rfl

theorem PerPort.get_set {α : Type} (v : PerPort α) (i j : Port) (x : α) :
    (v.set i x).get j = if j = i then x else v.get j := by
  cases i <;> cases j <;> rfl

@[simp] theorem PerPort.get_set_other {α : Type} (v : PerPort α) {i j : Port} (x : α) (h : j ≠ i) :
    (v.set i x).get j = v.get j := by
  rw [PerPort.get_set, if_neg h]

@[simp] theorem PerPort.set_set {α : Type} (v : PerPort α) (i : Port) (x y : α) : (v.set i x).set i y = v.set i y := by
  cases i <;> rfl

@[simp] theorem PerPort.set_get {α : Type} (v : PerPort α) (i : Port) : v.set i (v.get i) = v := by
  cases i <;> rfl

@[simp] theorem PerDomain.get_set_same {α : Type} (v : PerDomain α) (i : Domain) (x : α) : (v.set i x).get i = x := by
  cases i <;> rfl

theorem PerDomain.get_set {α : Type} (v : PerDomain α) (i j : Domain) (x : α) :
    (v.set i x).get j = if j = i then x else v.get j := by
  cases i <;> cases j <;> rfl

@[simp] theorem PerDomain.get_set_other {α : Type} (v : PerDomain α) {i j : Domain} (x : α) (h : j ≠ i) :
    (v.set i x).get j = v.get j := by
  rw [PerDomain.get_set, if_neg h]

@[simp] theorem PerDomain.set_set {α : Type} (v : PerDomain α) (i : Domain) (x y : α) :
    (v.set i x).set i y = v.set i y := by
  cases i <;> rfl

@[simp] theorem PerDomain.set_get {α : Type} (v : PerDomain α) (i : Domain) : v.set i (v.get i) = v := by
  cases i <;> rfl

@[simp] theorem PerScored.get_set_same {α : Type} (v : PerScored α) (i : Scored) (x : α) : (v.set i x).get i = x := by
  cases i <;> rfl

theorem PerScored.get_set {α : Type} (v : PerScored α) (i j : Scored) (x : α) :
    (v.set i x).get j = if j = i then x else v.get j := by
  cases i <;> cases j <;> rfl

@[simp] theorem PerScored.set_set {α : Type} (v : PerScored α) (i : Scored) (x y : α) :
    (v.set i x).set i y = v.set i y := by
  cases i <;> rfl

@[simp] theorem PerScored.set_get {α : Type} (v : PerScored α) (i : Scored) : v.set i (v.get i) = v := by
  cases i <;> rfl

@[simp] theorem setAt_get_same {α : Type} {n : Nat} (v : Vector α n) (i : Fin n) (x : α) : (setAt v i x).get i = x := by
  simp only [setAt, Vector.get, Vector.set]
  exact Array.getElem_set_self _

theorem setAt_get {α : Type} {n : Nat} (v : Vector α n) (i j : Fin n) (x : α) :
    (setAt v i x).get j = if j = i then x else v.get j := by
  by_cases h : j = i
  · subst h; simp
  · have h' : i.1 ≠ j.1 := fun e => h (Fin.ext e.symm)
    simp only [setAt, Vector.get, Vector.set, Fin.val_cast, if_neg h]
    exact Array.getElem_set_ne _ _ h'

@[simp] theorem setAt_get_other {α : Type} {n : Nat} (v : Vector α n) {i j : Fin n} (x : α) (h : j ≠ i) :
    (setAt v i x).get j = v.get j := by
  rw [setAt_get, if_neg h]

@[simp] theorem setAt_setAt {α : Type} {n : Nat} (v : Vector α n) (i : Fin n) (x y : α) :
    setAt (setAt v i x) i y = setAt v i y := by
  simp [setAt]

@[simp] theorem setAt_self {α : Type} {n : Nat} (v : Vector α n) (i : Fin n) : setAt v i (v.get i) = v := by
  simp [setAt, Vector.get]

/-! ### modPort -/

@[simp] theorem State.modPort_gateTime (p : Port) (f : PortState → PortState) (s : State) :
    (s.modPort p f).gateTime = s.gateTime := rfl

@[simp] theorem State.modPort_resetCause (p : Port) (f : PortState → PortState) (s : State) :
    (s.modPort p f).resetCause = s.resetCause := rfl

@[simp] theorem State.modPort_ports (p : Port) (f : PortState → PortState) (s : State) :
    (s.modPort p f).ports = s.ports.set p (f (s.ports.get p)) := rfl

@[simp] theorem State.modPort_inits (p : Port) (f : PortState → PortState) (s : State) :
    (s.modPort p f).inits = s.inits := rfl

@[simp] theorem State.modPort_active (p : Port) (f : PortState → PortState) (s : State) :
    (s.modPort p f).active = s.active := rfl

@[simp] theorem State.modPort_pendingBank (p : Port) (f : PortState → PortState) (s : State) :
    (s.modPort p f).pendingBank = s.pendingBank := rfl

@[simp] theorem State.modPort_generation (p : Port) (f : PortState → PortState) (s : State) :
    (s.modPort p f).generation = s.generation := rfl

@[simp] theorem State.modPort_commit (p : Port) (f : PortState → PortState) (s : State) :
    (s.modPort p f).commit = s.commit := rfl

@[simp] theorem State.modPort_domains (p : Port) (f : PortState → PortState) (s : State) :
    (s.modPort p f).domains = s.domains := rfl

@[simp] theorem State.modPort_units (p : Port) (f : PortState → PortState) (s : State) :
    (s.modPort p f).units = s.units := rfl

@[simp] theorem State.modPort_requests (p : Port) (f : PortState → PortState) (s : State) :
    (s.modPort p f).requests = s.requests := rfl

@[simp] theorem State.modPort_meters (p : Port) (f : PortState → PortState) (s : State) :
    (s.modPort p f).meters = s.meters := rfl

@[simp] theorem State.modPort_controls (p : Port) (f : PortState → PortState) (s : State) :
    (s.modPort p f).controls = s.controls := rfl

@[simp] theorem State.modPort_masks (p : Port) (f : PortState → PortState) (s : State) :
    (s.modPort p f).masks = s.masks := rfl

@[simp] theorem State.modPort_supQ (p : Port) (f : PortState → PortState) (s : State) :
    (s.modPort p f).supQ = s.supQ := rfl

@[simp] theorem State.modPort_ownQ (p : Port) (f : PortState → PortState) (s : State) :
    (s.modPort p f).ownQ = s.ownQ := rfl

@[simp] theorem State.modPort_flags (p : Port) (f : PortState → PortState) (s : State) :
    (s.modPort p f).flags = s.flags := rfl

@[simp] theorem State.modPort_scores (p : Port) (f : PortState → PortState) (s : State) :
    (s.modPort p f).scores = s.scores := rfl

@[simp] theorem State.modPort_pending (p : Port) (f : PortState → PortState) (s : State) :
    (s.modPort p f).pending = s.pending := rfl

@[simp] theorem State.modPort_wire (p : Port) (f : PortState → PortState) (s : State) :
    (s.modPort p f).wire = s.wire := rfl

/-! ### modInit -/

@[simp] theorem State.modInit_gateTime (d : Domain) (f : InitState → InitState) (s : State) :
    (s.modInit d f).gateTime = s.gateTime := rfl

@[simp] theorem State.modInit_resetCause (d : Domain) (f : InitState → InitState) (s : State) :
    (s.modInit d f).resetCause = s.resetCause := rfl

@[simp] theorem State.modInit_ports (d : Domain) (f : InitState → InitState) (s : State) :
    (s.modInit d f).ports = s.ports := rfl

@[simp] theorem State.modInit_inits (d : Domain) (f : InitState → InitState) (s : State) :
    (s.modInit d f).inits = s.inits.set d (f (s.inits.get d)) := rfl

@[simp] theorem State.modInit_active (d : Domain) (f : InitState → InitState) (s : State) :
    (s.modInit d f).active = s.active := rfl

@[simp] theorem State.modInit_pendingBank (d : Domain) (f : InitState → InitState) (s : State) :
    (s.modInit d f).pendingBank = s.pendingBank := rfl

@[simp] theorem State.modInit_generation (d : Domain) (f : InitState → InitState) (s : State) :
    (s.modInit d f).generation = s.generation := rfl

@[simp] theorem State.modInit_commit (d : Domain) (f : InitState → InitState) (s : State) :
    (s.modInit d f).commit = s.commit := rfl

@[simp] theorem State.modInit_domains (d : Domain) (f : InitState → InitState) (s : State) :
    (s.modInit d f).domains = s.domains := rfl

@[simp] theorem State.modInit_units (d : Domain) (f : InitState → InitState) (s : State) :
    (s.modInit d f).units = s.units := rfl

@[simp] theorem State.modInit_requests (d : Domain) (f : InitState → InitState) (s : State) :
    (s.modInit d f).requests = s.requests := rfl

@[simp] theorem State.modInit_meters (d : Domain) (f : InitState → InitState) (s : State) :
    (s.modInit d f).meters = s.meters := rfl

@[simp] theorem State.modInit_controls (d : Domain) (f : InitState → InitState) (s : State) :
    (s.modInit d f).controls = s.controls := rfl

@[simp] theorem State.modInit_masks (d : Domain) (f : InitState → InitState) (s : State) :
    (s.modInit d f).masks = s.masks := rfl

@[simp] theorem State.modInit_supQ (d : Domain) (f : InitState → InitState) (s : State) :
    (s.modInit d f).supQ = s.supQ := rfl

@[simp] theorem State.modInit_ownQ (d : Domain) (f : InitState → InitState) (s : State) :
    (s.modInit d f).ownQ = s.ownQ := rfl

@[simp] theorem State.modInit_flags (d : Domain) (f : InitState → InitState) (s : State) :
    (s.modInit d f).flags = s.flags := rfl

@[simp] theorem State.modInit_scores (d : Domain) (f : InitState → InitState) (s : State) :
    (s.modInit d f).scores = s.scores := rfl

@[simp] theorem State.modInit_pending (d : Domain) (f : InitState → InitState) (s : State) :
    (s.modInit d f).pending = s.pending := rfl

@[simp] theorem State.modInit_wire (d : Domain) (f : InitState → InitState) (s : State) :
    (s.modInit d f).wire = s.wire := rfl

/-! ### modUnit -/

@[simp] theorem State.modUnit_gateTime (u : Fin 8) (f : CustodyUnit → CustodyUnit) (s : State) :
    (s.modUnit u f).gateTime = s.gateTime := rfl

@[simp] theorem State.modUnit_resetCause (u : Fin 8) (f : CustodyUnit → CustodyUnit) (s : State) :
    (s.modUnit u f).resetCause = s.resetCause := rfl

@[simp] theorem State.modUnit_ports (u : Fin 8) (f : CustodyUnit → CustodyUnit) (s : State) :
    (s.modUnit u f).ports = s.ports := rfl

@[simp] theorem State.modUnit_inits (u : Fin 8) (f : CustodyUnit → CustodyUnit) (s : State) :
    (s.modUnit u f).inits = s.inits := rfl

@[simp] theorem State.modUnit_active (u : Fin 8) (f : CustodyUnit → CustodyUnit) (s : State) :
    (s.modUnit u f).active = s.active := rfl

@[simp] theorem State.modUnit_pendingBank (u : Fin 8) (f : CustodyUnit → CustodyUnit) (s : State) :
    (s.modUnit u f).pendingBank = s.pendingBank := rfl

@[simp] theorem State.modUnit_generation (u : Fin 8) (f : CustodyUnit → CustodyUnit) (s : State) :
    (s.modUnit u f).generation = s.generation := rfl

@[simp] theorem State.modUnit_commit (u : Fin 8) (f : CustodyUnit → CustodyUnit) (s : State) :
    (s.modUnit u f).commit = s.commit := rfl

@[simp] theorem State.modUnit_domains (u : Fin 8) (f : CustodyUnit → CustodyUnit) (s : State) :
    (s.modUnit u f).domains = s.domains := rfl

@[simp] theorem State.modUnit_units (u : Fin 8) (f : CustodyUnit → CustodyUnit) (s : State) :
    (s.modUnit u f).units = setAt s.units u (f (s.units.get u)) := rfl

@[simp] theorem State.modUnit_requests (u : Fin 8) (f : CustodyUnit → CustodyUnit) (s : State) :
    (s.modUnit u f).requests = s.requests := rfl

@[simp] theorem State.modUnit_meters (u : Fin 8) (f : CustodyUnit → CustodyUnit) (s : State) :
    (s.modUnit u f).meters = s.meters := rfl

@[simp] theorem State.modUnit_controls (u : Fin 8) (f : CustodyUnit → CustodyUnit) (s : State) :
    (s.modUnit u f).controls = s.controls := rfl

@[simp] theorem State.modUnit_masks (u : Fin 8) (f : CustodyUnit → CustodyUnit) (s : State) :
    (s.modUnit u f).masks = s.masks := rfl

@[simp] theorem State.modUnit_supQ (u : Fin 8) (f : CustodyUnit → CustodyUnit) (s : State) :
    (s.modUnit u f).supQ = s.supQ := rfl

@[simp] theorem State.modUnit_ownQ (u : Fin 8) (f : CustodyUnit → CustodyUnit) (s : State) :
    (s.modUnit u f).ownQ = s.ownQ := rfl

@[simp] theorem State.modUnit_flags (u : Fin 8) (f : CustodyUnit → CustodyUnit) (s : State) :
    (s.modUnit u f).flags = s.flags := rfl

@[simp] theorem State.modUnit_scores (u : Fin 8) (f : CustodyUnit → CustodyUnit) (s : State) :
    (s.modUnit u f).scores = s.scores := rfl

@[simp] theorem State.modUnit_pending (u : Fin 8) (f : CustodyUnit → CustodyUnit) (s : State) :
    (s.modUnit u f).pending = s.pending := rfl

@[simp] theorem State.modUnit_wire (u : Fin 8) (f : CustodyUnit → CustodyUnit) (s : State) :
    (s.modUnit u f).wire = s.wire := rfl

/-! ### modMeter -/

@[simp] theorem State.modMeter_gateTime (n : Fin 16) (f : Meter → Meter) (s : State) :
    (s.modMeter n f).gateTime = s.gateTime := rfl

@[simp] theorem State.modMeter_resetCause (n : Fin 16) (f : Meter → Meter) (s : State) :
    (s.modMeter n f).resetCause = s.resetCause := rfl

@[simp] theorem State.modMeter_ports (n : Fin 16) (f : Meter → Meter) (s : State) :
    (s.modMeter n f).ports = s.ports := rfl

@[simp] theorem State.modMeter_inits (n : Fin 16) (f : Meter → Meter) (s : State) :
    (s.modMeter n f).inits = s.inits := rfl

@[simp] theorem State.modMeter_active (n : Fin 16) (f : Meter → Meter) (s : State) :
    (s.modMeter n f).active = s.active := rfl

@[simp] theorem State.modMeter_pendingBank (n : Fin 16) (f : Meter → Meter) (s : State) :
    (s.modMeter n f).pendingBank = s.pendingBank := rfl

@[simp] theorem State.modMeter_generation (n : Fin 16) (f : Meter → Meter) (s : State) :
    (s.modMeter n f).generation = s.generation := rfl

@[simp] theorem State.modMeter_commit (n : Fin 16) (f : Meter → Meter) (s : State) :
    (s.modMeter n f).commit = s.commit := rfl

@[simp] theorem State.modMeter_domains (n : Fin 16) (f : Meter → Meter) (s : State) :
    (s.modMeter n f).domains = s.domains := rfl

@[simp] theorem State.modMeter_units (n : Fin 16) (f : Meter → Meter) (s : State) :
    (s.modMeter n f).units = s.units := rfl

@[simp] theorem State.modMeter_requests (n : Fin 16) (f : Meter → Meter) (s : State) :
    (s.modMeter n f).requests = s.requests := rfl

@[simp] theorem State.modMeter_meters (n : Fin 16) (f : Meter → Meter) (s : State) :
    (s.modMeter n f).meters = setAt s.meters n (f (s.meters.get n)) := rfl

@[simp] theorem State.modMeter_controls (n : Fin 16) (f : Meter → Meter) (s : State) :
    (s.modMeter n f).controls = s.controls := rfl

@[simp] theorem State.modMeter_masks (n : Fin 16) (f : Meter → Meter) (s : State) :
    (s.modMeter n f).masks = s.masks := rfl

@[simp] theorem State.modMeter_supQ (n : Fin 16) (f : Meter → Meter) (s : State) :
    (s.modMeter n f).supQ = s.supQ := rfl

@[simp] theorem State.modMeter_ownQ (n : Fin 16) (f : Meter → Meter) (s : State) :
    (s.modMeter n f).ownQ = s.ownQ := rfl

@[simp] theorem State.modMeter_flags (n : Fin 16) (f : Meter → Meter) (s : State) :
    (s.modMeter n f).flags = s.flags := rfl

@[simp] theorem State.modMeter_scores (n : Fin 16) (f : Meter → Meter) (s : State) :
    (s.modMeter n f).scores = s.scores := rfl

@[simp] theorem State.modMeter_pending (n : Fin 16) (f : Meter → Meter) (s : State) :
    (s.modMeter n f).pending = s.pending := rfl

@[simp] theorem State.modMeter_wire (n : Fin 16) (f : Meter → Meter) (s : State) :
    (s.modMeter n f).wire = s.wire := rfl

/-! ### modDomain -/

@[simp] theorem State.modDomain_gateTime (d : Domain) (f : DomainRecord → DomainRecord) (s : State) :
    (s.modDomain d f).gateTime = s.gateTime := rfl

@[simp] theorem State.modDomain_resetCause (d : Domain) (f : DomainRecord → DomainRecord) (s : State) :
    (s.modDomain d f).resetCause = s.resetCause := rfl

@[simp] theorem State.modDomain_ports (d : Domain) (f : DomainRecord → DomainRecord) (s : State) :
    (s.modDomain d f).ports = s.ports := rfl

@[simp] theorem State.modDomain_inits (d : Domain) (f : DomainRecord → DomainRecord) (s : State) :
    (s.modDomain d f).inits = s.inits := rfl

@[simp] theorem State.modDomain_active (d : Domain) (f : DomainRecord → DomainRecord) (s : State) :
    (s.modDomain d f).active = s.active := rfl

@[simp] theorem State.modDomain_pendingBank (d : Domain) (f : DomainRecord → DomainRecord) (s : State) :
    (s.modDomain d f).pendingBank = s.pendingBank := rfl

@[simp] theorem State.modDomain_generation (d : Domain) (f : DomainRecord → DomainRecord) (s : State) :
    (s.modDomain d f).generation = s.generation := rfl

@[simp] theorem State.modDomain_commit (d : Domain) (f : DomainRecord → DomainRecord) (s : State) :
    (s.modDomain d f).commit = s.commit := rfl

@[simp] theorem State.modDomain_domains (d : Domain) (f : DomainRecord → DomainRecord) (s : State) :
    (s.modDomain d f).domains = s.domains.set d (f (s.domains.get d)) := rfl

@[simp] theorem State.modDomain_units (d : Domain) (f : DomainRecord → DomainRecord) (s : State) :
    (s.modDomain d f).units = s.units := rfl

@[simp] theorem State.modDomain_requests (d : Domain) (f : DomainRecord → DomainRecord) (s : State) :
    (s.modDomain d f).requests = s.requests := rfl

@[simp] theorem State.modDomain_meters (d : Domain) (f : DomainRecord → DomainRecord) (s : State) :
    (s.modDomain d f).meters = s.meters := rfl

@[simp] theorem State.modDomain_controls (d : Domain) (f : DomainRecord → DomainRecord) (s : State) :
    (s.modDomain d f).controls = s.controls := rfl

@[simp] theorem State.modDomain_masks (d : Domain) (f : DomainRecord → DomainRecord) (s : State) :
    (s.modDomain d f).masks = s.masks := rfl

@[simp] theorem State.modDomain_supQ (d : Domain) (f : DomainRecord → DomainRecord) (s : State) :
    (s.modDomain d f).supQ = s.supQ := rfl

@[simp] theorem State.modDomain_ownQ (d : Domain) (f : DomainRecord → DomainRecord) (s : State) :
    (s.modDomain d f).ownQ = s.ownQ := rfl

@[simp] theorem State.modDomain_flags (d : Domain) (f : DomainRecord → DomainRecord) (s : State) :
    (s.modDomain d f).flags = s.flags := rfl

@[simp] theorem State.modDomain_scores (d : Domain) (f : DomainRecord → DomainRecord) (s : State) :
    (s.modDomain d f).scores = s.scores := rfl

@[simp] theorem State.modDomain_pending (d : Domain) (f : DomainRecord → DomainRecord) (s : State) :
    (s.modDomain d f).pending = s.pending := rfl

@[simp] theorem State.modDomain_wire (d : Domain) (f : DomainRecord → DomainRecord) (s : State) :
    (s.modDomain d f).wire = s.wire := rfl

/-! ### modScore -/

@[simp] theorem State.modScore_gateTime (x : Scored) (f : ScoreRecord → ScoreRecord) (s : State) :
    (s.modScore x f).gateTime = s.gateTime := rfl

@[simp] theorem State.modScore_resetCause (x : Scored) (f : ScoreRecord → ScoreRecord) (s : State) :
    (s.modScore x f).resetCause = s.resetCause := rfl

@[simp] theorem State.modScore_ports (x : Scored) (f : ScoreRecord → ScoreRecord) (s : State) :
    (s.modScore x f).ports = s.ports := rfl

@[simp] theorem State.modScore_inits (x : Scored) (f : ScoreRecord → ScoreRecord) (s : State) :
    (s.modScore x f).inits = s.inits := rfl

@[simp] theorem State.modScore_active (x : Scored) (f : ScoreRecord → ScoreRecord) (s : State) :
    (s.modScore x f).active = s.active := rfl

@[simp] theorem State.modScore_pendingBank (x : Scored) (f : ScoreRecord → ScoreRecord) (s : State) :
    (s.modScore x f).pendingBank = s.pendingBank := rfl

@[simp] theorem State.modScore_generation (x : Scored) (f : ScoreRecord → ScoreRecord) (s : State) :
    (s.modScore x f).generation = s.generation := rfl

@[simp] theorem State.modScore_commit (x : Scored) (f : ScoreRecord → ScoreRecord) (s : State) :
    (s.modScore x f).commit = s.commit := rfl

@[simp] theorem State.modScore_domains (x : Scored) (f : ScoreRecord → ScoreRecord) (s : State) :
    (s.modScore x f).domains = s.domains := rfl

@[simp] theorem State.modScore_units (x : Scored) (f : ScoreRecord → ScoreRecord) (s : State) :
    (s.modScore x f).units = s.units := rfl

@[simp] theorem State.modScore_requests (x : Scored) (f : ScoreRecord → ScoreRecord) (s : State) :
    (s.modScore x f).requests = s.requests := rfl

@[simp] theorem State.modScore_meters (x : Scored) (f : ScoreRecord → ScoreRecord) (s : State) :
    (s.modScore x f).meters = s.meters := rfl

@[simp] theorem State.modScore_controls (x : Scored) (f : ScoreRecord → ScoreRecord) (s : State) :
    (s.modScore x f).controls = s.controls := rfl

@[simp] theorem State.modScore_masks (x : Scored) (f : ScoreRecord → ScoreRecord) (s : State) :
    (s.modScore x f).masks = s.masks := rfl

@[simp] theorem State.modScore_supQ (x : Scored) (f : ScoreRecord → ScoreRecord) (s : State) :
    (s.modScore x f).supQ = s.supQ := rfl

@[simp] theorem State.modScore_ownQ (x : Scored) (f : ScoreRecord → ScoreRecord) (s : State) :
    (s.modScore x f).ownQ = s.ownQ := rfl

@[simp] theorem State.modScore_flags (x : Scored) (f : ScoreRecord → ScoreRecord) (s : State) :
    (s.modScore x f).flags = s.flags := rfl

@[simp] theorem State.modScore_scores (x : Scored) (f : ScoreRecord → ScoreRecord) (s : State) :
    (s.modScore x f).scores = s.scores.set x (f (s.scores.get x)) := rfl

@[simp] theorem State.modScore_pending (x : Scored) (f : ScoreRecord → ScoreRecord) (s : State) :
    (s.modScore x f).pending = s.pending := rfl

@[simp] theorem State.modScore_wire (x : Scored) (f : ScoreRecord → ScoreRecord) (s : State) :
    (s.modScore x f).wire = s.wire := rfl

/-! ### modFlags -/

@[simp] theorem State.modFlags_gateTime (d : Domain) (f : Sticky → Sticky) (s : State) :
    (s.modFlags d f).gateTime = s.gateTime := rfl

@[simp] theorem State.modFlags_resetCause (d : Domain) (f : Sticky → Sticky) (s : State) :
    (s.modFlags d f).resetCause = s.resetCause := rfl

@[simp] theorem State.modFlags_ports (d : Domain) (f : Sticky → Sticky) (s : State) :
    (s.modFlags d f).ports = s.ports := rfl

@[simp] theorem State.modFlags_inits (d : Domain) (f : Sticky → Sticky) (s : State) :
    (s.modFlags d f).inits = s.inits := rfl

@[simp] theorem State.modFlags_active (d : Domain) (f : Sticky → Sticky) (s : State) :
    (s.modFlags d f).active = s.active := rfl

@[simp] theorem State.modFlags_pendingBank (d : Domain) (f : Sticky → Sticky) (s : State) :
    (s.modFlags d f).pendingBank = s.pendingBank := rfl

@[simp] theorem State.modFlags_generation (d : Domain) (f : Sticky → Sticky) (s : State) :
    (s.modFlags d f).generation = s.generation := rfl

@[simp] theorem State.modFlags_commit (d : Domain) (f : Sticky → Sticky) (s : State) :
    (s.modFlags d f).commit = s.commit := rfl

@[simp] theorem State.modFlags_domains (d : Domain) (f : Sticky → Sticky) (s : State) :
    (s.modFlags d f).domains = s.domains := rfl

@[simp] theorem State.modFlags_units (d : Domain) (f : Sticky → Sticky) (s : State) :
    (s.modFlags d f).units = s.units := rfl

@[simp] theorem State.modFlags_requests (d : Domain) (f : Sticky → Sticky) (s : State) :
    (s.modFlags d f).requests = s.requests := rfl

@[simp] theorem State.modFlags_meters (d : Domain) (f : Sticky → Sticky) (s : State) :
    (s.modFlags d f).meters = s.meters := rfl

@[simp] theorem State.modFlags_controls (d : Domain) (f : Sticky → Sticky) (s : State) :
    (s.modFlags d f).controls = s.controls := rfl

@[simp] theorem State.modFlags_masks (d : Domain) (f : Sticky → Sticky) (s : State) :
    (s.modFlags d f).masks = s.masks := rfl

@[simp] theorem State.modFlags_supQ (d : Domain) (f : Sticky → Sticky) (s : State) :
    (s.modFlags d f).supQ = s.supQ := rfl

@[simp] theorem State.modFlags_ownQ (d : Domain) (f : Sticky → Sticky) (s : State) :
    (s.modFlags d f).ownQ = s.ownQ := rfl

@[simp] theorem State.modFlags_flags (d : Domain) (f : Sticky → Sticky) (s : State) :
    (s.modFlags d f).flags = s.flags.set d (f (s.flags.get d)) := rfl

@[simp] theorem State.modFlags_scores (d : Domain) (f : Sticky → Sticky) (s : State) :
    (s.modFlags d f).scores = s.scores := rfl

@[simp] theorem State.modFlags_pending (d : Domain) (f : Sticky → Sticky) (s : State) :
    (s.modFlags d f).pending = s.pending := rfl

@[simp] theorem State.modFlags_wire (d : Domain) (f : Sticky → Sticky) (s : State) :
    (s.modFlags d f).wire = s.wire := rfl

/-! ### modRequest -/

@[simp] theorem State.modRequest_gateTime (i : Nat) (f : Request → Request) (s : State) :
    (s.modRequest i f).gateTime = s.gateTime := rfl

@[simp] theorem State.modRequest_resetCause (i : Nat) (f : Request → Request) (s : State) :
    (s.modRequest i f).resetCause = s.resetCause := rfl

@[simp] theorem State.modRequest_ports (i : Nat) (f : Request → Request) (s : State) :
    (s.modRequest i f).ports = s.ports := rfl

@[simp] theorem State.modRequest_inits (i : Nat) (f : Request → Request) (s : State) :
    (s.modRequest i f).inits = s.inits := rfl

@[simp] theorem State.modRequest_active (i : Nat) (f : Request → Request) (s : State) :
    (s.modRequest i f).active = s.active := rfl

@[simp] theorem State.modRequest_pendingBank (i : Nat) (f : Request → Request) (s : State) :
    (s.modRequest i f).pendingBank = s.pendingBank := rfl

@[simp] theorem State.modRequest_generation (i : Nat) (f : Request → Request) (s : State) :
    (s.modRequest i f).generation = s.generation := rfl

@[simp] theorem State.modRequest_commit (i : Nat) (f : Request → Request) (s : State) :
    (s.modRequest i f).commit = s.commit := rfl

@[simp] theorem State.modRequest_domains (i : Nat) (f : Request → Request) (s : State) :
    (s.modRequest i f).domains = s.domains := rfl

@[simp] theorem State.modRequest_units (i : Nat) (f : Request → Request) (s : State) :
    (s.modRequest i f).units = s.units := rfl

@[simp] theorem State.modRequest_requests (i : Nat) (f : Request → Request) (s : State) :
    (s.modRequest i f).requests = s.requests.map (fun r => if r.id = i then f r else r) := rfl

@[simp] theorem State.modRequest_meters (i : Nat) (f : Request → Request) (s : State) :
    (s.modRequest i f).meters = s.meters := rfl

@[simp] theorem State.modRequest_controls (i : Nat) (f : Request → Request) (s : State) :
    (s.modRequest i f).controls = s.controls := rfl

@[simp] theorem State.modRequest_masks (i : Nat) (f : Request → Request) (s : State) :
    (s.modRequest i f).masks = s.masks := rfl

@[simp] theorem State.modRequest_supQ (i : Nat) (f : Request → Request) (s : State) :
    (s.modRequest i f).supQ = s.supQ := rfl

@[simp] theorem State.modRequest_ownQ (i : Nat) (f : Request → Request) (s : State) :
    (s.modRequest i f).ownQ = s.ownQ := rfl

@[simp] theorem State.modRequest_flags (i : Nat) (f : Request → Request) (s : State) :
    (s.modRequest i f).flags = s.flags := rfl

@[simp] theorem State.modRequest_scores (i : Nat) (f : Request → Request) (s : State) :
    (s.modRequest i f).scores = s.scores := rfl

@[simp] theorem State.modRequest_pending (i : Nat) (f : Request → Request) (s : State) :
    (s.modRequest i f).pending = s.pending := rfl

@[simp] theorem State.modRequest_wire (i : Nat) (f : Request → Request) (s : State) :
    (s.modRequest i f).wire = s.wire := rfl

/-! ### setRequests -/

@[simp] theorem State.setRequests_gateTime (v : List Request) (s : State) :
    (s.setRequests v).gateTime = s.gateTime := rfl

@[simp] theorem State.setRequests_resetCause (v : List Request) (s : State) :
    (s.setRequests v).resetCause = s.resetCause := rfl

@[simp] theorem State.setRequests_ports (v : List Request) (s : State) :
    (s.setRequests v).ports = s.ports := rfl

@[simp] theorem State.setRequests_inits (v : List Request) (s : State) :
    (s.setRequests v).inits = s.inits := rfl

@[simp] theorem State.setRequests_active (v : List Request) (s : State) :
    (s.setRequests v).active = s.active := rfl

@[simp] theorem State.setRequests_pendingBank (v : List Request) (s : State) :
    (s.setRequests v).pendingBank = s.pendingBank := rfl

@[simp] theorem State.setRequests_generation (v : List Request) (s : State) :
    (s.setRequests v).generation = s.generation := rfl

@[simp] theorem State.setRequests_commit (v : List Request) (s : State) :
    (s.setRequests v).commit = s.commit := rfl

@[simp] theorem State.setRequests_domains (v : List Request) (s : State) :
    (s.setRequests v).domains = s.domains := rfl

@[simp] theorem State.setRequests_units (v : List Request) (s : State) :
    (s.setRequests v).units = s.units := rfl

@[simp] theorem State.setRequests_requests (v : List Request) (s : State) :
    (s.setRequests v).requests = v := rfl

@[simp] theorem State.setRequests_meters (v : List Request) (s : State) :
    (s.setRequests v).meters = s.meters := rfl

@[simp] theorem State.setRequests_controls (v : List Request) (s : State) :
    (s.setRequests v).controls = s.controls := rfl

@[simp] theorem State.setRequests_masks (v : List Request) (s : State) :
    (s.setRequests v).masks = s.masks := rfl

@[simp] theorem State.setRequests_supQ (v : List Request) (s : State) :
    (s.setRequests v).supQ = s.supQ := rfl

@[simp] theorem State.setRequests_ownQ (v : List Request) (s : State) :
    (s.setRequests v).ownQ = s.ownQ := rfl

@[simp] theorem State.setRequests_flags (v : List Request) (s : State) :
    (s.setRequests v).flags = s.flags := rfl

@[simp] theorem State.setRequests_scores (v : List Request) (s : State) :
    (s.setRequests v).scores = s.scores := rfl

@[simp] theorem State.setRequests_pending (v : List Request) (s : State) :
    (s.setRequests v).pending = s.pending := rfl

@[simp] theorem State.setRequests_wire (v : List Request) (s : State) :
    (s.setRequests v).wire = s.wire := rfl

/-! ### setSupQ -/

@[simp] theorem State.setSupQ_gateTime (q : FaultQueue FullRecord) (s : State) :
    (s.setSupQ q).gateTime = s.gateTime := rfl

@[simp] theorem State.setSupQ_resetCause (q : FaultQueue FullRecord) (s : State) :
    (s.setSupQ q).resetCause = s.resetCause := rfl

@[simp] theorem State.setSupQ_ports (q : FaultQueue FullRecord) (s : State) :
    (s.setSupQ q).ports = s.ports := rfl

@[simp] theorem State.setSupQ_inits (q : FaultQueue FullRecord) (s : State) :
    (s.setSupQ q).inits = s.inits := rfl

@[simp] theorem State.setSupQ_active (q : FaultQueue FullRecord) (s : State) :
    (s.setSupQ q).active = s.active := rfl

@[simp] theorem State.setSupQ_pendingBank (q : FaultQueue FullRecord) (s : State) :
    (s.setSupQ q).pendingBank = s.pendingBank := rfl

@[simp] theorem State.setSupQ_generation (q : FaultQueue FullRecord) (s : State) :
    (s.setSupQ q).generation = s.generation := rfl

@[simp] theorem State.setSupQ_commit (q : FaultQueue FullRecord) (s : State) :
    (s.setSupQ q).commit = s.commit := rfl

@[simp] theorem State.setSupQ_domains (q : FaultQueue FullRecord) (s : State) :
    (s.setSupQ q).domains = s.domains := rfl

@[simp] theorem State.setSupQ_units (q : FaultQueue FullRecord) (s : State) :
    (s.setSupQ q).units = s.units := rfl

@[simp] theorem State.setSupQ_requests (q : FaultQueue FullRecord) (s : State) :
    (s.setSupQ q).requests = s.requests := rfl

@[simp] theorem State.setSupQ_meters (q : FaultQueue FullRecord) (s : State) :
    (s.setSupQ q).meters = s.meters := rfl

@[simp] theorem State.setSupQ_controls (q : FaultQueue FullRecord) (s : State) :
    (s.setSupQ q).controls = s.controls := rfl

@[simp] theorem State.setSupQ_masks (q : FaultQueue FullRecord) (s : State) :
    (s.setSupQ q).masks = s.masks := rfl

@[simp] theorem State.setSupQ_supQ (q : FaultQueue FullRecord) (s : State) :
    (s.setSupQ q).supQ = q := rfl

@[simp] theorem State.setSupQ_ownQ (q : FaultQueue FullRecord) (s : State) :
    (s.setSupQ q).ownQ = s.ownQ := rfl

@[simp] theorem State.setSupQ_flags (q : FaultQueue FullRecord) (s : State) :
    (s.setSupQ q).flags = s.flags := rfl

@[simp] theorem State.setSupQ_scores (q : FaultQueue FullRecord) (s : State) :
    (s.setSupQ q).scores = s.scores := rfl

@[simp] theorem State.setSupQ_pending (q : FaultQueue FullRecord) (s : State) :
    (s.setSupQ q).pending = s.pending := rfl

@[simp] theorem State.setSupQ_wire (q : FaultQueue FullRecord) (s : State) :
    (s.setSupQ q).wire = s.wire := rfl

/-! ### setOwnQ -/

@[simp] theorem State.setOwnQ_gateTime (x : Scored) (q : FaultQueue ReducedRecord) (s : State) :
    (s.setOwnQ x q).gateTime = s.gateTime := rfl

@[simp] theorem State.setOwnQ_resetCause (x : Scored) (q : FaultQueue ReducedRecord) (s : State) :
    (s.setOwnQ x q).resetCause = s.resetCause := rfl

@[simp] theorem State.setOwnQ_ports (x : Scored) (q : FaultQueue ReducedRecord) (s : State) :
    (s.setOwnQ x q).ports = s.ports := rfl

@[simp] theorem State.setOwnQ_inits (x : Scored) (q : FaultQueue ReducedRecord) (s : State) :
    (s.setOwnQ x q).inits = s.inits := rfl

@[simp] theorem State.setOwnQ_active (x : Scored) (q : FaultQueue ReducedRecord) (s : State) :
    (s.setOwnQ x q).active = s.active := rfl

@[simp] theorem State.setOwnQ_pendingBank (x : Scored) (q : FaultQueue ReducedRecord) (s : State) :
    (s.setOwnQ x q).pendingBank = s.pendingBank := rfl

@[simp] theorem State.setOwnQ_generation (x : Scored) (q : FaultQueue ReducedRecord) (s : State) :
    (s.setOwnQ x q).generation = s.generation := rfl

@[simp] theorem State.setOwnQ_commit (x : Scored) (q : FaultQueue ReducedRecord) (s : State) :
    (s.setOwnQ x q).commit = s.commit := rfl

@[simp] theorem State.setOwnQ_domains (x : Scored) (q : FaultQueue ReducedRecord) (s : State) :
    (s.setOwnQ x q).domains = s.domains := rfl

@[simp] theorem State.setOwnQ_units (x : Scored) (q : FaultQueue ReducedRecord) (s : State) :
    (s.setOwnQ x q).units = s.units := rfl

@[simp] theorem State.setOwnQ_requests (x : Scored) (q : FaultQueue ReducedRecord) (s : State) :
    (s.setOwnQ x q).requests = s.requests := rfl

@[simp] theorem State.setOwnQ_meters (x : Scored) (q : FaultQueue ReducedRecord) (s : State) :
    (s.setOwnQ x q).meters = s.meters := rfl

@[simp] theorem State.setOwnQ_controls (x : Scored) (q : FaultQueue ReducedRecord) (s : State) :
    (s.setOwnQ x q).controls = s.controls := rfl

@[simp] theorem State.setOwnQ_masks (x : Scored) (q : FaultQueue ReducedRecord) (s : State) :
    (s.setOwnQ x q).masks = s.masks := rfl

@[simp] theorem State.setOwnQ_supQ (x : Scored) (q : FaultQueue ReducedRecord) (s : State) :
    (s.setOwnQ x q).supQ = s.supQ := rfl

@[simp] theorem State.setOwnQ_ownQ (x : Scored) (q : FaultQueue ReducedRecord) (s : State) :
    (s.setOwnQ x q).ownQ = s.ownQ.set x q := rfl

@[simp] theorem State.setOwnQ_flags (x : Scored) (q : FaultQueue ReducedRecord) (s : State) :
    (s.setOwnQ x q).flags = s.flags := rfl

@[simp] theorem State.setOwnQ_scores (x : Scored) (q : FaultQueue ReducedRecord) (s : State) :
    (s.setOwnQ x q).scores = s.scores := rfl

@[simp] theorem State.setOwnQ_pending (x : Scored) (q : FaultQueue ReducedRecord) (s : State) :
    (s.setOwnQ x q).pending = s.pending := rfl

@[simp] theorem State.setOwnQ_wire (x : Scored) (q : FaultQueue ReducedRecord) (s : State) :
    (s.setOwnQ x q).wire = s.wire := rfl

/-! ### setControl -/

@[simp] theorem State.setControl_gateTime (c : FaultClass) (v : FaultControl) (s : State) :
    (s.setControl c v).gateTime = s.gateTime := rfl

@[simp] theorem State.setControl_resetCause (c : FaultClass) (v : FaultControl) (s : State) :
    (s.setControl c v).resetCause = s.resetCause := rfl

@[simp] theorem State.setControl_ports (c : FaultClass) (v : FaultControl) (s : State) :
    (s.setControl c v).ports = s.ports := rfl

@[simp] theorem State.setControl_inits (c : FaultClass) (v : FaultControl) (s : State) :
    (s.setControl c v).inits = s.inits := rfl

@[simp] theorem State.setControl_active (c : FaultClass) (v : FaultControl) (s : State) :
    (s.setControl c v).active = s.active := rfl

@[simp] theorem State.setControl_pendingBank (c : FaultClass) (v : FaultControl) (s : State) :
    (s.setControl c v).pendingBank = s.pendingBank := rfl

@[simp] theorem State.setControl_generation (c : FaultClass) (v : FaultControl) (s : State) :
    (s.setControl c v).generation = s.generation := rfl

@[simp] theorem State.setControl_commit (c : FaultClass) (v : FaultControl) (s : State) :
    (s.setControl c v).commit = s.commit := rfl

@[simp] theorem State.setControl_domains (c : FaultClass) (v : FaultControl) (s : State) :
    (s.setControl c v).domains = s.domains := rfl

@[simp] theorem State.setControl_units (c : FaultClass) (v : FaultControl) (s : State) :
    (s.setControl c v).units = s.units := rfl

@[simp] theorem State.setControl_requests (c : FaultClass) (v : FaultControl) (s : State) :
    (s.setControl c v).requests = s.requests := rfl

@[simp] theorem State.setControl_meters (c : FaultClass) (v : FaultControl) (s : State) :
    (s.setControl c v).meters = s.meters := rfl

@[simp] theorem State.setControl_controls (c : FaultClass) (v : FaultControl) (s : State) :
    (s.setControl c v).controls = setAt s.controls c.index v := rfl

@[simp] theorem State.setControl_masks (c : FaultClass) (v : FaultControl) (s : State) :
    (s.setControl c v).masks = s.masks := rfl

@[simp] theorem State.setControl_supQ (c : FaultClass) (v : FaultControl) (s : State) :
    (s.setControl c v).supQ = s.supQ := rfl

@[simp] theorem State.setControl_ownQ (c : FaultClass) (v : FaultControl) (s : State) :
    (s.setControl c v).ownQ = s.ownQ := rfl

@[simp] theorem State.setControl_flags (c : FaultClass) (v : FaultControl) (s : State) :
    (s.setControl c v).flags = s.flags := rfl

@[simp] theorem State.setControl_scores (c : FaultClass) (v : FaultControl) (s : State) :
    (s.setControl c v).scores = s.scores := rfl

@[simp] theorem State.setControl_pending (c : FaultClass) (v : FaultControl) (s : State) :
    (s.setControl c v).pending = s.pending := rfl

@[simp] theorem State.setControl_wire (c : FaultClass) (v : FaultControl) (s : State) :
    (s.setControl c v).wire = s.wire := rfl

/-! ### setMask -/

@[simp] theorem State.setMask_gateTime (x : Scored) (c : FaultClass) (v : Bool) (s : State) :
    (s.setMask x c v).gateTime = s.gateTime := rfl

@[simp] theorem State.setMask_resetCause (x : Scored) (c : FaultClass) (v : Bool) (s : State) :
    (s.setMask x c v).resetCause = s.resetCause := rfl

@[simp] theorem State.setMask_ports (x : Scored) (c : FaultClass) (v : Bool) (s : State) :
    (s.setMask x c v).ports = s.ports := rfl

@[simp] theorem State.setMask_inits (x : Scored) (c : FaultClass) (v : Bool) (s : State) :
    (s.setMask x c v).inits = s.inits := rfl

@[simp] theorem State.setMask_active (x : Scored) (c : FaultClass) (v : Bool) (s : State) :
    (s.setMask x c v).active = s.active := rfl

@[simp] theorem State.setMask_pendingBank (x : Scored) (c : FaultClass) (v : Bool) (s : State) :
    (s.setMask x c v).pendingBank = s.pendingBank := rfl

@[simp] theorem State.setMask_generation (x : Scored) (c : FaultClass) (v : Bool) (s : State) :
    (s.setMask x c v).generation = s.generation := rfl

@[simp] theorem State.setMask_commit (x : Scored) (c : FaultClass) (v : Bool) (s : State) :
    (s.setMask x c v).commit = s.commit := rfl

@[simp] theorem State.setMask_domains (x : Scored) (c : FaultClass) (v : Bool) (s : State) :
    (s.setMask x c v).domains = s.domains := rfl

@[simp] theorem State.setMask_units (x : Scored) (c : FaultClass) (v : Bool) (s : State) :
    (s.setMask x c v).units = s.units := rfl

@[simp] theorem State.setMask_requests (x : Scored) (c : FaultClass) (v : Bool) (s : State) :
    (s.setMask x c v).requests = s.requests := rfl

@[simp] theorem State.setMask_meters (x : Scored) (c : FaultClass) (v : Bool) (s : State) :
    (s.setMask x c v).meters = s.meters := rfl

@[simp] theorem State.setMask_controls (x : Scored) (c : FaultClass) (v : Bool) (s : State) :
    (s.setMask x c v).controls = s.controls := rfl

@[simp] theorem State.setMask_masks (x : Scored) (c : FaultClass) (v : Bool) (s : State) :
    (s.setMask x c v).masks = s.masks.set x (setAt (s.masks.get x) c.index v) := rfl

@[simp] theorem State.setMask_supQ (x : Scored) (c : FaultClass) (v : Bool) (s : State) :
    (s.setMask x c v).supQ = s.supQ := rfl

@[simp] theorem State.setMask_ownQ (x : Scored) (c : FaultClass) (v : Bool) (s : State) :
    (s.setMask x c v).ownQ = s.ownQ := rfl

@[simp] theorem State.setMask_flags (x : Scored) (c : FaultClass) (v : Bool) (s : State) :
    (s.setMask x c v).flags = s.flags := rfl

@[simp] theorem State.setMask_scores (x : Scored) (c : FaultClass) (v : Bool) (s : State) :
    (s.setMask x c v).scores = s.scores := rfl

@[simp] theorem State.setMask_pending (x : Scored) (c : FaultClass) (v : Bool) (s : State) :
    (s.setMask x c v).pending = s.pending := rfl

@[simp] theorem State.setMask_wire (x : Scored) (c : FaultClass) (v : Bool) (s : State) :
    (s.setMask x c v).wire = s.wire := rfl

/-! ### setActive -/

@[simp] theorem State.setActive_gateTime (v : Vector Entry 96) (s : State) :
    (s.setActive v).gateTime = s.gateTime := rfl

@[simp] theorem State.setActive_resetCause (v : Vector Entry 96) (s : State) :
    (s.setActive v).resetCause = s.resetCause := rfl

@[simp] theorem State.setActive_ports (v : Vector Entry 96) (s : State) :
    (s.setActive v).ports = s.ports := rfl

@[simp] theorem State.setActive_inits (v : Vector Entry 96) (s : State) :
    (s.setActive v).inits = s.inits := rfl

@[simp] theorem State.setActive_active (v : Vector Entry 96) (s : State) :
    (s.setActive v).active = v := rfl

@[simp] theorem State.setActive_pendingBank (v : Vector Entry 96) (s : State) :
    (s.setActive v).pendingBank = s.pendingBank := rfl

@[simp] theorem State.setActive_generation (v : Vector Entry 96) (s : State) :
    (s.setActive v).generation = s.generation := rfl

@[simp] theorem State.setActive_commit (v : Vector Entry 96) (s : State) :
    (s.setActive v).commit = s.commit := rfl

@[simp] theorem State.setActive_domains (v : Vector Entry 96) (s : State) :
    (s.setActive v).domains = s.domains := rfl

@[simp] theorem State.setActive_units (v : Vector Entry 96) (s : State) :
    (s.setActive v).units = s.units := rfl

@[simp] theorem State.setActive_requests (v : Vector Entry 96) (s : State) :
    (s.setActive v).requests = s.requests := rfl

@[simp] theorem State.setActive_meters (v : Vector Entry 96) (s : State) :
    (s.setActive v).meters = s.meters := rfl

@[simp] theorem State.setActive_controls (v : Vector Entry 96) (s : State) :
    (s.setActive v).controls = s.controls := rfl

@[simp] theorem State.setActive_masks (v : Vector Entry 96) (s : State) :
    (s.setActive v).masks = s.masks := rfl

@[simp] theorem State.setActive_supQ (v : Vector Entry 96) (s : State) :
    (s.setActive v).supQ = s.supQ := rfl

@[simp] theorem State.setActive_ownQ (v : Vector Entry 96) (s : State) :
    (s.setActive v).ownQ = s.ownQ := rfl

@[simp] theorem State.setActive_flags (v : Vector Entry 96) (s : State) :
    (s.setActive v).flags = s.flags := rfl

@[simp] theorem State.setActive_scores (v : Vector Entry 96) (s : State) :
    (s.setActive v).scores = s.scores := rfl

@[simp] theorem State.setActive_pending (v : Vector Entry 96) (s : State) :
    (s.setActive v).pending = s.pending := rfl

@[simp] theorem State.setActive_wire (v : Vector Entry 96) (s : State) :
    (s.setActive v).wire = s.wire := rfl

/-! ### setPendingBank -/

@[simp] theorem State.setPendingBank_gateTime (v : Vector Entry 96) (s : State) :
    (s.setPendingBank v).gateTime = s.gateTime := rfl

@[simp] theorem State.setPendingBank_resetCause (v : Vector Entry 96) (s : State) :
    (s.setPendingBank v).resetCause = s.resetCause := rfl

@[simp] theorem State.setPendingBank_ports (v : Vector Entry 96) (s : State) :
    (s.setPendingBank v).ports = s.ports := rfl

@[simp] theorem State.setPendingBank_inits (v : Vector Entry 96) (s : State) :
    (s.setPendingBank v).inits = s.inits := rfl

@[simp] theorem State.setPendingBank_active (v : Vector Entry 96) (s : State) :
    (s.setPendingBank v).active = s.active := rfl

@[simp] theorem State.setPendingBank_pendingBank (v : Vector Entry 96) (s : State) :
    (s.setPendingBank v).pendingBank = v := rfl

@[simp] theorem State.setPendingBank_generation (v : Vector Entry 96) (s : State) :
    (s.setPendingBank v).generation = s.generation := rfl

@[simp] theorem State.setPendingBank_commit (v : Vector Entry 96) (s : State) :
    (s.setPendingBank v).commit = s.commit := rfl

@[simp] theorem State.setPendingBank_domains (v : Vector Entry 96) (s : State) :
    (s.setPendingBank v).domains = s.domains := rfl

@[simp] theorem State.setPendingBank_units (v : Vector Entry 96) (s : State) :
    (s.setPendingBank v).units = s.units := rfl

@[simp] theorem State.setPendingBank_requests (v : Vector Entry 96) (s : State) :
    (s.setPendingBank v).requests = s.requests := rfl

@[simp] theorem State.setPendingBank_meters (v : Vector Entry 96) (s : State) :
    (s.setPendingBank v).meters = s.meters := rfl

@[simp] theorem State.setPendingBank_controls (v : Vector Entry 96) (s : State) :
    (s.setPendingBank v).controls = s.controls := rfl

@[simp] theorem State.setPendingBank_masks (v : Vector Entry 96) (s : State) :
    (s.setPendingBank v).masks = s.masks := rfl

@[simp] theorem State.setPendingBank_supQ (v : Vector Entry 96) (s : State) :
    (s.setPendingBank v).supQ = s.supQ := rfl

@[simp] theorem State.setPendingBank_ownQ (v : Vector Entry 96) (s : State) :
    (s.setPendingBank v).ownQ = s.ownQ := rfl

@[simp] theorem State.setPendingBank_flags (v : Vector Entry 96) (s : State) :
    (s.setPendingBank v).flags = s.flags := rfl

@[simp] theorem State.setPendingBank_scores (v : Vector Entry 96) (s : State) :
    (s.setPendingBank v).scores = s.scores := rfl

@[simp] theorem State.setPendingBank_pending (v : Vector Entry 96) (s : State) :
    (s.setPendingBank v).pending = s.pending := rfl

@[simp] theorem State.setPendingBank_wire (v : Vector Entry 96) (s : State) :
    (s.setPendingBank v).wire = s.wire := rfl

/-! ### setCommit -/

@[simp] theorem State.setCommit_gateTime (v : Option Commit) (s : State) :
    (s.setCommit v).gateTime = s.gateTime := rfl

@[simp] theorem State.setCommit_resetCause (v : Option Commit) (s : State) :
    (s.setCommit v).resetCause = s.resetCause := rfl

@[simp] theorem State.setCommit_ports (v : Option Commit) (s : State) :
    (s.setCommit v).ports = s.ports := rfl

@[simp] theorem State.setCommit_inits (v : Option Commit) (s : State) :
    (s.setCommit v).inits = s.inits := rfl

@[simp] theorem State.setCommit_active (v : Option Commit) (s : State) :
    (s.setCommit v).active = s.active := rfl

@[simp] theorem State.setCommit_pendingBank (v : Option Commit) (s : State) :
    (s.setCommit v).pendingBank = s.pendingBank := rfl

@[simp] theorem State.setCommit_generation (v : Option Commit) (s : State) :
    (s.setCommit v).generation = s.generation := rfl

@[simp] theorem State.setCommit_commit (v : Option Commit) (s : State) :
    (s.setCommit v).commit = v := rfl

@[simp] theorem State.setCommit_domains (v : Option Commit) (s : State) :
    (s.setCommit v).domains = s.domains := rfl

@[simp] theorem State.setCommit_units (v : Option Commit) (s : State) :
    (s.setCommit v).units = s.units := rfl

@[simp] theorem State.setCommit_requests (v : Option Commit) (s : State) :
    (s.setCommit v).requests = s.requests := rfl

@[simp] theorem State.setCommit_meters (v : Option Commit) (s : State) :
    (s.setCommit v).meters = s.meters := rfl

@[simp] theorem State.setCommit_controls (v : Option Commit) (s : State) :
    (s.setCommit v).controls = s.controls := rfl

@[simp] theorem State.setCommit_masks (v : Option Commit) (s : State) :
    (s.setCommit v).masks = s.masks := rfl

@[simp] theorem State.setCommit_supQ (v : Option Commit) (s : State) :
    (s.setCommit v).supQ = s.supQ := rfl

@[simp] theorem State.setCommit_ownQ (v : Option Commit) (s : State) :
    (s.setCommit v).ownQ = s.ownQ := rfl

@[simp] theorem State.setCommit_flags (v : Option Commit) (s : State) :
    (s.setCommit v).flags = s.flags := rfl

@[simp] theorem State.setCommit_scores (v : Option Commit) (s : State) :
    (s.setCommit v).scores = s.scores := rfl

@[simp] theorem State.setCommit_pending (v : Option Commit) (s : State) :
    (s.setCommit v).pending = s.pending := rfl

@[simp] theorem State.setCommit_wire (v : Option Commit) (s : State) :
    (s.setCommit v).wire = s.wire := rfl

/-! ### setGateTime -/

@[simp] theorem State.setGateTime_gateTime (t : Nat) (s : State) :
    (s.setGateTime t).gateTime = t := rfl

@[simp] theorem State.setGateTime_resetCause (t : Nat) (s : State) :
    (s.setGateTime t).resetCause = s.resetCause := rfl

@[simp] theorem State.setGateTime_ports (t : Nat) (s : State) :
    (s.setGateTime t).ports = s.ports := rfl

@[simp] theorem State.setGateTime_inits (t : Nat) (s : State) :
    (s.setGateTime t).inits = s.inits := rfl

@[simp] theorem State.setGateTime_active (t : Nat) (s : State) :
    (s.setGateTime t).active = s.active := rfl

@[simp] theorem State.setGateTime_pendingBank (t : Nat) (s : State) :
    (s.setGateTime t).pendingBank = s.pendingBank := rfl

@[simp] theorem State.setGateTime_generation (t : Nat) (s : State) :
    (s.setGateTime t).generation = s.generation := rfl

@[simp] theorem State.setGateTime_commit (t : Nat) (s : State) :
    (s.setGateTime t).commit = s.commit := rfl

@[simp] theorem State.setGateTime_domains (t : Nat) (s : State) :
    (s.setGateTime t).domains = s.domains := rfl

@[simp] theorem State.setGateTime_units (t : Nat) (s : State) :
    (s.setGateTime t).units = s.units := rfl

@[simp] theorem State.setGateTime_requests (t : Nat) (s : State) :
    (s.setGateTime t).requests = s.requests := rfl

@[simp] theorem State.setGateTime_meters (t : Nat) (s : State) :
    (s.setGateTime t).meters = s.meters := rfl

@[simp] theorem State.setGateTime_controls (t : Nat) (s : State) :
    (s.setGateTime t).controls = s.controls := rfl

@[simp] theorem State.setGateTime_masks (t : Nat) (s : State) :
    (s.setGateTime t).masks = s.masks := rfl

@[simp] theorem State.setGateTime_supQ (t : Nat) (s : State) :
    (s.setGateTime t).supQ = s.supQ := rfl

@[simp] theorem State.setGateTime_ownQ (t : Nat) (s : State) :
    (s.setGateTime t).ownQ = s.ownQ := rfl

@[simp] theorem State.setGateTime_flags (t : Nat) (s : State) :
    (s.setGateTime t).flags = s.flags := rfl

@[simp] theorem State.setGateTime_scores (t : Nat) (s : State) :
    (s.setGateTime t).scores = s.scores := rfl

@[simp] theorem State.setGateTime_pending (t : Nat) (s : State) :
    (s.setGateTime t).pending = s.pending := rfl

@[simp] theorem State.setGateTime_wire (t : Nat) (s : State) :
    (s.setGateTime t).wire = s.wire := rfl

end Sys2Proof.Machine
end

