-- ==== Sys2Proof/Laws/Take.lean ====
section
/-! SUPPORT. Packets and commands as they are taken: what the shared operations of a command do once its packet has arrived. -/

namespace Sys2Proof.Machine

open Sys2Proof

/-! ### Ports that are UP -/

theorem State.isUp_iff (s : State) (p : Port) : s.isUp p = true ↔ (s.ports.get p).link = .up := decide_eq_true_iff (p := (s.port p).link = .up)

theorem State.isUp_eq_false (s : State) (p : Port) : s.isUp p = false ↔ (s.ports.get p).link ≠ .up := decide_eq_false_iff_not (p := (s.port p).link = .up)

@[simp] theorem Domain.port_domain (d : Domain) : d.port.domain = some d := by cases d <;> rfl

@[simp] theorem Domain.port_initiator (d : Domain) : d.port.initiator = true := by cases d <;> rfl

theorem Port.domain_eq_some {p : Port} {d : Domain} : p.domain = some d ↔ p = d.port := by
  cases p <;> cases d <;> simp [Port.domain, Domain.port]

theorem placeOut_up {p : Port} {pkt : OutPacket} {s : State} (h : (s.ports.get p).link = .up) :
    placeOut p pkt s = withOut p [pkt] s := by
  simp [placeOut, (s.isUp_iff p).2 h, State.modPort, withOut]

theorem placeOut_notUp {p : Port} {pkt : OutPacket} {s : State} (h : (s.ports.get p).link ≠ .up) :
    placeOut p pkt s = s := by
  simp [placeOut, (s.isUp_eq_false p).2 h]

theorem reply_up {d : Domain} {t : Fin 4} {st : ReplyStatus} {res : List Byte} {s : State}
    (h : (s.ports.get d.port).link = .up) : reply d t st res s = withOut d.port [.reply t st res] s :=
  placeOut_up h

/-! ### Arrival -/

theorem Arrives.up {p : Port} {pkt : Packet} {s s1 : State} (h : Arrives p pkt s s1) : (s1.ports.get p).link = .up := by
  obtain ⟨hu, ⟨_, rfl⟩ | ⟨rest, _, rfl⟩⟩ := h
  · exact hu
  · simp [hu]

/-- What arrival leaves: every field but the ports, and of the ports everything but the ingress buffer. -/
theorem Arrives.spec {p : Port} {pkt : Packet} {s s1 : State} (h : Arrives p pkt s s1) :
    ∃ rest, s1 = { s with ports := s.ports.set p { s.ports.get p with ingress := rest } } := by
  obtain ⟨_, ⟨_, rfl⟩ | ⟨rest, _, rfl⟩⟩ := h
  · refine ⟨(s1.ports.get p).ingress, ?_⟩
    have h : s1.ports.set p { s1.ports.get p with ingress := (s1.ports.get p).ingress } = s1.ports := PerPort.set_get _ _
    rw [h]
  · exact ⟨rest, rfl⟩

theorem Arrives.inits {p : Port} {pkt : Packet} {s s1 : State} (h : Arrives p pkt s s1) : s1.inits = s.inits := by
  obtain ⟨_, rfl⟩ := h.spec; rfl

theorem Arrives.tags {p : Port} {pkt : Packet} {s s1 : State} (h : Arrives p pkt s s1) (q : Port) :
    (s1.ports.get q).tags = (s.ports.get q).tags := by
  obtain ⟨_, rfl⟩ := h.spec
  rw [PerPort.get_set]; split <;> simp_all

theorem Arrives.link {p : Port} {pkt : Packet} {s s1 : State} (h : Arrives p pkt s s1) (q : Port) :
    (s1.ports.get q).link = (s.ports.get q).link := by
  obtain ⟨_, rfl⟩ := h.spec
  rw [PerPort.get_set]; split <;> simp_all

theorem Arrives.fromIngress {p : Port} {pkt : Packet} {s s1 : State} (h : Arrives p pkt s s1) :
    fromIngress p pkt s = some s1 := by
  obtain ⟨hu, ⟨hi, rfl⟩ | ⟨rest, hi, rfl⟩⟩ := h
  · simp [Machine.fromIngress, (State.isUp_iff _ p).2 hu, State.port, hi]
  · simp [Machine.fromIngress, (State.isUp_iff _ p).2 hu, State.port, hi, State.modPort]

/-- All that an arrival can do: nothing where the packet cannot enter, else the head of the wire is held last in the ingress buffer. -/
theorem arrive_cases (p : Port) (s : State) :
    arrive p s = s ∨ ∃ pkt rest, canArrive s p = true ∧ s.wire.get p = pkt :: rest ∧
      arrive p s =
        { s with
          ports := s.ports.set p { s.ports.get p with ingress := (s.ports.get p).ingress ++ [pkt] }
          wire := s.wire.set p rest } := by
  unfold arrive
  split
  · exact .inl rfl
  · rename_i pkt rest h
    by_cases hc : canArrive s p = true
    · exact .inr ⟨pkt, rest, hc, h, by rw [if_pos hc]; rfl⟩
    · exact .inl (if_neg hc)

theorem canArrive_iff {s : State} {p : Port} :
    canArrive s p = true ↔ (s.ports.get p).link = .up ∧ (s.ports.get p).ingress.length < 8 ∧ s.wire.get p ≠ [] := by
  have h : decide ((s.port p).ingress.length < Config.ingressPlaces) = true ↔ (s.ports.get p).ingress.length < 8 :=
    decide_eq_true_iff
  have h' : (!(s.wire.get p).isEmpty) = true ↔ s.wire.get p ≠ [] := by cases s.wire.get p <;> simp
  unfold canArrive
  rw [Bool.and_eq_true, Bool.and_eq_true, State.isUp_iff, h, h', and_assoc]

theorem takePacket_good {p : Port} {pkt : Packet} {block : State → State} {s s1 : State} (h : Arrives p pkt s s1)
    (hc : checkPacket s1 p pkt = none) : takePacket p pkt block s = block s1 := by
  simp [takePacket, h.fromIngress, hc]

theorem takePacket_bad {p : Port} {pkt : Packet} {block : State → State} {s s1 : State} {n : Nat}
    (h : Arrives p pkt s s1) (hc : checkPacket s1 p pkt = some n) :
    takePacket p pkt block s = raiseFault (malformedFault p pkt n) s1 := by
  simp [takePacket, h.fromIngress, hc]

/-! ### Commands -/

theorem CommandArrives.checkPacket {d : Domain} {code : Byte} {m : MgmtPacket} {s s1 : State}
    (h : CommandArrives d code m s s1) : checkPacket s1 d.port (.manage code m) = none := by
  obtain ⟨ha, hl, hb, ht⟩ := h
  have : tagInUse s1 d m.tag = false := by
    simp only [tagInUse, State.init, ha.inits, List.any_eq_false, Bool.and_eq_true, Bool.not_eq_true', decide_eq_true_eq]
    rintro c hc ⟨h1, h2⟩
    exact ht c hc h1 h2
  simp only [Machine.checkPacket, Domain.port_domain, if_pos (And.intro hb hl), this]
  rfl

theorem enterCommand_eq (d : Domain) (m : MgmtPacket) (code : Byte) (s : State) :
    enterCommand d m.tag code s = withCommand d m code none s := rfl

/-- A command that its port may issue goes to its own part, with its tag in the engine's list. -/
theorem takeCommand_permitted {d : Domain} {code : Byte} {m : MgmtPacket} {permitted : Domain → Bool}
    {body : Domain → State → State} {s s1 : State} (h : CommandArrives d code m s s1) (hp : permitted d = true) :
    takeCommand d.port code m permitted body s = body d (withCommand d m code none s1) := by
  simp [takeCommand, takePacket_good h.1 h.checkPacket, hp, enterCommand_eq]

/-- A command that its port may not issue is answered NOT_PERMITTED after its fault. -/
theorem takeCommand_denied {d : Domain} {code : Byte} {m : MgmtPacket} {permitted : Domain → Bool}
    {body : Domain → State → State} {s s1 : State} (h : CommandArrives d code m s s1) (hp : permitted d = false) :
    takeCommand d.port code m permitted body s =
      reply d m.tag .notPermitted [] (raiseFault (deniedCommand d m.tag code) (withCommand d m code none s1)) := by
  simp [takeCommand, takePacket_good h.1 h.checkPacket, hp, enterCommand_eq]

/-- A reply to a command just taken. -/
theorem reply_answered {d : Domain} {code : Byte} {m : MgmtPacket} {st : ReplyStatus} {res : List Byte} {s s1 : State}
    (h : CommandArrives d code m s s1) :
    reply d m.tag st res (withCommand d m code none s1) = answered d m code st res s1 :=
  reply_up h.1.up

theorem badParameter_answered {d : Domain} {code : Byte} {m : MgmtPacket} {s s1 : State} (h : CommandArrives d code m s s1) :
    badParameter d m (withCommand d m code none s1) = answered d m code .badParameter [] s1 :=
  reply_answered h

/-- A command just taken that a block starts to carry is the one member of its tag that can be replied to. -/
theorem carryCommand_new {d : Domain} {code : Byte} {m : MgmtPacket} {c : Carrier} {s s1 : State}
    (h : CommandArrives d code m s s1) :
    carryCommand d m.tag c (withCommand d m code none s1) = withCommand d m code (some c) s1 := by
  obtain ⟨ha, _, _, ht⟩ := h
  rw [← ha.inits] at ht
  simp only [carryCommand, withCommand, State.modInit, PerDomain.get_set_same, PerDomain.set_set, List.map_append,
    List.map_cons, List.map_nil, and_self, if_true]
  congr 4
  refine List.map_congr_left (fun x hx => ?_) |>.trans (List.map_id _)
  have := ht x hx
  rw [if_neg (fun hh => this hh.1 hh.2)]
  rfl

/-! ### Requests -/

theorem RequestArrives.checkPacket {d : Domain} {kind : Kind} {tag : Fin 32} {code : Byte} {addr : Addr}
    {payload : List Byte} {s s1 : State} (h : RequestArrives d kind tag code addr payload s s1) :
    checkPacket s1 d.port (.request kind tag code addr payload) = none := by
  obtain ⟨ha, hr, hw, ht⟩ := h
  have hl : requestLengthOk kind code payload = true := by
    cases kind <;> simp_all [requestLengthOk]
  simp only [Machine.checkPacket, Domain.port_domain, hl, if_true, State.init, ha.inits]
  rw [if_neg]
  rintro ⟨h1, h2⟩
  exact ht h1 (by simpa using h2)

theorem execRequestTaken_arrives {d : Domain} {kind : Kind} {tag : Fin 32} {code : Byte} {addr : Addr} {payload : List Byte}
    {s s1 : State} (h : RequestArrives d kind tag code addr payload s s1) :
    exec (.requestTaken d.port kind tag code addr payload) s = .next (requestArrives d kind tag code addr payload s1) := by
  simp [exec, execRequestTaken, takePacket_good h.1 h.checkPacket]

/-- The answer of a request that waited for it. -/
theorem answerTo_late (q : Arrival) (st : AnswerStatus) (data : List Byte) (s : State) :
    answerTo q.dom q.tag st data s = withLateAnswer q st data s := by
  unfold answerTo withLateAnswer
  cases q.tag with
  | none => rfl
  | some t =>
    by_cases h : (s.ports.get q.dom.port).link = .up
    · simp only [if_pos h, placeOut_up h]
    · simp only [if_neg h, placeOut_notUp h]

/-- A CUSTODY denial, in the style of the unit or the domain. -/
theorem denyCustody_eq (u : Fin 8) (q : Arrival) (e : EntryCopy) (s : State) :
    denyCustody u q e s =
      withCustodyDenial ((s.units.get u).style.effective (s.domains.get q.dom).style) q e u s := by
  unfold denyCustody denyRequest withCustodyDenial
  simp only [State.unit, State.domain, answerTo_late]
  cases (s.units.get u).style.effective (s.domains.get q.dom).style <;> rfl

end Sys2Proof.Machine
end

