-- ==== Sys2Proof/Laws/Quiet.lean ====
section
/-! SUPPORT. What the shared operations never touch: gate time, the banks, the commit, the fault controls and the masks, the queue of
commands, and the link, hold and configuration of every port. -/

namespace Sys2Proof.Machine

open Sys2Proof

/-- What of a port is left by everything but the events of its link, a port reset and PORT_SET. -/
def PortState.face (v : PortState) : LinkState × Bool × Option Nat × PortConfig := (v.link, v.established, v.hold, v.config)

/-- The fields that traffic, faults and handovers leave as they are. -/
def State.fixed (s : State) :
    Nat × ResetCause × Vector Entry 96 × Vector Entry 96 × Half × Option Commit × Vector FaultControl 14 × PerScored (Vector Bool 14)
      × List Instr × PerPort (List Packet) :=
  (s.gateTime, s.resetCause, s.active, s.pendingBank, s.generation, s.commit, s.controls, s.masks, s.pending, s.wire)

/-- `t` differs from `s` in nothing that traffic, faults and handovers leave as it is. -/
structure Quiet (s t : State) : Prop where
  fixed : t.fixed = s.fixed
  face  : ∀ p, (t.ports.get p).face = (s.ports.get p).face

namespace Quiet

theorem refl (s : State) : Quiet s s := ⟨rfl, fun _ => rfl⟩

theorem trans {s t u : State} (h : Quiet s t) (g : Quiet t u) : Quiet s u :=
  ⟨g.fixed.trans h.fixed, fun p => (g.face p).trans (h.face p)⟩

theorem foldl {α : Type} {f : State → α → State} (h : ∀ s x, Quiet s (f s x)) (l : List α) (s : State) :
    Quiet s (l.foldl f s) := by
  induction l generalizing s with
  | nil => exact refl s
  | cons x xs ih => exact (h s x).trans (ih _)

/-! The fields, one by one. -/

theorem gateTime {s t : State} (h : Quiet s t) : t.gateTime = s.gateTime := congrArg (fun x => x.1) h.fixed

theorem resetCause {s t : State} (h : Quiet s t) : t.resetCause = s.resetCause := congrArg (fun x => x.2.1) h.fixed

theorem active {s t : State} (h : Quiet s t) : t.active = s.active := congrArg (fun x => x.2.2.1) h.fixed

theorem pendingBank {s t : State} (h : Quiet s t) : t.pendingBank = s.pendingBank := congrArg (fun x => x.2.2.2.1) h.fixed

theorem generation {s t : State} (h : Quiet s t) : t.generation = s.generation := congrArg (fun x => x.2.2.2.2.1) h.fixed

theorem commit {s t : State} (h : Quiet s t) : t.commit = s.commit := congrArg (fun x => x.2.2.2.2.2.1) h.fixed

theorem controls {s t : State} (h : Quiet s t) : t.controls = s.controls := congrArg (fun x => x.2.2.2.2.2.2.1) h.fixed

theorem masks {s t : State} (h : Quiet s t) : t.masks = s.masks := congrArg (fun x => x.2.2.2.2.2.2.2.1) h.fixed

theorem pending {s t : State} (h : Quiet s t) : t.pending = s.pending := congrArg (fun x => x.2.2.2.2.2.2.2.2.1) h.fixed

theorem wire {s t : State} (h : Quiet s t) : t.wire = s.wire := congrArg (fun x => x.2.2.2.2.2.2.2.2.2) h.fixed

theorem link {s t : State} (h : Quiet s t) (p : Port) : (t.ports.get p).link = (s.ports.get p).link :=
  congrArg (fun x => x.1) (h.face p)

theorem hold {s t : State} (h : Quiet s t) (p : Port) : (t.ports.get p).hold = (s.ports.get p).hold :=
  congrArg (fun x => x.2.2.1) (h.face p)

theorem config {s t : State} (h : Quiet s t) (p : Port) : (t.ports.get p).config = (s.ports.get p).config :=
  congrArg (fun x => x.2.2.2) (h.face p)

theorem isUp {s t : State} (h : Quiet s t) (p : Port) : t.isUp p = s.isUp p := by
  rw [Bool.eq_iff_iff, State.isUp_iff, State.isUp_iff, h.link p]

/-! ### The updates -/

theorem modPort {p : Port} {f : PortState → PortState} {s : State} (h : (f (s.ports.get p)).face = (s.ports.get p).face) :
    Quiet s (s.modPort p f) := by
  refine ⟨rfl, fun q => ?_⟩
  rw [State.modPort_ports, PerPort.get_set]
  split
  · subst_vars; exact h
  · rfl

theorem modInit (d : Domain) (f : InitState → InitState) (s : State) : Quiet s (s.modInit d f) := ⟨rfl, fun _ => rfl⟩

theorem modUnit (u : Fin 8) (f : CustodyUnit → CustodyUnit) (s : State) : Quiet s (s.modUnit u f) := ⟨rfl, fun _ => rfl⟩

theorem modMeter (n : Fin 16) (f : Meter → Meter) (s : State) : Quiet s (s.modMeter n f) := ⟨rfl, fun _ => rfl⟩

theorem modDomain (d : Domain) (f : DomainRecord → DomainRecord) (s : State) : Quiet s (s.modDomain d f) := ⟨rfl, fun _ => rfl⟩

theorem modScore (x : Scored) (f : ScoreRecord → ScoreRecord) (s : State) : Quiet s (s.modScore x f) := ⟨rfl, fun _ => rfl⟩

theorem modFlags (d : Domain) (f : Sticky → Sticky) (s : State) : Quiet s (s.modFlags d f) := ⟨rfl, fun _ => rfl⟩

theorem modRequest (i : Nat) (f : Request → Request) (s : State) : Quiet s (s.modRequest i f) := ⟨rfl, fun _ => rfl⟩

theorem setRequests (v : List Request) (s : State) : Quiet s (s.setRequests v) := ⟨rfl, fun _ => rfl⟩

theorem setSupQ (q : FaultQueue FullRecord) (s : State) : Quiet s (s.setSupQ q) := ⟨rfl, fun _ => rfl⟩

theorem setOwnQ (x : Scored) (q : FaultQueue ReducedRecord) (s : State) : Quiet s (s.setOwnQ x q) := ⟨rfl, fun _ => rfl⟩

/-! ### Packets, notices and replies -/

theorem placeOut (p : Port) (pkt : OutPacket) (s : State) : Quiet s (placeOut p pkt s) := by
  unfold Machine.placeOut
  split
  · exact modPort rfl
  · exact refl s

theorem answerTo (d : Domain) (tag : Option (Fin 32)) (st : AnswerStatus) (data : List Byte) (s : State) :
    Quiet s (answerTo d tag st data s) := by
  cases tag with
  | none => exact refl s
  | some t => exact placeOut _ _ s

theorem handFaultNotice (d : Domain) (s : State) : Quiet s (handFaultNotice d s) := by
  unfold Machine.handFaultNotice
  split
  · exact (placeOut _ _ s).trans (modInit _ _ _)
  · exact refl s

theorem handCustodyNotice (d : Domain) (s : State) : Quiet s (handCustodyNotice d s) := by
  unfold Machine.handCustodyNotice
  split
  · split
    · exact (placeOut _ _ s).trans (modInit _ _ _)
    · exact modInit _ _ s
  · exact refl s
  · exact refl s

theorem reply (d : Domain) (t : Fin 4) (st : ReplyStatus) (res : List Byte) (s : State) : Quiet s (reply d t st res s) :=
  placeOut _ _ s

theorem carryCommand (d : Domain) (t : Fin 4) (c : Carrier) (s : State) : Quiet s (carryCommand d t c s) := modInit _ _ s

theorem endCommand (c : Carrier) (st : ReplyStatus) (res : List Byte) (s : State) : Quiet s (endCommand c st res s) := by
  unfold Machine.endCommand
  split
  · exact refl s
  · split
    · exact modInit _ _ s
    · exact (modInit _ _ s).trans (reply _ _ _ _ _)

/-! ### Faults -/

theorem setFlag (d : Domain) (f : Flag) (s : State) : Quiet s (setFlag d f s) := modFlags _ _ s

theorem setArmed (d : Domain) (b : Bool) (s : State) : Quiet s (setArmed d b s) := by
  cases d
  · exact setOwnQ _ _ s
  · exact setSupQ _ s
  · exact setOwnQ _ _ s

theorem tellReader (d : Domain) (s : State) : Quiet s (tellReader d s) := (setArmed d false s).trans (handFaultNotice d _)

theorem afterPlacing (d : Domain) (n : Nat) (s : State) : Quiet s (afterPlacing d n s) := by
  unfold Machine.afterPlacing
  split
  · exact tellReader d s
  · exact refl s

theorem recordFault (e : FaultEvent) (s : State) : Quiet s (recordFault e s) := by
  unfold Machine.recordFault
  split
  · split
    · exact (setOwnQ _ _ s).trans (afterPlacing _ _ _)
    · exact (setSupQ _ s).trans (afterPlacing _ _ _)
  · exact refl s

theorem judgeAdvisory (x : Scored) (s : State) : Quiet s (judgeAdvisory x s) := by
  unfold Machine.judgeAdvisory
  dsimp only
  split
  · exact refl s
  · split
    · exact modScore _ _ s
    · split
      · exact (modScore _ _ s).trans (recordFault _ _)
      · exact refl s

theorem judgeQuarantine (x : Scored) (s : State) : Quiet s (judgeQuarantine x s) := by
  unfold Machine.judgeQuarantine
  dsimp only
  split
  · exact (modDomain _ _ s).trans (recordFault _ _)
  · exact refl s

theorem chargeScore (x : Scored) (w : Nat) (s : State) : Quiet s (chargeScore x w s) :=
  (modScore _ _ s).trans ((judgeAdvisory x _).trans (judgeQuarantine x _))

theorem raiseFault (e : FaultEvent) (s : State) : Quiet s (raiseFault e s) := by
  unfold Machine.raiseFault Machine.chargeFault
  refine (recordFault e s).trans ?_
  split
  · split
    · exact chargeScore _ _ _
    · exact refl _
  · exact refl _

/-! ### Pieces -/

theorem countOut (u : Option (Fin 8)) (n : Nat) (s : State) : Quiet s (countOut u n s) := by
  unfold Machine.countOut
  split
  · exact refl s
  · exact modUnit _ _ s

theorem countIn (u : Option (Fin 8)) (n : Nat) (s : State) : Quiet s (countIn u n s) := by
  unfold Machine.countIn
  split
  · exact refl s
  · exact modUnit _ _ s

theorem setPiece (r : PieceRef) (f : Piece → Piece) (s : State) : Quiet s (setPiece r f s) := modRequest _ _ s

theorem endPiece (r : PieceRef) (st : PieceState) (s : State) : Quiet s (endPiece r st s) := by
  unfold Machine.endPiece
  split
  · exact refl s
  · split
    · exact (modRequest _ _ s).trans (countOut _ _ _)
    · exact refl s

theorem setTag (p : Port) (t : Fin 16) (v : TagState) (s : State) : Quiet s (setTag p t v s) := modPort rfl

theorem unsend (p : Port) (t : Fin 16) (s : State) : Quiet s (unsend p t s) := modPort rfl

theorem enqueuePiece (p : Port) (d : Domain) (r : PieceRef) (s : State) : Quiet s (enqueuePiece p d r s) := modPort rfl

theorem dequeuePiece (p : Port) (d : Domain) (r : PieceRef) (s : State) : Quiet s (dequeuePiece p d r s) := modPort rfl

theorem vacate (r : Request) (c : Piece) (s : State) : Quiet s (vacate r c s) := by
  unfold Machine.vacate
  split
  · exact refl s
  · exact dequeuePiece _ _ _ s
  · split
    · exact unsend _ _ s
    · exact refl s
  · split
    · exact setTag _ _ _ s
    · exact refl s
  · exact refl s
  · exact refl s

theorem leaveMeter (r : Request) (s : State) : Quiet s (leaveMeter r s) := by
  unfold Machine.leaveMeter
  split
  · exact refl s
  · exact modMeter _ _ s

theorem endPieces (id : Nat) (f : PieceState → Bool) (st : PieceState) (s : State) : Quiet s (endPieces id f st s) := by
  unfold Machine.endPieces
  split
  · exact refl s
  · exact foldl (fun t c => (vacate _ c t).trans (endPiece _ _ _)) _ s

theorem removeUnsent (id : Nat) (s : State) : Quiet s (removeUnsent id s) := by
  unfold Machine.removeUnsent
  split
  · exact refl s
  · exact (endPieces _ _ _ s).trans (leaveMeter _ _)

theorem finishRequest (id : Nat) (s : State) : Quiet s (finishRequest id s) := by
  unfold Machine.finishRequest
  split
  · exact refl s
  · split
    · dsimp only
      split
      · exact setRequests _ s
      · exact (setRequests _ s).trans (answerTo _ _ _ _ _)
    · exact refl s

/-! ### Meters -/

theorem enterQueued (r : Request) (num : Nat) (s : State) : Quiet s (enterQueued r num s) := by
  unfold Machine.enterQueued
  split
  · exact (setPiece _ _ s).trans (enqueuePiece _ _ _ _)
  · exact (endPiece _ _ s).trans ((removeUnsent _ _).trans (finishRequest _ _))

theorem chargePieces (n : Fin 16) (id : Nat) (nums : List Nat) (s : State) : Quiet s (chargePieces n id nums s).1 := by
  induction nums generalizing s with
  | nil => exact refl s
  | cons num nums ih =>
    unfold Machine.chargePieces
    split
    · exact ih s
    · split
      · split
        · exact (modMeter _ _ s).trans ((enterQueued _ _ _).trans (ih _))
        · exact (modMeter _ _ s).trans ((setFlag _ _ _).trans ((enterQueued _ _ _).trans (ih _)))
        · exact (modMeter _ _ s).trans (setFlag _ _ _)
      · exact ih s

theorem chargeHeads (n : Fin 16) (ids : List Nat) (s : State) : Quiet s (chargeHeads n ids s) := by
  induction ids generalizing s with
  | nil => exact modMeter _ _ s
  | cons id rest ih =>
    unfold Machine.chargeHeads
    dsimp only
    have h := (modMeter n (fun v => { v with waiting := id :: rest }) s).trans
      (chargePieces n id (pieceNums (s.modMeter n (fun v => { v with waiting := id :: rest })) id) _)
    split
    · rename_i e; rw [e] at h; exact h
    · rename_i e; rw [e] at h; exact h.trans (ih _)

theorem evalMeter (n : Fin 16) (s : State) : Quiet s (evalMeter n s) := by
  unfold Machine.evalMeter
  split
  · exact refl s
  · exact (modMeter _ _ s).trans (chargeHeads _ _ _)

theorem evalNewHeads (before s : State) : Quiet s (evalNewHeads before s) := by
  refine foldl (fun t n => ?_) _ s
  split
  · exact refl t
  · exact evalMeter n t

theorem takeOffPost (r : Request) (s : State) : Quiet s (takeOffPost r s) :=
  (endPieces _ _ _ s).trans ((leaveMeter _ _).trans ((setFlag _ _ _).trans (finishRequest _ _)))

theorem joinMeter (n : Fin 16) (r : Request) (s : State) : Quiet s (joinMeter n r s) := by
  unfold Machine.joinMeter
  dsimp only
  split
  · split
    · exact (modMeter _ _ s).trans (evalMeter _ _)
    · exact modMeter _ _ s
  · split
    · exact (endPieces _ _ _ s).trans ((setFlag _ _ _).trans (finishRequest _ _))
    · split
      · exact modMeter _ _ s
      · exact (takeOffPost _ s).trans ((modMeter _ _ _).trans (evalNewHeads _ _))

theorem failPiece (r : PieceRef) (st : PieceStatus) (s : State) : Quiet s (failPiece r st s) :=
  (endPiece _ _ s).trans ((removeUnsent _ _).trans ((evalNewHeads _ _).trans (finishRequest _ _)))

/-! ### Grants, admission and denial -/

theorem grantTag (p : Port) (t : Fin 16) (g : Granted) (s : State) : Quiet s (grantTag p t g s) := by
  unfold Machine.grantTag
  split
  · split
    · exact refl s
    · exact (setTag _ _ _ s).trans (placeOut _ _ _)
  · split
    · exact refl s
    · split
      · exact (setTag _ _ _ s).trans ((setPiece _ _ _).trans (placeOut _ _ _))
      · exact refl s

theorem arbiterGrant (p : Port) (s : State) : Quiet s (arbiterGrant p s) := by
  unfold Machine.arbiterGrant
  split
  · split
    · exact (modPort rfl).trans (grantTag _ _ _ _)
    · exact refl s
    · exact refl s
  · exact refl s

theorem admitRequest (q : Arrival) (e : EntryCopy) (s : State) : Quiet s (admitRequest q e s) := by
  unfold Machine.admitRequest
  split
  · dsimp only
    refine ((setRequests (s.requests ++ [admittedRecord s q e]) s).trans
      (countIn (admittedRecord s q e).unit (admittedRecord s q e).pieces.length _)).trans ?_
    split
    · exact joinMeter _ _ _
    · exact foldl (fun t c => enqueuePiece _ _ _ t) _ _
  · exact answerTo _ _ _ _ s

theorem denyRequest (c : FaultClass) (q : Arrival) (e : Option EntryCopy) (u : Option (Fin 8)) (style : Style) (s : State) :
    Quiet s (denyRequest c q e u style s) := by
  unfold Machine.denyRequest
  split
  · exact (answerTo _ _ _ _ s).trans ((setFlag _ _ _).trans (raiseFault _ _))
  · exact (answerTo _ _ _ _ s).trans ((setFlag _ _ _).trans (raiseFault _ _))

/-! ### Handovers -/

theorem redecideParked (u : Fin 8) (s : State) : Quiet s (redecideParked u s) := by
  refine (modUnit _ _ s).trans (foldl (fun t k => ?_) _ _)
  unfold Machine.redecideOne
  split
  · exact admitRequest _ _ t
  · exact denyRequest _ _ _ _ _ t
  · exact denyRequest _ _ _ _ _ t

theorem sendNotices (a b : Resting) (s : State) : Quiet s (sendNotices a b s) :=
  foldl (fun t d => handCustodyNotice d t) _ s

theorem clearHandover (u : Fin 8) (s : State) : Quiet s (clearHandover u s) := modUnit _ _ s

theorem scrubFail (u : Fin 8) (s : State) : Quiet s (scrubFail u s) :=
  (modUnit _ _ s).trans ((raiseFault _ _).trans ((redecideParked _ _).trans ((sendNotices _ _ _).trans
    ((clearHandover _ _).trans (endCommand _ _ _ _)))))

theorem grantUnit (u : Fin 8) (t : Holding) (s : State) : Quiet s (grantUnit u t s) :=
  (modUnit _ _ s).trans ((redecideParked _ _).trans ((sendNotices _ _ _).trans
    ((clearHandover _ _).trans (endCommand _ _ _ _))))

theorem startSettle (u : Fin 8) (t : Holding) (s : State) : Quiet s (startSettle u t s) := by
  unfold Machine.startSettle
  dsimp only
  split
  · exact (modUnit _ _ s).trans (grantUnit _ _ _)
  · exact (modUnit _ _ s).trans (modUnit _ _ _)

theorem placeStep (u : Fin 8) (p : Port) (n : Nat) (s : State) : Quiet s (placeStep u p n s) :=
  (modUnit _ _ s).trans (modPort rfl)

theorem beginScrub (u : Fin 8) (t : Holding) (s : State) : Quiet s (beginScrub u t s) := by
  unfold Machine.beginScrub
  split
  · exact scrubFail _ s
  · split
    · split
      · exact startSettle _ _ s
      · exact placeStep _ _ _ s
    · exact scrubFail _ s

theorem endDrain (u : Fin 8) (t : Holding) (s : State) : Quiet s (endDrain u t s) :=
  (modUnit _ _ s).trans (beginScrub _ _ _)

theorem beginDue (u : Fin 8) (s : State) : Quiet s (beginDue u s) := by
  unfold Machine.beginDue
  split
  · exact endDrain _ _ s
  · exact refl s

theorem stepDone (u : Fin 8) (s : State) : Quiet s (stepDone u s) := by
  unfold Machine.stepDone
  split
  · split
    · exact startSettle _ _ s
    · exact placeStep _ _ _ s
  · exact refl s

theorem stepFailed (u : Fin 8) (s : State) : Quiet s (stepFailed u s) := by
  unfold Machine.stepFailed
  split
  · exact scrubFail _ s
  all_goals exact refl s

theorem acceptHandover (u : Fin 8) (op : HandoverKind) (start : Resting) (t : Holding) (tag : Fin 4) (s : State) :
    Quiet s (acceptHandover u op start t tag s) := by
  unfold Machine.acceptHandover
  dsimp only
  split
  · exact ((carryCommand _ _ _ s).trans (modUnit _ _ _)).trans (endDrain _ _ _)
  · exact ((carryCommand _ _ _ s).trans (modUnit _ _ _)).trans (modUnit _ _ _)

theorem abortTake (u : Fin 8) (tag : Fin 4) (s : State) : Quiet s (abortTake u tag s) :=
  (modUnit _ _ s).trans ((clearHandover _ _).trans ((endCommand _ _ _ _).trans ((reply _ _ _ _ _).trans (redecideParked _ _))))

end Quiet

end Sys2Proof.Machine
end

