-- ==== Sys2Proof/Laws/Faults.lean ====
section
/-! SUPPORT. What a fault can change: the fault queues, the scores and modes, and FAULT_NOTICEs at the end of outbound queues. -/

namespace Sys2Proof.Machine

open Sys2Proof

/-- `t` is `s` after faults: units, requests, meters and sticky flags are untouched; a port has at most FAULT_NOTICEs more in its
outbound queue, an initiator port's FAULT_NOTICE place may have changed, and a domain's mode, not its style or fill byte. -/
structure FaultOnly (s t : State) : Prop where
  rest   : (t.units, t.requests, t.meters, t.flags) = (s.units, s.requests, s.meters, s.flags)
  port   : ∀ p, ∃ more : List OutPacket, (∀ x ∈ more, x = .notice .fault) ∧
    t.ports.get p = { s.ports.get p with outbound := (s.ports.get p).outbound ++ more }
  init   : ∀ d, ∃ v, t.inits.get d = { s.inits.get d with faultNotice := v }
  domain : ∀ d, ∃ v, t.domains.get d = { s.domains.get d with mode := v }

namespace FaultOnly

theorem refl (s : State) : FaultOnly s s :=
  ⟨rfl, fun _ => ⟨[], by simp, by simp⟩, fun _ => ⟨_, rfl⟩, fun _ => ⟨_, rfl⟩⟩

theorem trans {s t u : State} (h : FaultOnly s t) (g : FaultOnly t u) : FaultOnly s u := by
  refine ⟨g.rest.trans h.rest, fun p => ?_, fun d => ?_, fun d => ?_⟩
  · obtain ⟨m1, h1, e1⟩ := h.port p
    obtain ⟨m2, h2, e2⟩ := g.port p
    refine ⟨m1 ++ m2, ?_, ?_⟩
    · intro x hx
      rcases List.mem_append.mp hx with hx | hx
      · exact h1 x hx
      · exact h2 x hx
    · rw [e2, e1]; simp
  · obtain ⟨v1, e1⟩ := h.init d
    obtain ⟨v2, e2⟩ := g.init d
    exact ⟨v2, by rw [e2, e1]⟩
  · obtain ⟨v1, e1⟩ := h.domain d
    obtain ⟨v2, e2⟩ := g.domain d
    exact ⟨v2, by rw [e2, e1]⟩

theorem units {s t : State} (h : FaultOnly s t) : t.units = s.units := congrArg (fun x => x.1) h.rest

theorem requests {s t : State} (h : FaultOnly s t) : t.requests = s.requests := congrArg (fun x => x.2.1) h.rest

theorem meters {s t : State} (h : FaultOnly s t) : t.meters = s.meters := congrArg (fun x => x.2.2.1) h.rest

theorem flags {s t : State} (h : FaultOnly s t) : t.flags = s.flags := congrArg (fun x => x.2.2.2) h.rest

/-- A change of the fault queues or the scores alone. -/
theorem of_eq {s t : State} (h : (t.units, t.requests, t.meters, t.flags) = (s.units, s.requests, s.meters, s.flags))
    (hp : t.ports = s.ports) (hi : t.inits = s.inits) (hd : t.domains = s.domains) : FaultOnly s t :=
  ⟨h, fun p => ⟨[], by simp, by rw [hp]; simp⟩, fun d => ⟨_, by rw [hi]⟩, fun d => ⟨_, by rw [hd]⟩⟩

theorem setSupQ (q : FaultQueue FullRecord) (s : State) : FaultOnly s (s.setSupQ q) := of_eq rfl rfl rfl rfl

theorem setOwnQ (x : Scored) (q : FaultQueue ReducedRecord) (s : State) : FaultOnly s (s.setOwnQ x q) := of_eq rfl rfl rfl rfl

theorem modScore (x : Scored) (f : ScoreRecord → ScoreRecord) (s : State) : FaultOnly s (s.modScore x f) := of_eq rfl rfl rfl rfl

theorem setMode (d : Domain) (m : Mode) (s : State) : FaultOnly s (s.modDomain d (fun v => { v with mode := m })) := by
  refine ⟨rfl, fun _ => ⟨[], by simp, by simp [State.modDomain]⟩, fun _ => ⟨_, rfl⟩, fun e => ?_⟩
  by_cases h : e = d
  · subst h; exact ⟨m, by simp [State.modDomain]⟩
  · exact ⟨_, by simp [State.modDomain, PerDomain.get_set_other _ _ h]; rfl⟩

theorem handFaultNotice (d : Domain) (s : State) : FaultOnly s (handFaultNotice d s) := by
  unfold Machine.handFaultNotice
  split
  case isFalse => exact refl s
  case isTrue h =>
    unfold placeOut
    rw [if_pos h.1]
    refine ⟨rfl, fun p => ?_, fun e => ?_, fun _ => ⟨_, rfl⟩⟩
    · by_cases hp : p = d.port
      · subst hp
        exact ⟨[.notice .fault], by simp, by simp [State.modPort, State.modInit]⟩
      · exact ⟨[], by simp, by simp [State.modPort, State.modInit, PerPort.get_set_other _ _ hp]⟩
    · by_cases hd : e = d
      · subst hd; exact ⟨.waiting, by simp [State.modPort, State.modInit]⟩
      · exact ⟨_, by simp [State.modPort, State.modInit, PerDomain.get_set_other _ _ hd]; rfl⟩

theorem setArmed (d : Domain) (b : Bool) (s : State) : FaultOnly s (setArmed d b s) := by
  cases d
  · exact setOwnQ _ _ s
  · exact setSupQ _ s
  · exact setOwnQ _ _ s

theorem tellReader (d : Domain) (s : State) : FaultOnly s (tellReader d s) := (setArmed d false s).trans (handFaultNotice d _)

theorem afterPlacing (d : Domain) (n : Nat) (s : State) : FaultOnly s (afterPlacing d n s) := by
  unfold Machine.afterPlacing
  split
  · exact tellReader d s
  · exact refl s

theorem recordFault (e : FaultEvent) (s : State) : FaultOnly s (recordFault e s) := by
  unfold Machine.recordFault
  split
  · split
    · exact (setOwnQ _ _ s).trans (afterPlacing _ _ _)
    · exact (setSupQ _ s).trans (afterPlacing _ _ _)
  · exact refl s

theorem judgeAdvisory (x : Scored) (s : State) : FaultOnly s (judgeAdvisory x s) := by
  unfold Machine.judgeAdvisory
  dsimp only
  split
  · exact refl s
  · split
    · exact modScore _ _ s
    · split
      · exact (modScore _ _ s).trans (recordFault _ _)
      · exact refl s

theorem judgeQuarantine (x : Scored) (s : State) : FaultOnly s (judgeQuarantine x s) := by
  unfold Machine.judgeQuarantine
  dsimp only
  split
  · exact (setMode _ _ s).trans (recordFault _ _)
  · exact refl s

theorem chargeScore (x : Scored) (w : Nat) (s : State) : FaultOnly s (chargeScore x w s) :=
  (modScore _ _ s).trans ((judgeAdvisory x _).trans (judgeQuarantine x _))

theorem raiseFault (e : FaultEvent) (s : State) : FaultOnly s (raiseFault e s) := by
  unfold Machine.raiseFault Machine.chargeFault
  refine (recordFault e s).trans ?_
  split
  · split
    · exact chargeScore _ _ _
    · exact refl _
  · exact refl _

end FaultOnly

end Sys2Proof.Machine
end

