-- ==== Sys2Proof/Laws/Records.lean ====
section
/-! SUPPORT. Finding a request record and a piece by their numbers. -/

namespace Sys2Proof.Machine

open Sys2Proof

/-- A record is found by its number where no other record has it. -/
theorem request_of_mem {s : State} {r : Request} (h : r ∈ s.requests) (hu : ∀ q ∈ s.requests, q.id = r.id → q = r) :
    s.request r.id = some r := by
  unfold State.request
  cases hf : s.requests.find? (fun q => q.id == r.id) with
  | none =>
    have := List.find?_eq_none.mp hf r h
    simp at this
  | some q =>
    have hid : q.id = r.id := by simpa using List.find?_some hf
    rw [hu q (List.mem_of_find?_eq_some hf) hid]

/-- A found record is one of the records and has the number. -/
theorem request_some {s : State} {id : Nat} {r : Request} (h : s.request id = some r) : r ∈ s.requests ∧ r.id = id :=
  ⟨List.mem_of_find?_eq_some h, by simpa using List.find?_some h⟩

/-- A piece is found by its number where no other piece of the record has it. -/
theorem piece_of_mem {r : Request} {c : Piece} (h : c ∈ r.pieces) (hu : ∀ y ∈ r.pieces, y.num = c.num → y = c) :
    r.piece c.num = some c := by
  unfold Request.piece
  cases hf : r.pieces.find? (fun y => y.num == c.num) with
  | none =>
    have := List.find?_eq_none.mp hf c h
    simp at this
  | some y =>
    have hn : y.num = c.num := by simpa using List.find?_some hf
    rw [hu y (List.mem_of_find?_eq_some hf) hn]

/-- With distinct numbers, two records of one number are one record. -/
theorem eq_of_nodup_ids {l : List Request} (h : (l.map (fun r => r.id)).Nodup) {q r : Request} (hq : q ∈ l) (hr : r ∈ l)
    (e : q.id = r.id) : q = r := List.inj_on_of_nodup_map h hq hr e

end Sys2Proof.Machine
end

