-- ==== Sys2Proof/Laws/Table.lean ====
section
/-! SUPPORT. The search of the window table: what the first entry is that a condition picks, and what the match finds. -/

namespace Sys2Proof.Machine

open Sys2Proof

/-- The search picks nothing exactly when the condition holds of no entry. -/
theorem findEntry_eq_none {f : Entry → Bool} {l : List Entry} {i : Nat} :
    findEntry f l i = none ↔ ∀ e ∈ l, f e = false := by
  induction l generalizing i with
  | nil => simp [findEntry]
  | cons x xs ih =>
    cases h : f x <;> simp [findEntry, h, ih]

/-- The search picks the first entry of which the condition holds, with its index. -/
theorem findEntry_eq_some {f : Entry → Bool} {l : List Entry} {i j : Nat} {e : Entry} :
    findEntry f l i = some (j, e) ↔
      ∃ k, j = i + k ∧ l[k]? = some e ∧ f e = true ∧ ∀ m x, m < k → l[m]? = some x → f x = false := by
  induction l generalizing i with
  | nil => simp [findEntry]
  | cons x xs ih =>
    cases h : f x
    · simp only [findEntry, h, Bool.false_eq_true, if_false, ih]
      constructor
      · rintro ⟨k, rfl, hk, he, hm⟩
        refine ⟨k + 1, by omega, by simpa using hk, he, ?_⟩
        intro m y hlt hy
        cases m with
        | zero => simp at hy; exact hy ▸ h
        | succ m => exact hm m y (by omega) (by simpa using hy)
      · rintro ⟨k, rfl, hk, he, hm⟩
        cases k with
        | zero => simp at hk; rw [hk, he] at h; cases h
        | succ k =>
          refine ⟨k, by omega, by simpa using hk, he, ?_⟩
          intro m y hlt hy
          exact hm (m + 1) y (by omega) (by simpa using hy)
    · simp only [findEntry, h, if_true, Option.some.injEq, Prod.mk.injEq]
      constructor
      · rintro ⟨rfl, rfl⟩
        exact ⟨0, rfl, rfl, h, fun m y hlt => absurd hlt (by omega)⟩
      · rintro ⟨k, rfl, hk, he, hm⟩
        cases k with
        | zero => exact ⟨rfl, by simpa using hk⟩
        | succ k =>
          have := hm 0 x (by omega) rfl
          rw [h] at this
          cases this

/-- The entry at an index of a bank, as a list element. -/
theorem bank_getElem? (v : Vector Entry 96) (i : Fin 96) : v.toList[i.1]? = some (v.get i) := by
  simp [Vector.get, Vector.toList]

/-- The condition of the match, as the four conditions of R26. -/
theorem covers_iff {e : Entry} {d : Domain} {mode : Mode} {a : Addr} : e.covers d mode a = true ↔ e.Meets d mode a := by
  unfold Entry.covers Entry.Meets
  cases hv : e.view <;> cases mode <;> simp [View.seen, and_assoc]

/-- No entry is matched exactly when none meets the four conditions (R26, R27). -/
theorem matchEntry_eq_none {s : State} {d : Domain} {a : Addr} :
    matchEntry s d a = none ↔ ∀ i : Fin 96, ¬(s.active.get i).Meets d (s.domain d).mode a := by
  unfold matchEntry
  rw [findEntry_eq_none]
  constructor
  · intro h i hm
    have := h _ (List.mem_of_getElem? (bank_getElem? s.active i))
    rw [covers_iff.mpr hm] at this
    cases this
  · intro h e he
    obtain ⟨k, hk, rfl⟩ := List.mem_iff_getElem.mp he
    have hk' : k < 96 := by simpa using hk
    have := bank_getElem? s.active ⟨k, hk'⟩
    rw [List.getElem?_eq_getElem hk] at this
    rw [Option.some.inj this, ← Bool.not_eq_true, covers_iff]
    exact h _

/-- What the match finds is the matched entry with its index (R26). -/
theorem matchEntry_eq_some {s : State} {d : Domain} {a : Addr} {i : Fin 96} (h : Matched s d a i) :
    matchEntry s d a = some (i.1, s.active.get i) := by
  unfold matchEntry
  rw [findEntry_eq_some]
  refine ⟨i.1, (Nat.zero_add _).symm, bank_getElem? _ _, covers_iff.mpr h.1, ?_⟩
  intro m x hlt hx
  have hm : m < 96 := Nat.lt_trans hlt i.2
  rw [bank_getElem? s.active ⟨m, hm⟩] at hx
  rw [← Option.some.inj hx, ← Bool.not_eq_true, covers_iff]
  exact h.2 ⟨m, hm⟩ hlt

end Sys2Proof.Machine
end

