-- ==== Sys2Proof/Tests/Slice0.lean ====
section
/-! SUPPORT. Tests: what WellFormed refuses, how bytes spell commands, single steps against the spec's own worked examples, and for
each statement with hypotheses a concrete state and operands that meet them. -/

namespace Sys2Proof.Tests

open Sys2Proof Sys2Proof.Machine

/- One theorem at a time: side by side, the tests of this file would start more threads than the check's memory limit allows. -/
set_option Elab.async false

/-! ### WellFormed -/

/-- A known code is not an unknown command (R158, R174). -/
theorem test_wf_unknownCommand_refuses_known : (Instr.unknownCommand .A 0x01 ⟨0, 0, []⟩).wellFormed = false := by decide

theorem test_wf_unknownCommand_accepts_unknown : (Instr.unknownCommand .A 0x99 ⟨0, 0, []⟩).wellFormed = true := by decide

/-- A COMPLETION, or a request on an initiator port, is covered by its own row. -/
theorem test_wf_malformed_refuses_covered :
    (Instr.malformedPacketTaken .A (.completion 0 0 false 1 [])).wellFormed = false ∧
    (Instr.malformedPacketTaken .A (.request .read 0 1 0 [])).wellFormed = false ∧
    (Instr.malformedPacketTaken .K (.event 0 0 false 0 [])).wellFormed = false ∧
    (Instr.malformedPacketTaken .A (.unknown 0x21 [])).wellFormed = false := by decide

theorem test_wf_malformed_accepts_uncovered :
    (Instr.malformedPacketTaken .K (.request .read 0 1 0 [])).wellFormed = true ∧
    (Instr.malformedPacketTaken .S (.unknown 0x77 [])).wellFormed = true := by decide

/-! ### Bytes that spell commands (R169, R174) -/

/-- READ, tag 3, length code 16, address 0x00001000. -/
theorem test_decode_read :
    (decodePacket [0x21, 0x03, 0x10, 0x00, 0x10, 0x00, 0x00]).map (commandOf .A) =
      some (.requestTaken .A .read 3 16 0x1000 []) := by decide

/-- WRITE, tag 31, length code 2, address 0x12345678, two bytes. -/
theorem test_decode_write :
    (decodePacket [0x22, 0x1F, 0x02, 0x78, 0x56, 0x34, 0x12, 0xAA, 0xBB]).map (commandOf .P) =
      some (.requestTaken .P .write 31 2 0x12345678 [0xAA, 0xBB]) := by decide

/-- COMPLETION, target tag 5, status OK, payload present, length code 1. -/
theorem test_decode_completion :
    (decodePacket [0x24, 0x05, 0x00, 0x01, 0x01, 0x7E]).map (commandOf .K) =
      some (.completionTaken .K 5 0 true 1 [0x7E]) := by decide

/-- EVENT on C, code 0x20, payload of one byte. -/
theorem test_decode_event :
    (decodePacket [0x25, 0x00, 0x20, 0x00, 0x01, 0x55]).map (commandOf .C) =
      some (.eventTaken .C 0 0x20 false 1 [0x55]) := by decide

/-- CUSTODY_TAKE (code 0x21) of unit 0 toward PAY under tag 1. -/
theorem test_decode_custodyTake :
    (decodePacket [0x26, 0x01, 0x21, 0x02, 0x00, 0x01]).map (commandOf .P) =
      some (.custodyTake .P ⟨1, 2, [0x00, 0x01]⟩) := by decide

/-- A code that R174 does not list, a request on a port that takes none, and an unknown kind. -/
theorem test_decode_others :
    (decodePacket [0x26, 0x02, 0x66, 0x00]).map (commandOf .A) = some (.unknownCommand .A 0x66 ⟨2, 0, []⟩) ∧
    (decodePacket [0x23, 0x00, 0x01, 0, 0, 0, 0, 9]).map (commandOf .D) =
      some (.malformedPacketTaken .D (.request .post 0 1 0 [9])) ∧
    (decodePacket [0x99, 0x01]).map (commandOf .M) = some (.malformedPacketTaken .M (.unknown 0x99 [0x01])) := by decide

/-! ### States for the tests -/

/-- After a reset, with every link established. -/
def on : State :=
  let up := fun (v : PortState) => { v with link := LinkState.up }
  let q := State.reset.ports
  { State.reset with ports := ⟨up q.a, up q.p, up q.m, up q.k, up q.d, up q.c, up q.s⟩ }

/-- 256 bytes at 0x1000 of every domain, on port K at 0. -/
def entry0 : Entry :=
  { Entry.reset with
    valid := true, domains := ⟨true, true, true⟩, base := 0x1000, size := 16, target := .K, kinds := ⟨true, true, true⟩ }

def windowed (e : Entry) (s : State) : State := { s with active := setAt s.active 0 e }

/-- A unit over the first 256 bytes of port K. -/
def unit0 (st : UnitState) : CustodyUnit :=
  { CustodyUnit.reset with port := some .K, size := 16, state := st }

def withUnit (v : CustodyUnit) (s : State) : State := { s with units := setAt s.units 0 v }

def withMeter (v : Meter) (s : State) : State := { s with meters := setAt s.meters 0 v }

def piece0 (st : PieceState) : Piece :=
  { num := 1, addr := 0, len := 16, state := st, ttag := some 0, deadline := some 50 }

def record0 (kind : Kind) (cs : List Piece) : Request :=
  { id := 0, dom := .app, tag := if kind = .post then none else some 3, kind := kind, addr := 0x1000, len := 16,
    target := .K, taddr := 0, entry := 0, meter := none, unit := none, payload := if kind = .read then [] else List.replicate 16 7,
    burst := .b16, deadline := ⟨50, 0⟩, pieces := cs, outstanding := (cs.filter (fun c => c.state.live)).length, worst := .ok,
    readData := if kind = .read then List.replicate 16 0 else [], abandoned := false }

def withRecords (rs : List Request) (s : State) : State := { s with requests := rs }

/-- Tag 0 of port K in a state. -/
def withTag0 (v : TagState) (s : State) : State :=
  { s with ports := { s.ports with k := { s.ports.k with tags := setAt s.ports.k.tags 0 v } } }

/-- Packets at the head of the outbound queue of K. -/
def withOutK (pkts : List OutPacket) (s : State) : State := { s with ports := { s.ports with k := { s.ports.k with outbound := pkts } } }

/-- A request of APP with one piece in a state, holding tag 0 of port K. -/
def flying (kind : Kind) (st : PieceState) : State :=
  withTag0 (.live (.piece ⟨0, 1⟩)) (withRecords [record0 kind [piece0 st]] on)

def at50 (s : State) : State := { s with gateTime := 50 }

def cmd (ps : List Byte) : MgmtPacket := ⟨1, BitVec.ofNat 8 ps.length, ps⟩

theorem arrives_of {p : Port} {pkt : Packet} {s : State} (h : (s.ports.get p).link = .up ∧ (s.ports.get p).ingress = []) :
    Arrives p pkt s s := ⟨h.1, .inl ⟨h.2, rfl⟩⟩

theorem commandArrives_of {d : Domain} {code : Byte} {m : MgmtPacket} {s : State}
    (h : ((s.ports.get d.port).link = .up ∧ (s.ports.get d.port).ingress = []) ∧ m.params.length = m.declared.toNat ∧
      m.params.length ≤ 64 ∧ ∀ c ∈ (s.inits.get d).commands, c.discard = false → c.tag ≠ m.tag) :
    CommandArrives d code m s s := ⟨arrives_of h.1, h.2.1, h.2.2.1, h.2.2.2⟩

theorem requestArrives_of {d : Domain} {kind : Kind} {tag : Fin 32} {code : Byte} {addr : Addr} {payload : List Byte} {s : State}
    (h : ((s.ports.get d.port).link = .up ∧ (s.ports.get d.port).ingress = []) ∧ (kind = .read → payload = []) ∧
      (kind ≠ .read → payload.length = lengthOfCode code) ∧ (kind ≠ .post → tag ∉ (s.inits.get d).tags)) :
    RequestArrives d kind tag code addr payload s s := ⟨arrives_of h.1, h.2⟩

/-! ### Single steps against the spec -/

/-- After a reset every request ends NO_WINDOW, refused: DENIED, with one record and one charge of 16 (R27, R33, R124). -/
theorem test_requestTaken_after_reset :
    (match exec (.requestTaken .A .read 3 16 0x1000 []) on with
      | .next t => decide (t.ports.a.outbound = [.completion 3 .denied []] ∧ t.supQ.records.length = 1 ∧
          t.scores.app.score = 16 ∧ t.flags.app.denied = true)
      | .fault _ => false
      | .refused _ => false) = true := by decide +kernel

/-- The split of R58: 20 bytes at 0x1F8 toward a port of bursts of 16 are 8 and 12 bytes. -/
theorem test_split_at_boundary :
    (splitRequest .b16 0x1F8 20 .queued).map (fun c => (c.num, c.addr, c.len)) = [(1, 0x1F8, 8), (2, 0x200, 12)] := by
  decide

/-- A written base of 0xFFFF0000 with 0x10000 units is stored with 0x1000 units (R22). -/
theorem test_size_limit : limitSize 0xFFFF0000 0x10000 = 0x1000 ∧ limitSize 0 0 = 0 := by decide

/-- The state bytes of R171: HELD(PAY) and DRAINING toward OPEN. -/
theorem test_state_bytes : (UnitState.held .pay).byte = 0x11 ∧ (UnitState.draining .opened).byte = 0x32 := by decide

/-- DOMAIN_SET from P stores the style and the fill byte and reports them (R164). -/
theorem test_domainSet :
    (match exec (.domainSet .P (cmd [0, 1, 0x5A])) on with
      | .next t => decide (t.domains.app = ⟨.normal, .mask, 0x5A⟩ ∧ t.ports.p.outbound = [.reply 1 .ok [0, 1, 0x5A]])
      | .fault _ => false
      | .refused _ => false) = true := by decide +kernel

/-- An event on C goes to PAY after a reset, under the port's own index (R18, R115). -/
theorem test_eventTaken_route :
    (match exec (.eventTaken .C 0 0x20 true 0 []) on with
      | .next t => decide (t.ports.p.outbound = [.event 5 0x20 false []] ∧ t.inits.pay.eventCount = 1)
      | .fault _ => false
      | .refused _ => false) = true := by decide +kernel

/-- A take of an idle unit with no script and no settle delay ends at once: its reply is OK, HELD(APP) (R96, R99, R103, R105). -/
theorem test_custodyTake_at_once :
    (match exec (.custodyTake .P (cmd [0, 0])) (withUnit (unit0 .opened) on) with
      | .next t => decide ((t.units.get 0).state = .held .app ∧ t.ports.p.outbound.contains (.reply 1 .ok [0, 0x01, 0, 0, 0]) = true ∧
          t.ports.m.outbound = [.notice .custody])
      | .fault _ => false
      | .refused _ => false) = true := by decide +kernel

/-- Port A with `n` packets held and two at its sender. -/
def holdingA (n : Nat) : State :=
  { on with
    ports := { on.ports with a := { on.ports.a with ingress := List.replicate n (.unknown 0x99 []) } }
    wire := { on.wire with a := [.unknown 0x77 [], .unknown 0x78 []] } }

/-- The eighth packet enters the ingress buffer, a ninth stays with its sender, and on an empty queue the first held is taken (R6). -/
theorem test_arrive_eight_places :
    ((arrive .A (holdingA 7)).ports.a.ingress.length = 8 ∧ (arrive .A (holdingA 7)).wire.a = [.unknown 0x78 []]) ∧
    arrive .A (holdingA 8) = holdingA 8 ∧
    (match step (holdingA 8) with
      | .next t => decide (t.ports.a.ingress.length = 7 ∧ t.supQ.records.length = 1)
      | .fault _ => false
      | .refused _ => false) = true := by decide +kernel

/-- A COMPLETION under initiator tag 31 (R169). -/
theorem test_completion_bytes : (OutPacket.completion 31 .timeout []).bytes = [0x24, 31, 3, 0, 0] := by decide

/-! ### Witnesses of hypotheses

For each statement with hypotheses, `witness_<statement>` gives a concrete state and operands that meet all of them together, one
conjunct for each clause. -/

theorem witness_StepTakesFrontCommand :
    ({ on with pending := [.status .P (cmd []), .powerOn] } : State).pending = .status .P (cmd []) :: [.powerOn] := rfl

/-- A packet that can arrive at A, with the last place; a ninth, which cannot; a unit whose drain has ended; and the state right after
reset, where nothing is due. -/
theorem witness_IdleStepDoesWhatIsDue :
    ((holdingA 7).pending = [] ∧ ((holdingA 7).ports.get .A).link = .up ∧ ((holdingA 7).ports.get .A).ingress.length < 8 ∧
      (holdingA 7).wire.get .A = .unknown 0x77 [] :: [.unknown 0x78 []] ∧ ∀ q : Port, ¬q.index < Port.index .A) ∧
    ((holdingA 8).pending = [] ∧ arrivals (holdingA 8) = [] ∧ dueEvents (holdingA 8) = [.malformedPacketTaken .A (.unknown 0x99 [])]) ∧
    ((withUnit (unit0 (.draining .opened)) on).pending = [] ∧ dueEvents (withUnit (unit0 (.draining .opened)) on) = [.drainEnd 0]) ∧
    (State.reset.pending = [] ∧ ∀ p : Port, State.reset.wire.get p = []) ∧ dueEvents State.reset = [] := by
  refine ⟨⟨by decide +kernel, by decide +kernel, by decide +kernel, by decide +kernel, fun q => Nat.not_lt_zero _⟩, by decide +kernel,
    by decide +kernel, ⟨by decide +kernel, fun p => by cases p <;> rfl⟩, by decide +kernel⟩

/-- A state with a request of APP in flight through a held unit, a pinned bound entry, a meter with a waiting request, a validation
that runs and records in the queues. -/
def busy : State :=
  { withUnit { unit0 (.held .app) with inFlight := 1 } on with
    gateTime := 300
    ports := { on.ports with a := { on.ports.a with outbound := List.replicate 8 (.event 3 9 false []) } }
    active := setAt on.active 0 { entry0 with unit := some 0, meter := some 0, pinned := true }
    requests := [{ record0 .read [{ piece0 .charging with ttag := none, deadline := none }] with unit := some 0, meter := some 0 }]
    meters := setAt on.meters 0 { rate := 1, depth := 2, credit := 0, last := 300, waiting := [0], release := some 812 }
    inits := { on.inits with
      app := { on.inits.app with tags := [3], gap := true, eventCount := 8 }
      pay := { on.inits.pay with commands := [⟨0, 0x13, false, some .commit⟩] } }
    commit := some ⟨0, 100⟩
    scores := { on.scores with app := { on.scores.app with score := 16 } }
    supQ := { on.supQ with records := [⟨0, 7, deniedCommand .app 0 0x44⟩], counter := 1 } }

/-- The step of `busy`: a microsecond passes. -/
theorem busy_steps : step busy = .next (tick busy) := by rfl

theorem busy_time : busy.TimeLaw := by
  refine ⟨by decide, fun c hc => ?_⟩
  cases hc
  decide

theorem busy_faultUnit : busy.QueueLaw ∧ busy.ScoreLaw ∧ busy.ControlLaw := by
  refine ⟨by unfold State.QueueLaw; decide +kernel, by unfold State.ScoreLaw; decide +kernel, fun c => ?_⟩
  cases c <;> decide +kernel

theorem busy_meter : busy.MeterLaw := by unfold State.MeterLaw; decide +kernel

theorem busy_waiting : busy.WaitingLaw := by unfold State.WaitingLaw; decide +kernel

theorem busy_parked : busy.ParkedLaw := by unfold State.ParkedLaw; decide +kernel

theorem busy_banks : busy.EntryLaw ∧ busy.PinLaw := by
  unfold State.EntryLaw State.PinLaw Entry.Stored
  decide +kernel

theorem busy_gap : busy.GapLaw := by unfold State.GapLaw; decide +kernel

theorem busy_active : busy.ActiveLaw := by
  intro i hv
  have hi : i = 0 := by revert i; decide +kernel
  subst hi
  refine ⟨fun d => by cases d <;> decide +kernel, by decide +kernel, fun n hn => ?_, by decide +kernel⟩
  have h0 : (busy.active.get 0).meter = some 0 := by decide +kernel
  rw [h0] at hn
  cases hn
  decide +kernel

theorem busy_definitions : busy.DefinitionLaw := by
  refine ⟨by decide +kernel, fun u p h => ?_, fun u v p hne hu hv => ?_⟩
  · have hz : ∀ w : Fin 8, (busy.units.get w).port ≠ none → w = 0 := by decide +kernel
    have hu : u = 0 := hz u (by rw [h]; exact Option.some_ne_none p)
    subst hu
    have hp : (busy.units.get 0).port = some .K := by decide +kernel
    rw [hp] at h
    cases h
    exact ⟨by decide +kernel, by decide +kernel, by decide +kernel, by decide +kernel⟩
  · have hz : ∀ w : Fin 8, (busy.units.get w).port = some p → w = 0 := by
      have : ∀ w : Fin 8, (busy.units.get w).port ≠ none → w = 0 := by decide +kernel
      exact fun w hw => this w (by rw [hw]; exact Option.some_ne_none p)
    exact absurd ((hz u hu).trans (hz v hv).symm) hne

theorem busy_custody : busy.CustodyLaw := by
  have hs : ∀ u : Fin 8, (busy.units.get u).state = .held .app ∨ (busy.units.get u).state = .opened := by decide +kernel
  intro u
  refine ⟨by revert u; decide +kernel, by revert u; decide +kernel, by revert u; decide +kernel, fun t h => ?_, fun h => ?_,
    by revert u; decide +kernel, by revert u; decide +kernel⟩ <;> rcases hs u with e | e <;> rw [e] at h <;> cases h

theorem busy_count : busy.CountLaw := by unfold State.CountLaw State.livePieces Request.livePieces; decide +kernel

theorem busy_holder : busy.HolderLaw := by
  have hs : ∀ u : Fin 8, (busy.units.get u).state = .held .app ∨ (busy.units.get u).state = .opened := by decide +kernel
  have hd : ∀ r ∈ busy.requests, r.dom = .app := by decide +kernel
  refine fun u h => ⟨fun e r hr _ _ => ?_, fun t e => ?_⟩
  · rcases hs u with e' | e' <;> rw [e'] at e <;> cases e
    exact hd r hr
  · rcases hs u with e' | e' <;> rw [e'] at e <;> cases e

theorem busy_initiators : busy.EventLaw ∧ busy.TagLaw := by
  constructor <;> intro d <;> cases d <;> decide +kernel

/-- A READ of APP with a SENT, a GRANTED and a QUEUED piece toward K, an answer, an event and a gate event at A, a reply at P, and a full
ingress buffer at M. -/
def traffic : State :=
  { withTag0 (.live (.piece ⟨0, 1⟩)) (withRecords
      [record0 .read [piece0 .sent, { piece0 .granted with num := 2, addr := 16, ttag := some 1 },
        { num := 3, addr := 32, len := 16, state := .queued, ttag := none, deadline := none }]] on) with
    ports :=
      { on.ports with
        a := { on.ports.a with outbound := [.completion 4 .ok [], .event 3 9 false [], .notice .fault] }
        p := { on.ports.p with outbound := [.reply 1 .ok []] }
        m := { on.ports.m with ingress := List.replicate 8 (.unknown 0x99 []) }
        k := { on.ports.k with
          outbound := [.request 1 .read 16 16 []]
          tags := setAt (setAt on.ports.k.tags 0 (.live (.piece ⟨0, 1⟩))) 1 (.live (.piece ⟨0, 2⟩))
          arbiter := ⟨[], [], [⟨0, 3⟩], [], .app⟩ } }
    inits := { on.inits with
      app := { on.inits.app with tags := [3, 4], eventCount := 1, faultNotice := .waiting }
      pay := { on.inits.pay with commands := [⟨1, 0x44, false, none⟩] } }
    pending := [.pieceLeaves .K] }

theorem traffic_steps : ∃ t, step traffic = .next t := ⟨_, rfl⟩

theorem traffic_count : traffic.CountLaw := by unfold State.CountLaw State.livePieces Request.livePieces; decide +kernel

theorem traffic_target : traffic.TargetLaw := by
  have named : ∀ (p : Port) (t : Fin 16), (match (traffic.ports.get p).tags.get t with
      | .live (.piece ref) => decide (∃ r ∈ traffic.requests, ∃ c ∈ r.pieces,
          ref = ⟨r.id, c.num⟩ ∧ r.target = p ∧ c.ttag = some t ∧ (c.state = .granted ∨ c.state = .sent))
      | _ => true) = true := by
    intro p; cases p <;> decide +kernel
  refine ⟨fun p d => ?_, by decide +kernel, fun p t ref h => ?_, fun p => ⟨?_, fun t ht => .inr ?_⟩⟩
  · cases p <;> cases d <;> decide +kernel
  · have hn := named p t
    rw [h] at hn
    exact of_decide_eq_true hn
  · cases p <;> decide +kernel
  · have : ∀ p : Port, ∀ t ∈ requestTags (traffic.ports.get p).outbound, ∃ r ∈ traffic.requests, ∃ c ∈ r.pieces,
        (traffic.ports.get p).tags.get t = .live (.piece ⟨r.id, c.num⟩) ∧ c.state = .granted := by
      intro p; cases p <;> decide +kernel
    exact this p t ht

theorem traffic_outbound : traffic.OutboundLaw := by
  refine ⟨fun p h => ?_, fun p h pkt hp => ?_, fun d => ?_⟩
  · cases p <;> exact absurd (by decide +kernel) h
  · have all : ∀ p : Port, p.domain = none → ∀ x ∈ (traffic.ports.get p).outbound,
        (match x with | .request .. => true | _ => false) = true := by
      intro p; cases p <;> decide +kernel
    have hx := all p h pkt hp
    cases pkt <;> first | exact ⟨_, _, _, _, _, rfl⟩ | cases hx
  · cases d <;> decide +kernel

/-- The hypotheses of the three clauses of EveryStepKeepsInitiatorLaw. -/
theorem witness_EveryStepKeepsInitiatorLaw :
    (∃ t, step traffic = .next t) ∧ (traffic.EventLaw ∧ traffic.TagLaw ∧ traffic.CountLaw ∧ traffic.TargetLaw ∧ traffic.OutboundLaw) ∧
    traffic.IngressLaw := by
  refine ⟨traffic_steps, ⟨fun d => ?_, fun d => ?_, traffic_count, traffic_target, traffic_outbound⟩, fun p => ⟨?_, fun h => ?_⟩⟩
  · cases d <;> decide +kernel
  · cases d <;> decide +kernel
  · cases p <;> decide +kernel
  · cases p <;> exact absurd (by decide +kernel) h

/-- The laws of one state hold of `busy`, which has a next state: the hypotheses of the statements EveryStepKeeps…. -/
theorem witness_EveryStepKeepsTheLaws :
    (busy.TimeLaw ∧ busy.QueueLaw ∧ busy.ScoreLaw ∧ busy.ControlLaw ∧ busy.MeterLaw ∧ busy.EntryLaw ∧ busy.PinLaw ∧
      busy.GapLaw ∧ busy.ActiveLaw ∧ busy.DefinitionLaw ∧ busy.CustodyLaw ∧ busy.CountLaw ∧ busy.WaitingLaw ∧ busy.ParkedLaw ∧
      busy.HolderLaw ∧ busy.EventLaw ∧ busy.TagLaw) ∧ step busy = .next (tick busy) :=
  ⟨⟨busy_time, busy_faultUnit.1, busy_faultUnit.2.1, busy_faultUnit.2.2, busy_meter, busy_banks.1, busy_banks.2, busy_gap,
    busy_active, busy_definitions, busy_custody, busy_count, busy_waiting, busy_parked, busy_holder,
    busy_initiators.1, busy_initiators.2⟩, busy_steps⟩

theorem witness_PinnedEntriesKeepTheirContents :
    (busy.active.get 0).pinned = true ∧ step busy = .next (tick busy) := ⟨by decide +kernel, busy_steps⟩

/-- Its three clauses are alternatives of one conclusion; a step that commits is one of them. -/
theorem witness_GenerationChangesOnlyAtCommit :
    ∃ t, step { on with commit := some ⟨0, 0⟩, gateTime := 5, pending := [.validationEnd] } = .next t ∧ t.generation = 1 :=
  ⟨_, rfl, by decide +kernel⟩

theorem witness_PieceCostIsHeaderPlusBlocks :
    (1 ≤ 16 ∧ 16 ≤ 256) ∧ (0x1000 : Addr).toNat % 256 = 0 ∧ (0x1010 : Addr).toNat % 16 = 0 ∧ (0x1008 : Addr).toNat % 16 ≠ 0 := by
  decide

theorem witness_SplitCutsAtBurstBoundaries : 1 ≤ 256 ∧ 256 ≤ 256 ∧ (0xFFFFFF00 : Addr).toNat + 256 ≤ 2 ^ 32 := by decide

theorem witness_RefillIsIndependentOfItsMoments :
    (⟨3, 2, 512, 10, [], none⟩ : Meter).credit ≤ 256 * (⟨3, 2, 512, 10, [], none⟩ : Meter).depth ∧
    (⟨3, 2, 512, 10, [], none⟩ : Meter).last ≤ 10 ∧ 10 ≤ 11 := by
  decide

/-- One record that decays and one that does not. -/
theorem witness_DecayIsIndependentOfItsMoments :
    ((⟨9, 0, 0, 2, ⟨5, 0⟩, 10, true⟩ : ScoreRecord).lastDecay ≤ 15 ∧ 15 ≤ 30 ∧
      (⟨9, 0, 0, 2, ⟨5, 0⟩, 10, true⟩ : ScoreRecord).interval.value ≠ 0) ∧
    (⟨9, 0, 0, 2, ⟨0, 0⟩, 10, true⟩ : ScoreRecord).interval.value = 0 := by
  decide

/-- An entry up to the end of the address space, and an image whose size is limited. -/
def entryTop : Entry := { entry0 with base := 0xFFFF0000, size := 0x1000 }

theorem witness_EntryImageReadsBack :
    entryTop.Stored ∧
    entryOfImage ({ entryTop with size := 0x10000 }.image 0) true = some { entryTop with pinned := true } ∧
    2 ^ 32 < entryTop.base.toNat + sizeBytes (BitVec.ofNat 28 (fieldAt ({ entryTop with size := 0x10000 }.image 0) 11 4)) := by
  refine ⟨⟨by decide +kernel, by decide +kernel, by decide +kernel⟩, by decide +kernel, by decide +kernel⟩

/-- A recorded and a not recorded class, a full and an empty queue, undelegated and delegated. -/
def kindFault : FaultEvent := { portFault .kind 0 none none 0 with dom := some .app }

def delegating (s : State) : State := s.setMask .app .kind true

def fullSup : State := { on with supQ := { on.supQ with records := List.replicate 32 ⟨0, 0, kindFault⟩ } }

def fullOwn : State :=
  { delegating on with
    ownQ := { on.ownQ with app := { on.ownQ.app with records := List.replicate 16 (kindFault.reduced 0 0) } } }

theorem witness_RecordIsPlacedInItsQueue :
    (((on.setControl .kind ⟨false, 0⟩).control kindFault.cls).record = false) ∧
    ((on.control kindFault.cls).record = true ∧
      (∀ x : Scored, kindFault.dom = some x.domain → (on.masks.get x).get kindFault.cls.index = false) ∧
      on.supQ.records.length < 32) ∧
    ((fullSup.control kindFault.cls).record = true ∧
      (∀ x : Scored, kindFault.dom = some x.domain → (fullSup.masks.get x).get kindFault.cls.index = false) ∧
      32 ≤ fullSup.supQ.records.length) ∧
    (((delegating on).control kindFault.cls).record = true ∧ kindFault.dom = some Scored.app.domain ∧
      ((delegating on).masks.get .app).get kindFault.cls.index = true ∧ kindFault.cls.delegable = true ∧
      ((delegating on).ownQ.get .app).records.length < 16) ∧
    ((fullOwn.control kindFault.cls).record = true ∧ (fullOwn.masks.get .app).get kindFault.cls.index = true ∧
      16 ≤ (fullOwn.ownQ.get .app).records.length) :=
  ⟨by decide +kernel, ⟨by decide +kernel, fun x => by cases x <;> decide +kernel, by decide +kernel⟩,
    ⟨by decide +kernel, fun x => by cases x <;> decide +kernel, by decide +kernel⟩, by decide +kernel, by decide +kernel⟩

def noticed (f : FaultPlace) (c : CustodyPlace) (s : State) : State :=
  { s with inits := { s.inits with app := { s.inits.app with faultNotice := f, custodyNotice := c } } }

theorem witness_GateEventsHaveOnePlace :
    ((on.port Domain.app.port).link = .up ∧ (on.init .app).faultNotice = .empty ∧ (on.init .app).custodyNotice = .empty) ∧
    (((noticed .waiting .waiting on).port Domain.app.port).link = .up ∧ ((noticed .waiting .waiting on).init .app).faultNotice = .waiting ∧
      ((noticed .waiting .waiting on).init .app).custodyNotice = .waiting) ∧
    ((State.reset.port Domain.app.port).link ≠ .up ∧ (State.reset.init .app).custodyNotice = .empty) ∧
    (((noticed .empty .held State.reset).port Domain.app.port).link ≠ .up ∧
      ((noticed .empty .held State.reset).init .app).custodyNotice = .held) := by
  decide +kernel

def guarded : State := { on with scores := { on.scores with app := { ScoreRecord.reset with quarantine := 10 } } }

/-- A charge that reaches a quarantine threshold of 10, and one that does not; a fault that charges, and one that does not. -/
theorem witness_FaultChargesAndJudges :
    (kindFault.dom = some Scored.app.domain ∧ kindFault.cls.chargeable = true ∧ (on.control kindFault.cls).weight ≠ 0) ∧
    (linkDownFault .K 0).dom = none ∧
    (((guarded.scores.get .app).decay 0).quarantine ≠ 0 ∧
      ((guarded.scores.get .app).decay 0).quarantine.toNat ≤ min 65535 (((guarded.scores.get .app).decay 0).score + 16) ∧
      (guarded.domain Scored.app.domain).mode = .normal) ∧
    ¬(((on.scores.get .app).decay on.gateTime).quarantine ≠ 0) := by
  decide +kernel

/-! Resets and links. -/

theorem witness_PartResetLeavesResetValues : CommandArrives .pay 0x52 (cmd []) on on ∧ (cmd []).params = [] :=
  ⟨commandArrives_of (by decide +kernel), rfl⟩

def linkOf (p : Port) (l : LinkState) (est : Bool) (hold : Option Nat) (s : State) : State :=
  { s with ports := s.ports.set p { s.ports.get p with link := l, established := est, hold := hold } }

theorem witness_EstablishedLinkBringsPortUp :
    ((State.reset.ports.get .K).link = .down ∧ Port.K.domain = none) ∧ ((State.reset.ports.get .M).link = .down ∧ Port.M = Domain.rad.port) ∧
    (on.ports.get .K).link = .up ∧ ((linkOf .K .resetting false (some 100) on).ports.get .K).link = .resetting := by
  decide +kernel

theorem witness_PortResetEmptiesThePort :
    ((busy.ports.get .A).link = .up ∧ (State.reset.ports.get .A).link = .down ∧
      ((linkOf .A .resetting true (some 100) on).ports.get .A).link = .resetting) ∧
    (CommandArrives .pay 0x51 (cmd [3]) busy busy ∧ (cmd [3]).params = [Port.K.byte] ∧ Port.K ≠ .P ∧
      (busy.ports.get .K).link ≠ .resetting) ∧
    (CommandArrives .pay 0x51 (cmd [3]) (linkOf .K .resetting false none on) (linkOf .K .resetting false none on) ∧
      ((linkOf .K .resetting false none on).ports.get .K).link = .resetting) ∧
    (CommandArrives .pay 0x51 (cmd [1]) on on ∧ (cmd [1]).params = [Port.P.byte]) :=
  ⟨by decide +kernel, ⟨commandArrives_of (by decide +kernel), by decide +kernel⟩,
    ⟨commandArrives_of (by decide +kernel), by decide +kernel⟩, commandArrives_of (by decide +kernel), by decide +kernel⟩

/-- A hold of K that expires at `e`, at 50 µs. -/
def holding (est : Bool) (e : Nat) : State := at50 (linkOf .K .resetting est (some e) on)

/-- A hold that expires now, with and without the link established, and one that has 1 µs to go. -/
theorem witness_HoldExpiryEndsReset :
    (((holding true 50).ports.get .K).link = .resetting ∧ ((holding true 50).ports.get .K).hold = some 50 ∧
      50 ≤ (holding true 50).gateTime ∧ ((holding true 50).ports.get .K).established = true) ∧
    (((holding false 50).ports.get .K).link = .resetting ∧ ((holding false 50).ports.get .K).hold = some 50 ∧
      50 ≤ (holding false 50).gateTime ∧ ((holding false 50).ports.get .K).established = false) ∧
    (((holding false 51).ports.get .K).link = .resetting ∧ ((holding false 51).ports.get .K).hold = some 51 ∧
      (holding false 51).gateTime < 51) := by
  decide +kernel

theorem witness_GateTimeHoldsAtLargestValue :
    quietUntil on (2 ^ 48 - 1) = true ∧ quietUntil busy (2 ^ 48 - 1) = false := by
  decide +kernel

/-! Requests. -/

/-- With entry 0 over 0x1000 to 0x10FF of every domain, the entry is the match of 0x1000 and of 0x10F8. -/
theorem matched_of {e : Entry} {s : State} {d : Domain} {a : Addr} (h : ((windowed e s).active.get 0) = e)
    (hm : e.valid = true ∧ e.domains.has d = true ∧
      (e.view = .both ∨ ((s.domain d).mode = .normal ∧ e.view = .normal) ∨ ((s.domain d).mode = .quarantined ∧ e.view = .quarantine)) ∧
      e.base.toNat ≤ a.toNat ∧ a.toNat < e.base.toNat + sizeBytes e.size) : Matched (windowed e s) d a 0 := by
  refine ⟨?_, fun j hj => absurd hj (Fin.not_lt_zero j)⟩
  rw [h]
  exact hm

theorem witness_RequestWithoutAccessIsDenied :
    (RequestArrives .app .read 3 16 0x1000 [] on on ∧ ∀ i : Fin 96, ¬(on.active.get i).Meets .app (on.domains.get .app).mode 0x1000) ∧
    (RequestArrives .rad .read 3 16 0x10F8 [] (windowed entry0 on) (windowed entry0 on) ∧ Matched (windowed entry0 on) .rad 0x10F8 0 ∧
      entry0.base.toNat + sizeBytes entry0.size < (0x10F8 : Addr).toNat + lengthOfCode 16) ∧
    (let e := { entry0 with kinds := ⟨false, true, true⟩ };
      RequestArrives .app .read 3 16 0x10F0 [] (windowed e on) (windowed e on) ∧ Matched (windowed e on) .app 0x10F0 0 ∧
      (0x10F0 : Addr).toNat + lengthOfCode 16 ≤ e.base.toNat + sizeBytes e.size ∧ e.kinds.has .read = false) ∧
    (RequestArrives .pay .post 0 1 0 [9] on on ∧ postCount on .pay < 16) := by
  refine ⟨⟨requestArrives_of (by decide +kernel), fun i h => ?_⟩,
    ⟨requestArrives_of (by decide +kernel), matched_of (by decide +kernel) (by decide +kernel), by decide +kernel⟩,
    ⟨requestArrives_of (by decide +kernel), matched_of (by decide +kernel) (by decide +kernel), by decide +kernel⟩,
    requestArrives_of (by decide +kernel), by decide +kernel⟩
  have hv : ∀ i : Fin 96, (on.active.get i).valid = false := by decide +kernel
  exact absurd h.1 (by rw [hv i]; decide)

/-- Entry 0 bound to unit 0, which is in `st` with `n` pieces in flight and `k` requests parked. -/
def bound (st : UnitState) (n k : Nat) : State :=
  windowed { entry0 with unit := some 0 }
    (withUnit
      { unit0 st with
        inFlight := n, parked := List.replicate k ⟨⟨.app, some 9, .read, 0x1000, 1, []⟩, ⟨0, 0x1000, .K, 0, none, some 0⟩⟩ } on)

theorem bound_arrives (st : UnitState) (n k : Nat) :
    RequestArrives .app .read 3 16 0x1000 [] (bound st n k) (bound st n k) ∧ Matched (bound st n k) .app 0x1000 0 ∧
    ((bound st n k).active.get 0).Allows .read 0x1000 (lengthOfCode 16) ∧ ((bound st n k).active.get 0).unit = some 0 := by
  have h : (bound st n k).active.get 0 = { entry0 with unit := some 0 } := by rfl
  refine ⟨requestArrives_of ⟨⟨rfl, rfl⟩, fun _ => rfl, fun h => absurd rfl h, fun _ => List.not_mem_nil⟩,
    matched_of h ⟨rfl, rfl, .inr (.inl ⟨rfl, rfl⟩), by decide, by decide⟩, ?_, by rw [h]⟩
  rw [h]
  exact ⟨by decide, by decide⟩

/-- Unbound, and bound with the last place of the in-flight count. -/
theorem witness_UnmeteredRequestIsAdmitted :
    (RequestArrives .app .read 3 16 0x1000 [] (windowed entry0 on) (windowed entry0 on) ∧ Matched (windowed entry0 on) .app 0x1000 0 ∧
      entry0.Allows .read 0x1000 (lengthOfCode 16) ∧ entry0.meter = none ∧ ((windowed entry0 on).ports.get .K).link = .up ∧
      entry0.unit = none) ∧
    (((bound .opened 1631 0).active.get 0).meter = none ∧ ((bound .opened 1631 0).units.get 0).state.Admits .app ∧
      ((bound .opened 1631 0).units.get 0).inFlight
        + (splitRequest ((bound .opened 1631 0).ports.get .K).config.maxBurst 0 16 .queued).length ≤ 1632) :=
  ⟨⟨requestArrives_of (by decide +kernel), matched_of (by decide +kernel) (by decide +kernel), ⟨by decide, by decide⟩,
    by decide +kernel⟩, by decide +kernel, .inl rfl, by decide +kernel⟩

/-- The sixteenth POST; a parked list with its last place and a full one; a unit that lets no one in; a full count; a port DOWN. -/
theorem witness_RequestMeetsItsUnitAndPort :
    (RequestArrives .app .post 0 1 0 [9] (withRecords (List.replicate 16 (record0 .post [])) on)
        (withRecords (List.replicate 16 (record0 .post [])) on) ∧
      16 ≤ postCount (withRecords (List.replicate 16 (record0 .post [])) on) .app) ∧
    (((bound (.draining (.held .app)) 1 95).units.get 0).state.Parks .app ∧
      ((bound (.draining (.held .app)) 1 95).units.get 0).parked.length < 96) ∧
    (((bound (.scrubbing .opened) 0 96).units.get 0).state.Parks .app ∧ 96 ≤ ((bound (.scrubbing .opened) 0 96).units.get 0).parked.length) ∧
    (¬((bound (.held .pay) 0 0).units.get 0).state.Admits .app ∧ ¬((bound (.held .pay) 0 0).units.get 0).state.Parks .app) ∧
    (((bound .opened 1632 0).units.get 0).state.Admits .app ∧
      1632 < ((bound .opened 1632 0).units.get 0).inFlight
        + (splitRequest ((bound .opened 1632 0).ports.get .K).config.maxBurst 0 16 .queued).length) ∧
    (RequestArrives .app .read 3 16 0x1000 [] (linkOf .K .down false none (windowed entry0 on)) (linkOf .K .down false none (windowed entry0 on)) ∧
      Matched (linkOf .K .down false none (windowed entry0 on)) .app 0x1000 0 ∧
      ((linkOf .K .down false none (windowed entry0 on)).ports.get .K).link ≠ .up) := by
  refine ⟨⟨requestArrives_of (by decide +kernel), by decide +kernel⟩, ⟨⟨.held .app, .inl rfl, .inr rfl⟩, by decide +kernel⟩,
    ⟨⟨.opened, .inr rfl, .inl rfl⟩, by decide +kernel⟩, ⟨?_, ?_⟩, ⟨.inl rfl, by decide +kernel⟩,
    requestArrives_of (by decide +kernel), matched_of (s := linkOf .K .down false none on) (by decide +kernel) (by decide +kernel),
    by decide +kernel⟩
  · rintro (h | h) <;> exact absurd h (by decide +kernel)
  · rintro ⟨t, h | h, _⟩ <;> cases h

/-- Entry 0 through meter 0, whose list is `ids`, with the records `rs`. -/
def metered (ids : List Nat) (rs : List Request) : State :=
  windowed { entry0 with meter := some 0 } (withRecords rs (withMeter { Meter.reset with rate := 1, waiting := ids } on))

theorem metered_arrives (ids : List Nat) (rs : List Request) :
    RequestArrives .app .read 3 16 0x1000 [] (metered ids rs) (metered ids rs) ∧ Matched (metered ids rs) .app 0x1000 0 ∧
    ((metered ids rs).active.get 0).Allows .read 0x1000 (lengthOfCode 16) ∧ ((metered ids rs).active.get 0).meter = some 0 ∧
    ((metered ids rs).active.get 0).unit = none ∧ ((metered ids rs).ports.get .K).link = .up := by
  have h : (metered ids rs).active.get 0 = { entry0 with meter := some 0 } := by rfl
  refine ⟨requestArrives_of ⟨⟨rfl, rfl⟩, fun _ => rfl, fun h => absurd rfl h, fun _ => List.not_mem_nil⟩,
    matched_of h ⟨rfl, rfl, .inr (.inl ⟨rfl, rfl⟩), by decide, by decide⟩, ?_, by rw [h], by rw [h]; rfl, rfl⟩
  rw [h]
  exact ⟨by decide, by decide⟩

def piece2 : Piece := { num := 2, addr := 16, len := 16, state := .queued, ttag := none, deadline := none }

/-- A waiting POST, unbound, that nothing has been charged for. -/
def waitingPost : Request :=
  { record0 .post [{ piece0 .charging with ttag := none, deadline := none }] with id := 1, meter := some 0 }

def fullList : List Nat := 0 :: 1 :: List.range' 2 94

/-- A POST of unit 0 with one piece charged and QUEUED and one CHARGING. -/
def partlyCharged : Request :=
  { record0 .post [{ piece2 with num := 1 }, { piece2 with state := .charging }] with id := 1, meter := some 0, unit := some 0 }

/-- Meter 0 with a full list: `before`, the POST above, and WRITEs. -/
def fullBound (before : List Nat) : State :=
  let ids := List.range' 2 (95 - before.length)
  withUnit { unit0 (.held .app) with inFlight := 2 } (metered (before ++ 1 :: ids)
    (partlyCharged :: (before ++ ids).map (fun n =>
      { record0 .write [{ piece0 .charging with ttag := none, deadline := none }] with id := n, meter := some 0 })))

/-- The last clause: the last POST is bound and partly charged, the head of the list or behind another. -/
theorem witness_MeteredRequestJoinsItsList_general (before : List Nat) (hb : before = [] ∨ before = [0]) :
    (RequestArrives .app .read 3 16 0x1000 [] (fullBound before) (fullBound before) ∧ Matched (fullBound before) .app 0x1000 0 ∧
      ((fullBound before).active.get 0).Allows .read 0x1000 (lengthOfCode 16) ∧ ((fullBound before).active.get 0).meter = some 0 ∧
      ((fullBound before).active.get 0).unit = none ∧ ((fullBound before).ports.get .K).link = .up) ∧
    (96 ≤ ((fullBound before).meters.get 0).waiting.length ∧ (fullBound before).CountLaw ∧ (fullBound before).WaitingLaw ∧
      ((fullBound before).meters.get 0).waiting = before ++ partlyCharged.id :: List.range' 2 (95 - before.length) ∧
      partlyCharged ∈ (fullBound before).requests ∧ partlyCharged.kind = .post ∧ partlyCharged.tag = none ∧
      ∀ r ∈ (fullBound before).requests, r.id ∈ List.range' 2 (95 - before.length) → r.kind ≠ .post) := by
  have h : (fullBound before).active.get 0 = { entry0 with meter := some 0 } := by rfl
  refine ⟨⟨requestArrives_of ⟨⟨rfl, rfl⟩, fun _ => rfl, fun h => absurd rfl h, fun _ => List.not_mem_nil⟩,
    matched_of h ⟨rfl, rfl, .inr (.inl ⟨rfl, rfl⟩), by decide, by decide⟩, by rw [h]; exact ⟨by decide, by decide⟩,
    by rw [h], by rw [h]; rfl, rfl⟩, ?_⟩
  have hw : (fullBound before).WaitingLaw := by
    unfold State.WaitingLaw
    rcases hb with rfl | rfl <;> decide +kernel
  have hc : (fullBound before).CountLaw := by
    unfold State.CountLaw State.livePieces Request.livePieces
    rcases hb with rfl | rfl <;> decide +kernel
  refine ⟨?_, hc, hw, ?_⟩ <;> rcases hb with rfl | rfl <;> decide +kernel

/-- A list with its last place; an empty list; a POST at a full list; a READ at a full list on which a POST waits second. -/
theorem witness_MeteredRequestJoinsItsList :
    (RequestArrives .app .read 3 16 0x1000 [] (metered [] []) (metered [] []) ∧ Matched (metered [] []) .app 0x1000 0 ∧
      ((metered [] []).active.get 0).Allows .read 0x1000 (lengthOfCode 16) ∧ ((metered [] []).active.get 0).meter = some 0 ∧
      ((metered [] []).active.get 0).unit = none ∧ ((metered [] []).ports.get .K).link = .up ∧
      ((metered [] []).meters.get 0).waiting = []) ∧
    (((metered (List.range 95) []).meters.get 0).waiting ≠ [] ∧ ((metered (List.range 95) []).meters.get 0).waiting.length < 96) ∧
    (RequestArrives .app .post 0 1 0x1000 [9] (metered fullList []) (metered fullList []) ∧ postCount (metered fullList []) .app < 16 ∧
      96 ≤ ((metered fullList []).meters.get 0).waiting.length) ∧
    (96 ≤ ((metered fullList [waitingPost]).meters.get 0).waiting.length ∧ (metered fullList [waitingPost]).CountLaw ∧
      ((metered fullList [waitingPost]).meters.get 0).waiting = [0] ++ waitingPost.id :: List.range' 2 94 ∧ fullList.Nodup ∧
      waitingPost ∈ (metered fullList [waitingPost]).requests ∧ waitingPost.kind = .post ∧ waitingPost.tag = none ∧
      waitingPost.meter = some 0 ∧ waitingPost.unit = none ∧ (∀ c ∈ waitingPost.pieces, c.state = .charging) ∧
      ∀ r ∈ (metered fullList [waitingPost]).requests, r.id ∈ List.range' 2 94 → r.kind ≠ .post) := by
  have h := metered_arrives [] []
  refine ⟨⟨h.1, h.2.1, h.2.2.1, h.2.2.2.1, h.2.2.2.2.1, h.2.2.2.2.2, by decide +kernel⟩, by decide +kernel,
    ⟨requestArrives_of (by decide +kernel), by decide +kernel⟩, by decide +kernel, ?_, by decide +kernel⟩
  unfold State.CountLaw State.livePieces Request.livePieces
  decide +kernel

/-! Meters. -/

/-- A request of one CHARGING piece of cost 2 at the head of meter 0, whose release time is 50, at 50 µs. -/
def due (depth credit : Nat) (rest : List Nat) : State :=
  at50 (withRecords [record0 .read [{ piece0 .charging with ttag := none, deadline := none }]]
    (withMeter { rate := 1, depth := depth, credit := credit, last := 50, waiting := 0 :: rest, release := some 50 } on))

theorem due_head (depth credit : Nat) (rest : List Nat) :
    ((due depth credit rest).meters.get 0).release = some 50 ∧ 50 ≤ (due depth credit rest).gateTime ∧
    ((due depth credit rest).meters.get 0).waiting = (record0 .read []).id :: rest ∧
    (∀ q ∈ (due depth credit rest).requests, q.id = 0 → q = record0 .read [{ piece0 .charging with ttag := none, deadline := none }]) ∧
    ((due depth credit rest).ports.get .K).link = .up := by
  refine ⟨rfl, Nat.le_refl 50, rfl, fun q hq _ => ?_, rfl⟩
  simpa [due, at50, withRecords] using hq

/-- A head of two CHARGING pieces and a follower toward S, which is DOWN, at 50 µs. -/
def dueBoth : State :=
  let waits := fun (n : Nat) => { num := n, addr := 16, len := 16, state := .charging, ttag := none, deadline := none : Piece }
  linkOf .S .down false none (at50 (withRecords
    [{ record0 .read [waits 1, waits 2] with meter := some 0 },
      { record0 .write [waits 1] with id := 1, meter := some 0, target := .S }]
    (withMeter { rate := 1, depth := 9, credit := 2304, last := 50, waiting := [0, 1], release := some 50 } on)))

/-- The general clause, with several pieces, a follower and a target that is not UP. -/
theorem witness_ReleaseTimeCharges_general :
    (dueBoth.meters.get 0).release = some 50 ∧ 50 ≤ dueBoth.gateTime ∧ (dueBoth.meters.get 0).waiting ≠ [] ∧
    (dueBoth.meters.get 0).waiting.Nodup ∧ dueBoth.CountLaw ∧
    ∀ id ∈ (dueBoth.meters.get 0).waiting, ∃ r ∈ dueBoth.requests, r.id = id ∧ r.meter = some 0 ∧
      ((dueBoth.ports.get r.target).link ≠ .up →
        (∀ y ∈ r.pieces, y.state.live = true → y.state = .charging) ∧
        (r.abandoned = false → (dueBoth.ports.get r.dom.port).link = .up)) := by
  refine ⟨by decide +kernel, by decide +kernel, by decide +kernel, by decide +kernel, ?_, by decide +kernel⟩
  unfold State.CountLaw State.livePieces Request.livePieces
  decide +kernel

theorem witness_ReleaseTimeChargesTheHead :
    (((withMeter { Meter.reset with release := some 51 } (at50 on)).meters.get 0).release = some 51 ∧ (at50 on).gateTime < 51) ∧
    (((withMeter { Meter.reset with release := some 50 } (at50 on)).meters.get 0).waiting = []) ∧
    (((due 2 512 []).meters.get 0).credit = 512 ∧ 1 + (16 + 15) / 16 ≤ 2 ∧ 256 * 2 ≤ min (256 * 2) (512 + 1 * (50 - 50))) ∧
    (((due 1 256 []).meters.get 0).credit = 256 ∧ 1 < 1 + (16 + 15) / 16) ∧
    (((due 2 511 [7]).meters.get 0).credit = 511 ∧ 511 < 256 * 2) ∧
    (((due 1 255 [7]).meters.get 0).credit = 255 ∧ 255 < 256 * 1) := by
  decide +kernel

/-! Grants and packets that leave. -/

/-- The queues of port K. -/
def queues (x : Arbiter) (s : State) : State := { s with ports := { s.ports with k := { s.ports.k with arbiter := x } } }

def queuedBy (d : Domain) : State :=
  withRecords [{ record0 .write [{ piece0 .queued with ttag := none, deadline := none }] with dom := d }] on

/-- Unit 0 scrubs with step 1 of a script of `n` steps of two bytes. -/
def scrubber (n pos : Nat) (settle : TimeCode) : CustodyUnit :=
  { unit0 (.scrubbing (.held .pay)) with
    script := List.replicate n ⟨0, [1, 2]⟩, settle := settle, pendingTake := some 1
    hand := { op := some .take, starting := .held .app, drainTimer := none, scrubPos := pos, settleTimer := none, cutCount := 0 } }

theorem witness_ArbiterGrantsInOrder :
    ((on.ports.get .K).tags.get 0 = .free ∧ ((withUnit (scrubber 2 1 ⟨0, 0⟩) (queues ⟨[0], [], [], [], .app⟩ on)).ports.get .K).arbiter.scrub = 0 :: [] ∧
      0 < ((withUnit (scrubber 2 1 ⟨0, 0⟩) on).units.get 0).hand.scrubPos ∧
      ((withUnit (scrubber 2 1 ⟨0, 0⟩) on).units.get 0).script[1 - 1]? = some ⟨0, [1, 2]⟩) ∧
    ((queues ⟨[], [⟨0, 1⟩], [⟨4, 1⟩], [], .app⟩ (queuedBy .pay)).ports.get .K).arbiter.pay = ⟨0, 1⟩ :: [] ∧
    (let x := ((queues ⟨[], [], [⟨0, 1⟩], [⟨4, 1⟩], .app⟩ (queuedBy .app)).ports.get .K).arbiter;
      x.pay = [] ∧ x.turn = .app ∧ x.app = ⟨0, 1⟩ :: []) ∧
    (let x := ((queues ⟨[], [], [], [⟨0, 1⟩], .app⟩ (queuedBy .rad)).ports.get .K).arbiter;
      x.pay = [] ∧ x.app = [] ∧ x.rad = ⟨0, 1⟩ :: []) ∧
    (∀ r ∈ (queuedBy .pay).requests, ∀ q ∈ (queuedBy .pay).requests, q.id = r.id → q = r) ∧
    ((State.reset.ports.get .K).link ≠ .up ∧ (on.ports.get .K).arbiter.scrub = [] ∧
      ∀ j : Fin 16, (({ on with ports := { on.ports with k := { on.ports.k with tags := Vector.replicate 16 .orphaned } } } : State).ports.get .K).tags.get j ≠ .free) := by
  decide +kernel

/-- As `flying`, with a second piece queued. -/
def flying2 (kind : Kind) (st : PieceState) : State :=
  withTag0 (.live (.piece ⟨0, 1⟩)) (withRecords [record0 kind [piece0 st, piece2]] on)

def request0 : OutPacket := .request 0 .post 0 16 (List.replicate 16 7)

theorem witness_PieceLeavesTheLink :
    (((withOutK [request0] on).ports.get .K).link = .up ∧ ((withOutK [request0] on).ports.get .K).outbound = request0 :: []) ∧
    (((withOutK [request0] (flying .write .granted)).ports.get .K).tags.get 0 = .live (.piece ⟨0, 1⟩) ∧
      (∀ q ∈ (flying .write .granted).requests, q.id = 0 → q = record0 .write [piece0 .granted]) ∧
      piece0 .granted ∈ (record0 .write [piece0 .granted]).pieces) ∧
    ((record0 .post [piece0 .granted]).tag = none ∧ (record0 .post [piece0 .granted]).outstanding = 1) ∧
    (1 < (record0 .post [piece0 .granted, piece2]).outstanding ∧
      record0 .post [piece0 .granted, piece2] ∈ (withOutK [request0] (flying2 .post .granted)).requests) ∧
    ((withTag0 (.live (.scrub 0 false (some 9))) (withOutK [request0] on)).ports.get .K).tags.get 0 = .live (.scrub 0 false (some 9)) := by
  decide +kernel

def outA (pkts : List OutPacket) : State := { on with ports := { on.ports with a := { on.ports.a with outbound := pkts } } }

theorem witness_PacketsLeaveInOrder :
    (on.ports.get Domain.app.port).link = .up ∧
    ((outA [.completion 3 .ok [], .notice .fault]).ports.get Domain.app.port).outbound = .completion 3 .ok [] :: [.notice .fault] ∧
    ((outA [.reply 1 .ok []]).ports.get Domain.app.port).outbound = .reply 1 .ok [] :: [] ∧
    ((outA [.event 5 9 false []]).ports.get Domain.app.port).outbound = .event 5 9 false [] :: [] ∧
    ((outA [.notice .fault]).ports.get Domain.app.port).outbound = .notice .fault :: [] ∧
    ((outA [.notice .custody]).ports.get Domain.app.port).outbound = .notice .custody :: [] := by
  decide +kernel

/-! Pieces that end. -/

theorem count_of {s : State} (h : (s.requests.map (fun r => r.id)).Nodup ∧
    (∀ r ∈ s.requests, (r.pieces.map (fun c => c.num)).Nodup ∧ r.outstanding = (r.pieces.filter (fun c => c.state.live)).length) ∧
    ∀ u : Fin 8, (s.units.get u).inFlight =
      ((s.requests.filter (fun r => decide (r.unit = some u))).map (fun r => (r.pieces.filter (fun c => c.state.live)).length)).sum) :
    s.CountLaw := h

/-- An orphaned tag; a READ's last piece and one of two, answered OK with its 16 bytes; the same answered with an error. -/
theorem witness_CompletionResolvesAPiece :
    (Arrives .K (.completion 0 0 false 1 []) (withTag0 .orphaned on) (withTag0 .orphaned on) ∧
      ((withTag0 .orphaned on).ports.get .K).tags.get 0 = .orphaned) ∧
    (Arrives .K (.completion 0 0 true 16 (List.replicate 16 5)) (flying .read .sent) (flying .read .sent) ∧
      (List.replicate 16 (5 : Byte)).length = lengthOfCode 16 ∧
      ((flying .read .sent).ports.get .K).tags.get 0 = .live (.piece ⟨0, 1⟩) ∧
      (∀ q ∈ (flying .read .sent).requests, q.id = 0 → q = record0 .read [piece0 .sent]) ∧
      ((flying .read .sent).ports.get Domain.app.port).link = .up ∧ (record0 .read [piece0 .sent]).outstanding = 1) ∧
    (1 < (record0 .read [piece0 .sent, piece2]).outstanding ∧ record0 .read [piece0 .sent, piece2] ∈ (flying2 .read .sent).requests) ∧
    (¬((2 : Byte) = 0) ∧ (flying .read .sent).CountLaw ∧ (flying2 .read .sent).CountLaw ∧
      ∀ n : Fin 16, 0 ∉ ((flying .read .sent).meters.get n).waiting) :=
  ⟨⟨arrives_of (by decide +kernel), by decide +kernel⟩, ⟨arrives_of (by decide +kernel), by decide +kernel⟩, by decide +kernel,
    by decide +kernel, count_of (by decide +kernel), count_of (by decide +kernel), by decide +kernel⟩

/-- All tags of K orphaned but tag 0. -/
def lastTag (s : State) : State :=
  { s with ports := { s.ports with k := { s.ports.k with tags := setAt (Vector.replicate 16 .orphaned) 0 (s.ports.k.tags.get 0) } } }

/-- A READ at the head of a meter's list with a SENT, a GRANTED, a QUEUED and a CHARGING piece of unit 0, and a WRITE behind it. -/
def failing : State :=
  let waits := { piece0 .charging with ttag := none, deadline := none }
  withUnit { unit0 (.held .app) with inFlight := 4 } (withMeter { Meter.reset with rate := 1, waiting := [0, 1] }
    { traffic with
      requests := traffic.requests.map (fun r =>
          { r with unit := some 0, meter := some 0, pieces := r.pieces ++ [{ waits with num := 4 }], outstanding := 4 }) ++
        [{ record0 .write [waits] with id := 1, meter := some 0 }] })

/-- The last clauses of CompletionResolvesAPiece and CompletionDeadlineTimesOut, with pieces in each place; with two pieces and every
other tag of K ORPHANED. -/
theorem witness_PieceFails :
    (Arrives .K (.completion 0 2 false 1 []) failing failing ∧ (failing.ports.get .K).tags.get 0 = .live (.piece ⟨0, 1⟩) ∧
      failing.CountLaw ∧ failing.WaitingLaw ∧
      ∃ r ∈ failing.requests, r.id = 0 ∧ r.target = .K ∧ r.outstanding = 4 ∧ piece0 .sent ∈ r.pieces) ∧
    (50 ≤ (at50 failing).gateTime ∧ (piece0 .sent).ttag = some 0 ∧ (piece0 .sent).deadline = some 50) ∧
    ((lastTag (at50 (flying2 .read .sent))).CountLaw ∧ (lastTag (at50 (flying2 .read .sent))).WaitingLaw ∧
      ∀ j : Fin 16, j ≠ 0 → ((lastTag (at50 (flying2 .read .sent))).ports.get .K).tags.get j = .orphaned) := by
  refine ⟨⟨arrives_of (by decide +kernel), by decide +kernel, count_of (by decide +kernel), ?_, by decide +kernel⟩, by decide +kernel,
    count_of (by decide +kernel), ?_, by decide +kernel⟩ <;> unfold State.WaitingLaw <;> decide +kernel

/-- What a failing COMPLETION leaves of it: the SENT piece was one of two awaited, the fault is raised, and nothing is answered (R69). -/
theorem test_failure_awaits_sent :
    (match execCompletionTaken .K 0 2 false 1 [] (withRecords [record0 .read [piece0 .sent, { piece2 with state := .sent, ttag := some 1 }]]
        (flying .read .sent)) with
      | .next t => (t.requests.map (fun r => (r.outstanding, r.worst)),
          (t.ports.get .A).outbound.filter (fun x => match x with | .completion .. => true | _ => false))
      | _ => ([], [])) = ([(1, .targetError)], []) := by decide +kernel

theorem witness_CompletionDeadlineTimesOut :
    (((flying .read .sent).ports.get .K).tags.get 0 = .live (.piece ⟨0, 1⟩) ∧ (flying .read .sent).CountLaw ∧
      record0 .read [piece0 .sent] ∈ (flying .read .sent).requests ∧ (piece0 .sent).ttag = some 0 ∧ (piece0 .sent).deadline = some 50 ∧
      (flying .read .sent).gateTime < 50) ∧
    (50 ≤ (at50 (flying .read .sent)).gateTime ∧ ∀ n : Fin 16, 0 ∉ ((at50 (flying .read .sent)).meters.get n).waiting) ∧
    (record0 .write [piece0 .granted] ∈ (at50 (flying .write .granted)).requests ∧ (flying .write .granted).CountLaw) ∧
    (∃ j : Fin 16, j ≠ 0 ∧ ((at50 (flying .read .sent)).ports.get .K).tags.get j ≠ .orphaned) ∧
    ((lastTag (flying .read .sent)).CountLaw ∧
      ∀ j : Fin 16, j ≠ 0 → ((at50 (lastTag (flying .read .sent))).ports.get .K).tags.get j = .orphaned) :=
  ⟨⟨by decide +kernel, count_of (by decide +kernel), by decide +kernel⟩, by decide +kernel,
    ⟨by decide +kernel, count_of (by decide +kernel)⟩, by decide +kernel, count_of (by decide +kernel), by decide +kernel⟩

/-! Scrub steps and handovers. -/

/-- The scrub step of unit 0 holds tag 0 of K. -/
def stepping (n pos : Nat) (settle : TimeCode) (sent : Bool) : State :=
  withTag0 (.live (.scrub 0 sent (some 50))) (withUnit (scrubber n pos settle) on)

/-- A step before the last; the last with and without a settle delay; the status of the step is 0 in these and 2 in the last clause. -/
theorem witness_ScrubStepCompletionMovesOn :
    (Arrives .K (.completion 0 0 false 1 []) (stepping 2 1 ⟨5, 0⟩ true) (stepping 2 1 ⟨5, 0⟩ true) ∧
      ((stepping 2 1 ⟨5, 0⟩ true).ports.get .K).tags.get 0 = .live (.scrub 0 true (some 50)) ∧
      ((stepping 2 1 ⟨5, 0⟩ true).units.get 0).state = .scrubbing (.held .pay) ∧ ((stepping 2 1 ⟨5, 0⟩ true).units.get 0).port = some .K ∧
      ((stepping 2 1 ⟨5, 0⟩ true).units.get 0).hand.scrubPos < ((stepping 2 1 ⟨5, 0⟩ true).units.get 0).script.length) ∧
    (((stepping 2 2 ⟨5, 0⟩ true).units.get 0).script.length ≤ ((stepping 2 2 ⟨5, 0⟩ true).units.get 0).hand.scrubPos ∧
      ((stepping 2 2 ⟨5, 0⟩ true).units.get 0).settle.value ≠ 0) ∧
    (((stepping 2 2 ⟨0, 0⟩ true).units.get 0).script.length ≤ ((stepping 2 2 ⟨0, 0⟩ true).units.get 0).hand.scrubPos ∧
      ((stepping 2 2 ⟨0, 0⟩ true).units.get 0).settle.value = 0) ∧
    (Arrives .K (.completion 0 2 false 1 []) (stepping 2 1 ⟨5, 0⟩ true) (stepping 2 1 ⟨5, 0⟩ true) ∧ (2 : Byte) ≠ 0) :=
  ⟨⟨arrives_of (by decide +kernel), by decide +kernel⟩, by decide +kernel, by decide +kernel, arrives_of (by decide +kernel),
    by decide +kernel⟩

/-- A READ of 16 bytes of a domain, parked at unit 0 through an entry that names a meter or none. -/
def parkedBy (d : Domain) (meter : Option (Fin 16)) : Parked :=
  ⟨⟨d, some 9, .read, 0x1000, 16, []⟩, ⟨0, 0x1000, .K, 0, meter, some 0⟩⟩

theorem witness_ScrubFailureEndsTheHandover :
    (((stepping 2 1 ⟨5, 0⟩ true).units.get 0).port = some .K ∧ ((stepping 2 1 ⟨5, 0⟩ true).units.get 0).parked = []) ∧
    (((withUnit { scrubber 2 1 ⟨5, 0⟩ with parked := [parkedBy .app none] } on).units.get 0).port = some .K ∧
      ((withUnit { scrubber 2 1 ⟨5, 0⟩ with parked := [parkedBy .app none] } on).units.get 0).parked ≠ []) := by
  decide +kernel

theorem witness_ScrubStepDeadlineFailsTheScrub :
    (((stepping 2 1 ⟨5, 0⟩ true).units.get 0).port = some .K ∧ (stepping 2 1 ⟨5, 0⟩ true).gateTime < 50) ∧
    (((at50 (stepping 2 1 ⟨5, 0⟩ false)).ports.get .K).tags.get 0 = .live (.scrub 0 false (some 50)) ∧
      50 ≤ (at50 (stepping 2 1 ⟨5, 0⟩ false)).gateTime) ∧
    (∃ j : Fin 16, j ≠ 0 ∧ ((at50 (stepping 2 1 ⟨5, 0⟩ true)).ports.get .K).tags.get j ≠ .orphaned) ∧
    (((lastTag (stepping 2 1 ⟨5, 0⟩ true)).units.get 0).parked = [] ∧
      ∀ j : Fin 16, j ≠ 0 → ((at50 (lastTag (stepping 2 1 ⟨5, 0⟩ true))).ports.get .K).tags.get j = .orphaned) := by
  decide +kernel

/-- Unit 0 drains toward OPEN with nothing in flight. -/
def drained (n : Nat) (settle : TimeCode) : State := withUnit { scrubber n 0 settle with state := .draining .opened } on

theorem witness_DrainEndBeginsTheScrub :
    (((drained 1 ⟨5, 0⟩).units.get 0).state = .draining .opened ∧ ((drained 1 ⟨5, 0⟩).units.get 0).inFlight = 0 ∧
      ((drained 1 ⟨5, 0⟩).units.get 0).port = some .K ∧ ((drained 1 ⟨5, 0⟩).ports.get .K).link = .up ∧
      ((drained 1 ⟨5, 0⟩).units.get 0).script ≠ []) ∧
    ((linkOf .K .down false none (drained 1 ⟨5, 0⟩)).ports.get .K).link ≠ .up ∧
    (((drained 0 ⟨5, 0⟩).units.get 0).script = [] ∧ ((drained 0 ⟨5, 0⟩).units.get 0).settle.value ≠ 0) ∧
    (((drained 0 ⟨0, 0⟩).units.get 0).script = [] ∧ ((drained 0 ⟨0, 0⟩).units.get 0).settle.value = 0) ∧
    (busy.units.get 0).inFlight ≠ 0 := by
  decide +kernel

/-- One piece of unit 0 is SENT and the unit drains, its timer at 50. -/
def cutting : State :=
  withUnit { scrubber 1 0 ⟨5, 0⟩ with
      state := .draining (.held .pay), inFlight := 1, hand := { (scrubber 1 0 ⟨5, 0⟩).hand with drainTimer := some 50 } }
    (withTag0 (.live (.piece ⟨0, 1⟩)) (withRecords [{ record0 .read [piece0 .sent] with unit := some 0 }] on))

/-- The inner hypotheses of ResetOf, for a loss of K's link: a request whose piece is at K, of an UP port, and a unit that scrubs on K, or
that drains there, its piece at K; and for a loss of A's link, the port of APP. -/
theorem witness_ResetOf :
    ((flying .read .sent).CountLaw ∧ (record0 .read [piece0 .sent]) ∈ (flying .read .sent).requests ∧
      (record0 .read [piece0 .sent]).atTarget .K ∧ (record0 .read [piece0 .sent]).tag = some 3 ∧
      (record0 .read [piece0 .sent]).abandoned = false ∧ Domain.app.port ≠ Port.K ∧
      ((flying .read .sent).ports.get Domain.app.port).link = .up ∧
      ((flying .read .sent).controls.get FaultClass.linkDown.index).record = true ∧ (flying .read .sent).supQ.records.length < 32) ∧
    (endingOn .K none (withUnit (scrubber 2 1 ⟨5, 0⟩) on) = [0] ∧ ((withUnit (scrubber 2 1 ⟨5, 0⟩) on).ports.get .K).link = .up) ∧
    (cutting.CountLaw ∧ (cutting.ports.get .K).link = .up ∧ (cutting.units.get 0).inFlight ≠ 0 ∧
      ∀ r ∈ cutting.requests, r.unit = some 0 → 0 < r.livePieces → r.atTarget .K) ∧
    ((busy.ports.get .A).link = .up ∧ Port.A = Domain.app.port) := by
  refine ⟨⟨count_of (by decide +kernel), by decide +kernel, ⟨rfl, piece0 .sent, by decide +kernel, by decide +kernel⟩, by decide +kernel⟩,
    by decide +kernel, ⟨count_of (by decide +kernel), by decide +kernel, by decide +kernel, ?_⟩, by decide +kernel⟩
  intro r hr _ _
  obtain rfl : r = { record0 .read [piece0 .sent] with unit := some 0 } := by simpa using (show r ∈ [_] from hr)
  exact ⟨rfl, piece0 .sent, by decide +kernel, by decide +kernel⟩

/-- The first row of R110: the loss of K's link ends the drain that its last piece keeps going, and the scrub fails at once. -/
theorem test_linkLost_ends_drain :
    (match execLinkLost .K cutting with
      | .next t => ((t.units.get 0).state, t.supQ.records.map (fun r => r.ev.cls))
      | _ => (.opened, [])) = (.failed, [.linkDown, .scrubFailed]) := by decide +kernel

/-- A drain that ended while K was DOWN fails its scrub, though K is established before DRAIN_END is taken (R103). -/
theorem test_linkEstablished_after_drain :
    (match execLinkEstablished .K (linkOf .K .down false none (drained 1 ⟨5, 0⟩)) with
      | .next t => ((t.units.get 0).state, (t.ports.get .K).link)
      | _ => (.opened, .down)) = (.failed, .up) := by decide +kernel

/-- Two requests of unit 0 are in flight: one with a SENT, a GRANTED and a QUEUED piece, and one that waits at a meter; two are parked, of
the least and the largest length. -/
def cuttingBoth : State :=
  let park := fun (n : Nat) => { parkedBy .pay none with req := { (parkedBy .pay none).req with len := n } }
  let v := { scrubber 1 0 ⟨5, 0⟩ with parked := [park 1, park 256] }
  { withUnit { v with state := .draining (.held .pay), inFlight := 4, hand := { v.hand with drainTimer := some 50 } }
      (withMeter { Meter.reset with waiting := [1] } traffic) with
    requests := traffic.requests.map (fun r => { r with unit := some 0 }) ++
      [{ record0 .write [{ piece0 .charging with ttag := none, deadline := none }] with id := 1, unit := some 0, meter := some 0, tag := some 7 }] }

theorem cuttingBoth_target : cuttingBoth.TargetLaw := by
  have named : ∀ (p : Port) (t : Fin 16), (match (cuttingBoth.ports.get p).tags.get t with
      | .live (.piece ref) => decide (∃ r ∈ cuttingBoth.requests, ∃ c ∈ r.pieces,
          ref = ⟨r.id, c.num⟩ ∧ r.target = p ∧ c.ttag = some t ∧ (c.state = .granted ∨ c.state = .sent))
      | _ => true) = true := by
    intro p; cases p <;> decide +kernel
  refine ⟨fun p d => ?_, by decide +kernel, fun p t ref h => ?_, fun p => ⟨?_, fun t ht => .inr ?_⟩⟩
  · cases p <;> cases d <;> decide +kernel
  · have hn := named p t
    rw [h] at hn
    exact of_decide_eq_true hn
  · cases p <;> decide +kernel
  · have : ∀ p : Port, ∀ t ∈ requestTags (cuttingBoth.ports.get p).outbound, ∃ r ∈ cuttingBoth.requests, ∃ c ∈ r.pieces,
        (cuttingBoth.ports.get p).tags.get t = .live (.piece ⟨r.id, c.num⟩) ∧ c.state = .granted := by
      intro p; cases p <;> decide +kernel
    exact this p t ht

theorem cuttingBoth_waiting : cuttingBoth.WaitingLaw := by unfold State.WaitingLaw; decide +kernel

/-- The hypotheses of the last clause of EveryStepKeepsMeterLaw. -/
theorem witness_EveryStepKeepsMeterLaw :
    (∃ t, step cuttingBoth = .next t) ∧ cuttingBoth.CountLaw ∧ cuttingBoth.TargetLaw ∧ cuttingBoth.ParkedLaw ∧ cuttingBoth.WaitingLaw := by
  refine ⟨⟨_, rfl⟩, count_of (by decide +kernel), cuttingBoth_target, ?_, cuttingBoth_waiting⟩
  unfold State.ParkedLaw
  decide +kernel

/-- The hypotheses of AbandonedIn and HeadsGoOn in ResetOf, for a loss of A's link: the requests of APP wait in each place, one of them as
the head of a meter. -/
theorem witness_ResetOf_initiator :
    (Port.A = Domain.app.port ∧ (cuttingBoth.ports.get .A).link = .up) ∧ cuttingBoth.CountLaw ∧ cuttingBoth.TargetLaw ∧
    cuttingBoth.WaitingLaw ∧ (∀ r ∈ cuttingBoth.requests, r.dom = .app) ∧ (cuttingBoth.meters.get 0).waiting.head? = some 1 :=
  ⟨by decide +kernel, count_of (by decide +kernel), cuttingBoth_target, cuttingBoth_waiting, by decide +kernel⟩

/-- A cut that leaves all 16 tags of the unit's own port ORPHANED: CUT, ORPHAN_LIMIT, LINK_DOWN, and the scrub fails at once (R75, R101). -/
theorem test_cut_meets_orphan_limit :
    (match execDrainDeadline 0 (at50 (lastTag cutting)) with
      | .next t => ((t.units.get 0).state, t.supQ.records.map (fun r => r.ev.cls))
      | _ => (.opened, [])) = (.failed, [.cut, .orphanLimit, .linkDown, .scrubFailed]) := by decide +kernel

/-- The general clause, with pieces in each place. -/
theorem witness_DrainDeadlineCuts_general :
    ((cuttingBoth.units.get 0).state = .draining (.held .pay) ∧ (cuttingBoth.units.get 0).inFlight ≠ 0 ∧
      (cuttingBoth.units.get 0).hand.drainTimer = some 50 ∧ (cuttingBoth.units.get 0).port = some .K ∧ 50 ≤ (at50 cuttingBoth).gateTime) ∧
    cuttingBoth.CountLaw ∧ cuttingBoth.TargetLaw ∧ cuttingBoth.WaitingLaw ∧
    (∀ p : Port, ∃ j, (cuttingBoth.ports.get p).tags.get j = .free ∧
      ∀ r ∈ cuttingBoth.requests, r.target = p → ∀ c ∈ r.pieces, c.ttag ≠ some j) ∧
    (cuttingBoth.requests.filter (fun x => decide (x.unit = some 0) && x.pieces.any (fun y => y.state.live))).length = 2 := by
  refine ⟨by decide +kernel, count_of (by decide +kernel), cuttingBoth_target, cuttingBoth_waiting, fun p => ⟨2, ?_⟩, by decide +kernel⟩
  cases p <;> decide +kernel

theorem witness_DrainDeadlineCutsThePieces :
    ((cutting.units.get 0).state = .draining (.held .pay) ∧ (cutting.units.get 0).inFlight ≠ 0 ∧
      (cutting.units.get 0).hand.drainTimer = some 50 ∧ (cutting.units.get 0).port = some .K ∧ cutting.gateTime < 50) ∧
    (50 ≤ (at50 cutting).gateTime ∧ cutting.CountLaw ∧
      (∀ p : Port, ∃ j, (cutting.ports.get p).tags.get j = .free ∧
        ∀ r ∈ cutting.requests, r.target = p → ∀ c ∈ r.pieces, c.ttag ≠ some j)) ∧
    (cutting.requests.filter (fun x => decide (x.unit = some 0) && x.pieces.any (fun y => y.state.live)) =
        [{ record0 .read [piece0 .sent] with unit := some 0 }] ∧
      (∀ n : Fin 16, 0 ∉ (cutting.meters.get n).waiting) ∧ (cutting.ports.get Domain.app.port).link = .up) ∧
    ((cutting.ports.get .K).link = .up ∧ (cutting.units.get 0).script ≠ []) := by
  refine ⟨by decide +kernel, ⟨by decide +kernel, count_of (by decide +kernel), fun p => ⟨1, ?_⟩⟩, by decide +kernel, by decide +kernel⟩
  cases p <;> decide +kernel

/-- The settle delay of unit 0 ends at 50, with `k` requests of APP parked. -/
def settling (k : Nat) : State :=
  withUnit
    { scrubber 1 0 ⟨5, 0⟩ with
      hand := { (scrubber 1 0 ⟨5, 0⟩).hand with settleTimer := some 50 }
      parked := List.replicate k ⟨⟨.app, some 9, .read, 0x1000, 1, []⟩, ⟨0, 0x1000, .K, 0, none, some 0⟩⟩ } on

theorem witness_SettleExpiryGrants :
    (((settling 0).units.get 0).state = .scrubbing (.held .pay) ∧ ((settling 0).units.get 0).hand.settleTimer = some 50 ∧
      (settling 0).gateTime < 50) ∧
    (50 ≤ (at50 (settling 0)).gateTime ∧ ((at50 (settling 0)).units.get 0).parked = []) ∧
    (50 ≤ (at50 (settling 2)).gateTime ∧ ((at50 (settling 2)).units.get 0).parked ≠ [] ∧
      ((at50 (settling 2)).ports.get Domain.app.port).link = .up ∧ ¬(UnitState.held .pay).Admits .app) := by
  refine ⟨by decide +kernel, by decide +kernel, by decide +kernel, by decide +kernel, by decide +kernel, ?_⟩
  rintro (h | h) <;> cases h

/-- Unit 0 in a state with `n` pieces in flight, and meter 0 with a list. -/
def deciding (st : UnitState) (n : Nat) (ids : List Nat) : State :=
  withMeter { Meter.reset with waiting := ids } (withUnit { unit0 st with inFlight := n } on)

/-- One parked request decided again: a unit that keeps it out, a count without room for it, a target that is not UP, no meter, and a
meter with an empty list, with the last place and with none, for a POST. -/
theorem witness_SettleExpiryGrants_redecide :
    ((parkedBy .app none).entry.unit = some 0 ∧ 1 ≤ (parkedBy .app none).req.len ∧ (parkedBy .app none).req.len ≤ 256) ∧
    ¬((deciding (.held .pay) 0 []).units.get 0).state.Admits .app ∧
    ¬((deciding .opened 1632 []).units.get 0).inFlight
        + (piecesOf (deciding .opened 1632 []) (parkedBy .app none).req (parkedBy .app none).entry .queued).length ≤ 1632 ∧
    (((deciding (.held .app) 1631 []).units.get 0).state.Admits .app ∧
      ((deciding (.held .app) 1631 []).units.get 0).inFlight
        + (piecesOf (deciding (.held .app) 1631 []) (parkedBy .app none).req (parkedBy .app none).entry .queued).length ≤ 1632 ∧
      ((deciding (.held .app) 1631 []).ports.get (parkedBy .app none).entry.target).link = .up ∧ (parkedBy .app none).entry.meter = none ∧
      ((linkOf .K .down false none (deciding .opened 0 [])).ports.get (parkedBy .app none).entry.target).link ≠ .up) ∧
    ((parkedBy .app (some 0)).entry.meter = some 0 ∧ ((deciding .opened 0 []).meters.get 0).waiting = [] ∧
      ((deciding .opened 0 (List.range 95)).meters.get 0).waiting ≠ [] ∧ ((deciding .opened 0 (List.range 95)).meters.get 0).waiting.length < 96 ∧
      96 ≤ ((deciding .opened 0 (List.range 96)).meters.get 0).waiting.length) := by
  refine ⟨by decide +kernel, ?_, by decide +kernel, ⟨.inr rfl, by decide +kernel⟩, by decide +kernel⟩
  rintro (h | h) <;> cases h

/-- As `fullBound`, with the unit OPEN. -/
def fullParked (before : List Nat) : State :=
  withUnit { unit0 .opened with inFlight := 2 } (fullBound before)

/-- A READ decided again at a full list, on which the last POST is the head or stands behind another request (R83). -/
theorem witness_SettleExpiryGrants_room (before : List Nat) (hb : before = [] ∨ before = [0]) :
    (((fullParked before).units.get 0).state.Admits .app ∧
      ((fullParked before).units.get 0).inFlight
        + (piecesOf (fullParked before) (parkedBy .app (some 0)).req (parkedBy .app (some 0)).entry .queued).length ≤ 1632 ∧
      ((fullParked before).ports.get (parkedBy .app (some 0)).entry.target).link = .up ∧ (parkedBy .app (some 0)).req.kind ≠ .post) ∧
    96 ≤ ((fullParked before).meters.get 0).waiting.length ∧ (fullParked before).CountLaw ∧ (fullParked before).WaitingLaw ∧
    ((fullParked before).meters.get 0).waiting = before ++ partlyCharged.id :: List.range' 2 (95 - before.length) ∧
    partlyCharged ∈ (fullParked before).requests ∧ partlyCharged.kind = .post ∧ partlyCharged.tag = none ∧
    ∀ r ∈ (fullParked before).requests, r.id ∈ List.range' 2 (95 - before.length) → r.kind ≠ .post := by
  have hw : (fullParked before).WaitingLaw := by
    unfold State.WaitingLaw
    rcases hb with rfl | rfl <;> decide +kernel
  have hc : (fullParked before).CountLaw := by
    unfold State.CountLaw State.livePieces Request.livePieces
    rcases hb with rfl | rfl <;> decide +kernel
  refine ⟨⟨.inl (by rfl), ?_⟩, ?_, hc, hw, ?_⟩ <;> rcases hb with rfl | rfl <;> decide +kernel

/-- The READ joins the full list in the place of the POST, whose charged piece stays QUEUED (R83). -/
theorem test_redecide_makes_room :
    let t := redecideOne 0 (fullParked [0]) (parkedBy .app (some 0))
    (t.meters.get 0).waiting.length = 96 ∧ 1 ∉ (t.meters.get 0).waiting ∧ (t.flags.get .app).throttled = true ∧
      (t.requests.filter (fun r => r.id = 1)).map (fun r => r.outstanding) = [1] := by decide +kernel

/-! Events and malformed packets. -/

/-- The event unit of port C in a state. -/
def eventC (st : UnitState) : State := withUnit { unit0 st with port := some .C, events := true } on

def eventsOf (n : Nat) : State := { on with inits := { on.inits with pay := { on.inits.pay with eventCount := n } } }

theorem witness_EventIsRouted :
    (Port.C.sendsEvents = true ∧ Arrives .C (.event 0 9 false 1 [7]) on on ∧ [(7 : Byte)].length = (1 : Byte).toNat ∧
      EventGoesTo on .C (some .pay)) ∧
    (Arrives .C (.event 0 9 false 1 [7]) (eventC (.held .rad)) (eventC (.held .rad)) ∧ EventGoesTo (eventC (.held .rad)) .C (some .rad)) ∧
    (Arrives .C (.event 0 9 false 1 [7]) (eventC .failed) (eventC .failed) ∧ EventGoesTo (eventC .failed) .C none) ∧
    ((linkOf .P .down false none on).ports.get Domain.pay.port).link ≠ .up ∧
    (((eventsOf 7).inits.get .pay).eventCount < 8 ∧ ((eventsOf 7).ports.get Domain.pay.port).link = .up) ∧
    8 ≤ ((eventsOf 8).inits.get .pay).eventCount := by
  refine ⟨⟨rfl, arrives_of (by decide +kernel), rfl, .inl ⟨by decide +kernel, rfl⟩⟩,
    ⟨arrives_of (by decide +kernel), .inr ⟨0, by decide +kernel, by decide +kernel, fun v h => absurd h (Fin.not_lt_zero v),
      .inr (.inl ⟨.rad, by decide +kernel, rfl⟩)⟩⟩,
    ⟨arrives_of (by decide +kernel), .inr ⟨0, by decide +kernel, by decide +kernel, fun v h => absurd h (Fin.not_lt_zero v),
      .inr (.inr ⟨by decide +kernel, fun h => by cases h <;> decide +kernel, rfl⟩)⟩⟩, by decide +kernel, by decide +kernel, by decide +kernel⟩

theorem witness_MalformedPacketIsDiscarded :
    Arrives .K (.unknown 0x77 []) on on ∧
    (Arrives .K (.request .read 0 1 0 []) on on ∧ Port.K.initiator = false ∧ Arrives .A (.event 0 0 false 0 []) on on ∧
      Port.A.sendsEvents = false) ∧
    (Arrives .A (.request .read 3 1 0 [9]) on on ∧ [(9 : Byte)] ≠ [] ∧ Arrives .A (.request .read 3 1 0 []) busy busy ∧
      3 ∈ (busy.inits.get .app).tags) ∧
    (Arrives .K (.completion 0 0 true 2 [9]) on on ∧ [(9 : Byte)].length ≠ lengthOfCode 2) ∧
    (Arrives .K (.completion 0 0 false 2 []) on on ∧ (on.ports.get .K).tags.get 0 = .free) ∧
    (((stepping 2 1 ⟨5, 0⟩ false).ports.get .K).tags.get 0 = .live (.scrub 0 false (some 50))) ∧
    (∃ r ∈ (flying .read .granted).requests, ∃ c ∈ r.pieces, ((flying .read .granted).ports.get .K).tags.get 0 = .live (.piece ⟨r.id, c.num⟩) ∧
      (∀ q ∈ (flying .read .granted).requests, q.id = r.id → q = r) ∧ (∀ y ∈ r.pieces, y.num = c.num → y = c) ∧ c.state = .granted) ∧
    (Arrives .C (.event 0 0 false 2 [7]) on on ∧ [(7 : Byte)].length ≠ (2 : Byte).toNat) ∧
    (Arrives .P (.manage 1 ⟨0, 1, []⟩) on on ∧ ([] : List Byte).length ≠ (1 : Byte).toNat) ∧
    (Arrives .P (.manage 1 ⟨0, 0, []⟩) busy busy ∧ ∃ c ∈ (busy.inits.get .pay).commands, c.discard = false ∧ c.tag = 0) :=
  ⟨arrives_of (by decide +kernel), ⟨arrives_of (by decide +kernel), rfl, arrives_of (by decide +kernel), rfl⟩,
    ⟨arrives_of (by decide +kernel), by decide, arrives_of (by decide +kernel), by decide +kernel⟩,
    ⟨arrives_of (by decide +kernel), by decide⟩, ⟨arrives_of (by decide +kernel), by decide +kernel⟩, by decide +kernel,
    by decide +kernel, ⟨arrives_of (by decide +kernel), by decide⟩, ⟨arrives_of (by decide +kernel), by decide⟩,
    arrives_of (by decide +kernel), by decide +kernel⟩

/-! Management commands. -/

/-- A definition without steps whose parameters go on. -/
theorem refused_steps : RefusedValue 0x20 (List.replicate 16 0 ++ [9]) := by
  refine .inr (.inr (.inr (.inr (.inr (.inl ⟨rfl, .inr (.inr (.inr (.inr (fun script h _ e => ?_))))⟩)))))
  cases script with
  | nil => cases e
  | cons st rest => cases h

theorem witness_RefusedCommandsChangeNothing :
    ((0x99 : Byte) ∉ commandCodes ∧ CommandArrives .rad 0x99 (cmd []) on on) ∧
    (CommandArrives .app 0x10 (cmd []) on on ∧ (0x10 : Byte) ∈ commandCodes ∧ 5 < (0x10 : Byte).toNat) ∧
    (CommandArrives .app 0x04 (cmd [2]) on on ∧ ∃ x : Domain, x ≠ .app ∧ (cmd [2]).params = [x.code]) ∧
    (CommandArrives .pay 0x20 (cmd (List.replicate 15 0)) on on ∧ (cmd (List.replicate 15 0)).params.length ∉ acceptedLengths 0x20) ∧
    (CommandArrives .app 0x03 (cmd []) on on ∧ (0x03 : Byte).toNat ≤ 3 ∧ (cmd []).params.length ∉ acceptedLengths 0x03) ∧
    (CommandArrives .app 0x04 (cmd [3]) on on ∧ (cmd [3]).params.length ∈ acceptedLengths 0x04 ∧ RefusedValue 0x04 (cmd [3]).params ∧
      2 < ((cmd [3]).params.getD 0 0).toNat) ∧
    (CommandArrives .pay 0x11 (cmd (List.replicate 19 96)) on on ∧ (cmd (List.replicate 19 96)).params.length ∈ acceptedLengths 0x11 ∧
      RefusedValue 0x11 (cmd (List.replicate 19 96)).params) ∧
    (∀ x ∈ [((0x05 : Byte), [(1 : Byte)]), (0x12, [2, 0]), (0x12, [0, 96]), (0x14, [96]), (0x21, [8, 0]), (0x21, [0, 4]), (0x22, [8]),
        (0x23, [8]), (0x30, [16, 0, 0, 0, 0, 0, 0]), (0x31, [16]), (0x40, [0]), (0x40, [15, 0, 0]), (0x41, [1, 0, 0, 0, 0, 0, 0, 0]),
        (0x42, [1]), (0x43, [3]), (0x44, [3, 0, 0]), (0x44, [0, 2, 0]), (0x50, [7, 0, 0, 0, 0, 0, 0, 0, 0, 0, 0, 0, 0]), (0x51, [7])],
      RefusedValue x.1 x.2 ∧ x.2.length ∈ acceptedLengths x.1) ∧
    RefusedValue 0x20 (List.replicate 16 0 ++ [9]) :=
  ⟨⟨by decide, commandArrives_of (by decide +kernel)⟩, ⟨commandArrives_of (by decide +kernel), by decide, by decide⟩,
    ⟨commandArrives_of (by decide +kernel), .rad, by decide, rfl⟩, ⟨commandArrives_of (by decide +kernel), by decide +kernel⟩,
    ⟨commandArrives_of (by decide +kernel), by decide, by decide +kernel⟩,
    ⟨commandArrives_of (by decide +kernel), by decide +kernel, .inl (by decide), by decide⟩,
    ⟨commandArrives_of (by decide +kernel), by decide +kernel, .inr (.inr (.inl (by decide)))⟩,
    fun x hx => ⟨by fin_cases hx <;> simp [RefusedValue], by revert x; decide +kernel⟩, refused_steps⟩

theorem witness_LongCommandsEndWithTheirReply :
    (∀ c ∈ (on.inits.get .pay).commands, c.carrier ≠ some (.custody 0)) ∧
    ((busy.inits.get .pay).commands = [] ++ ⟨0, 0x13, false, some .commit⟩ :: [] ∧ (busy.ports.get .P).link = .up ∧ busy.commit ≠ none) ∧
    (({ on with inits := { on.inits with pay := { on.inits.pay with commands := [⟨0, 0x13, true, some .commit⟩] } } } : State).inits.get .pay).commands =
      [] ++ ⟨0, 0x13, true, some .commit⟩ :: [] ∧
    on.commit = none := by
  decide +kernel

theorem witness_QueriesReport :
    (CommandArrives .pay 0x01 (cmd []) on on ∧ (cmd []).params = [] ∧ on.gateTime ≤ 2 ^ 48 - 1) ∧ CommandArrives .app 0x01 (cmd []) on on ∧
    CommandArrives .rad 0x02 (cmd []) on on :=
  ⟨⟨commandArrives_of (by decide +kernel), rfl, by decide +kernel⟩, commandArrives_of (by decide +kernel),
    commandArrives_of (by decide +kernel)⟩

theorem witness_FaultFetchReturnsOldest :
    (CommandArrives .pay 0x03 (cmd [0]) busy busy ∧ (cmd [0]).params = [0]) ∧ (CommandArrives .app 0x03 (cmd [9]) fullOwn fullOwn ∧
      Domain.app = Scored.app.domain) :=
  ⟨⟨commandArrives_of (by decide +kernel), rfl⟩, commandArrives_of (by decide +kernel), rfl⟩

theorem witness_FlagAndControlCommands :
    (CommandArrives .rad 0x04 (cmd [2]) on on ∧ (cmd [2]).params = [Domain.rad.code]) ∧
    (CommandArrives .pay 0x40 (cmd [2]) on on ∧ (cmd [2]).params = [FaultClass.kind.code]) ∧
    (CommandArrives .pay 0x40 (cmd [9, 7, 200]) on on ∧ (cmd [9, 7, 200]).params = [FaultClass.cut.code, 7, 200]) ∧
    (CommandArrives .pay 0x44 (cmd [0, 1, 9]) on on ∧ (cmd [0, 1, 9]).params = [Domain.app.code, DomainStyle.mask.code, 9]) :=
  ⟨⟨commandArrives_of (by decide +kernel), rfl⟩, ⟨commandArrives_of (by decide +kernel), rfl⟩,
    ⟨commandArrives_of (by decide +kernel), rfl⟩, commandArrives_of (by decide +kernel), rfl⟩

theorem witness_ScoreCommands :
    (CommandArrives .app 0x05 (cmd [0]) on on ∧ (cmd [0]).params = [Scored.app.domain.code] ∧ on.gateTime ≤ 2 ^ 48 - 1 ∧
      ((on.scores.get .app).decay on.gateTime).lastDecay ≤ 2 ^ 48 - 1) ∧
    (CommandArrives .pay 0x41 (cmd [2, 100, 0, 50, 0, 3, 20, 4]) on on ∧ (cmd [2, 100, 0, 50, 0, 3, 20, 4]).params =
      [Scored.rad.domain.code] ++ leBytes 2 (100 : Half).toNat ++ leBytes 2 (50 : Half).toNat ++ [3] ++ leBytes 2 (1044 : Fin 65536).1) ∧
    (CommandArrives .pay 0x42 (cmd [0]) on on ∧ CommandArrives .pay 0x43 (cmd [0]) on on) :=
  ⟨⟨commandArrives_of (by decide +kernel), by decide +kernel⟩, ⟨commandArrives_of (by decide +kernel), by decide +kernel⟩,
    commandArrives_of (by decide +kernel), commandArrives_of (by decide +kernel)⟩

theorem witness_BankCommands :
    (CommandArrives .pay 0x10 (cmd []) busy busy ∧ (cmd []).params = []) ∧
    (CommandArrives .pay 0x11 (cmd (entryTop.image 95)) busy busy ∧ entryTop.Stored ∧ (cmd (entryTop.image 95)).params = entryTop.image (95 : Fin 96).1) ∧
    (CommandArrives .pay 0x12 (cmd [0, 95]) on on ∧ (cmd [0, 95]).params = [0, BitVec.ofNat 8 (95 : Fin 96).1] ∧
      (cmd [1, 95]).params = [1, BitVec.ofNat 8 (95 : Fin 96).1]) ∧
    (CommandArrives .pay 0x14 (cmd [95]) on on ∧ (cmd [95]).params = [BitVec.ofNat 8 (95 : Fin 96).1] ∧ on.commit = none ∧
      CommandArrives .pay 0x14 (cmd [95]) busy busy ∧ busy.commit ≠ none) :=
  ⟨⟨commandArrives_of (by decide +kernel), rfl⟩,
    ⟨commandArrives_of (by decide +kernel), ⟨by decide +kernel, by decide +kernel, by decide +kernel⟩, rfl⟩,
    ⟨commandArrives_of (by decide +kernel), by decide +kernel⟩, commandArrives_of (by decide +kernel), by decide +kernel,
    by decide +kernel, commandArrives_of (by decide +kernel), by decide +kernel⟩

/-- A validation begun 1 µs ago, of a bank whose entry 0 is `e`. -/
def validating (e : Entry) : State := { on with gateTime := 1, commit := some ⟨0, 0⟩, pendingBank := setAt on.pendingBank 0 e }

def selfEntry : Entry := { entry0 with target := .A }

theorem witness_CommitValidatesAndSwaps :
    (CommandArrives .pay 0x13 (cmd []) on on ∧ on.commit = none ∧ CommandArrives .pay 0x13 (cmd []) busy busy ∧ busy.commit ≠ none) ∧
    ((validating Entry.reset).commit = some ⟨0, 0⟩ ∧ 0 < (validating Entry.reset).gateTime ∧ ∀ i r, ¬Fails (validating Entry.reset) i r) ∧
    FirstOffender (validating selfEntry) 0 .selfTarget := by
  refine ⟨⟨commandArrives_of (by decide +kernel), by decide +kernel, commandArrives_of (by decide +kernel), by decide +kernel⟩,
    ⟨by decide +kernel, by decide +kernel, fun i r h => ?_⟩, fun j h => absurd h (Fin.not_lt_zero j), ?_, ?_⟩
  · have hv : ∀ i : Fin 96, ((validating Entry.reset).pendingBank.get i).valid = false := by decide +kernel
    have hp : ∀ i : Fin 96, ((validating Entry.reset).active.get i).pinned = false := by decide +kernel
    cases r <;> simp [Fails, hv i, hp i] at h
  · exact ⟨by decide +kernel, .app, by decide +kernel, by decide +kernel⟩
  · exact fun q hq => absurd hq (by cases q <;> decide)

/-- 256 bytes of port K from 0, one step. -/
def definition0 (p : Option Port) : UnitDefinition :=
  { port := p, start := 0, size := 16, events := false, style := .default, drain := ⟨30, 0⟩, settle := ⟨10, 0⟩, script := [⟨0, [1, 2]⟩] }

theorem definition0_stored (p : Option Port) : (definition0 p).Stored := by
  refine ⟨?_, ?_, ?_, ?_⟩
  · show (0 : Addr).toNat % 16 = 0
    decide
  · show (0 : Addr).toNat + sizeBytes 16 ≤ 2 ^ 32
    decide
  · show [(⟨0, [1, 2]⟩ : ScrubStep)].length ≤ 4
    decide
  · show ∀ st ∈ [(⟨0, [1, 2]⟩ : ScrubStep)], 1 ≤ st.data.length ∧ st.data.length ≤ 16
    decide

/-- Written with the start 0xFFFFFF05, the size 0xF0000011 and the times 0x141E and 0xFC0A. -/
def definitionClamped : UnitDefinition :=
  { definition0 (some .K) with start := 0xFFFFFF00, size := 16, drain := ⟨30, 3⟩, settle := ⟨10, 3⟩, script := [⟨0xFFFFFF00, [1, 2]⟩] }

/-- A definition that is aligned, limited and clamped (R16, R42), and fits. -/
theorem witness_UnitCommands_clamped :
    let params := definitionClamped.written 0 0xFFFFFF05 0xF0000011 0x141E 0xFC0A 3
    CommandArrives .pay 0x20 (cmd params) on on ∧ definitionClamped.StoredFrom 0xFFFFFF05 0xF0000011 0x141E 0xFC0A ∧
    (on.units.get 0).state = .opened ∧ definitionClamped.Fits on 0 .K ∧ ∀ i, ¬definitionClamped.GapAt on 0 .K i := by
  refine ⟨commandArrives_of (by decide +kernel), ?_, by decide +kernel, ⟨by decide +kernel, fun e => absurd (show false = true from e) (by decide),
    by decide +kernel⟩, fun i h => ?_⟩
  · unfold UnitDefinition.StoredFrom TimeCode.StoredFrom; decide +kernel
  · have hv : ∀ i : Fin 96, (on.active.get i).valid = false := by decide +kernel
    exact absurd h.1 (by rw [hv i]; decide)

/-- The same against the meaning: what is stored, and read back by UNIT_READ. -/
theorem test_define_clamps :
    (match execUnitDefine .P (cmd (definitionClamped.written 0 0xFFFFFF05 0xF0000011 0x141E 0xFC0A 3)) on with
      | .next t => (((t.units.get 0).start, (t.units.get 0).size), (t.units.get 0).drain, (t.units.get 0).settle)
      | _ => ((0, 0), ⟨0, 0⟩, ⟨0, 0⟩)) = ((0xFFFFFF00, 16), ⟨30, 3⟩, ⟨10, 3⟩) := by decide +kernel

/-- Unit 1 is defined over the first 256 bytes of K. -/
def otherUnit : State := { on with units := setAt on.units 1 (unit0 .opened) }

theorem fits_of {s : State} {p : Port}
    (h : ∀ v : Fin 8, v ≠ 0 → (s.units.get v).port = some p →
      ¬(0 < (s.units.get v).start.toNat + sizeBytes (s.units.get v).size ∧ (s.units.get v).start.toNat < 0 + sizeBytes 16)) :
    (definition0 (some p)).Fits s 0 p := by
  refine ⟨h, fun e => absurd (show false = true from e) (by decide), ?_⟩
  show ∀ st ∈ [(⟨0, [1, 2]⟩ : ScrubStep)], (0 : Addr).toNat ≤ st.addr.toNat ∧ st.addr.toNat + st.data.length ≤ (0 : Addr).toNat + sizeBytes 16
  decide

theorem witness_UnitCommands :
    (CommandArrives .pay 0x20 (cmd ((definition0 (some .K)).image 0)) on on ∧ (definition0 (some .K)).Stored ∧ (on.units.get 0).state = .opened ∧
      (definition0 (some .K)).Fits on 0 .K ∧ ∀ i, ¬(definition0 (some .K)).GapAt on 0 .K i) ∧
    (CommandArrives .pay 0x20 (cmd ((definition0 none).image 0)) on on ∧ (definition0 none).port = none) ∧
    (CommandArrives .pay 0x20 (cmd ((definition0 none).image 0)) busy busy ∧ (busy.units.get 0).state ≠ .opened) ∧
    (CommandArrives .pay 0x20 (cmd ((definition0 (some .K)).image 0)) otherUnit otherUnit ∧ (otherUnit.units.get 0).state = .opened ∧
      ¬(definition0 (some .K)).Fits otherUnit 0 .K) ∧
    (CommandArrives .pay 0x20 (cmd ((definition0 (some .K)).image 0)) (windowed entry0 on) (windowed entry0 on) ∧
      (definition0 (some .K)).Fits (windowed entry0 on) 0 .K ∧ (definition0 (some .K)).GapAt (windowed entry0 on) 0 .K 0) ∧
    (CommandArrives .pay 0x23 (cmd [7]) on on ∧ (cmd [7]).params = [BitVec.ofNat 8 (7 : Fin 8).1]) := by
  refine ⟨⟨commandArrives_of (by decide +kernel), definition0_stored _, by decide +kernel, fits_of (by decide +kernel), fun i h => ?_⟩,
    ⟨commandArrives_of (by decide +kernel), rfl⟩, ⟨commandArrives_of (by decide +kernel), by decide +kernel⟩,
    ⟨commandArrives_of (by decide +kernel), by decide +kernel, fun h => ?_⟩,
    ⟨commandArrives_of (by decide +kernel), fits_of (by decide +kernel), by unfold UnitDefinition.GapAt; decide +kernel⟩,
    commandArrives_of (by decide +kernel), rfl⟩
  · have hv : ∀ i : Fin 96, (on.active.get i).valid = false := by decide +kernel
    exact absurd h.1 (by rw [hv i]; decide)
  · exact h.1 1 (by decide) (by decide +kernel) (by decide +kernel)

/-- Unit 0 in a state, with `n` pieces in flight by a take. -/
def held (st : UnitState) (n : Nat) : State :=
  withUnit { unit0 st with inFlight := n, previous := .held .rad, hand := { Handover.idle with op := some .take } } on

theorem witness_CustodyTakeAndReturn :
    (CommandArrives .pay 0x21 (cmd [0, 3]) on on ∧ (on.units.get 0).port = none) ∧
    (∀ st ∈ [UnitState.draining .opened, .scrubbing .opened], (((held st 1).units.get 0).state).inHandover = true) ∧
    (CommandArrives .pay 0x21 (cmd [0, 3]) (held .opened 0) (held .opened 0) ∧ ((held .opened 0).units.get 0).port ≠ none ∧
      ((held .opened 0).units.get 0).state = .opened) ∧
    (CommandArrives .pay 0x21 (cmd [0, 1]) (held (.held .pay) 0) (held (.held .pay) 0) ∧ ((held (.held .pay) 0).units.get 0).state = .held .pay ∧
      Holding.held .app ≠ .held .pay) ∧
    ((held .failed 0).units.get 0).state = .failed ∧ (((held .opened 1).units.get 0).inFlight ≠ 0 ∧ ((held .opened 0).units.get 0).inFlight = 0) ∧
    (CommandArrives .pay 0x22 (cmd [0]) (held (.draining (.held .pay)) 1) (held (.draining (.held .pay)) 1) ∧
      ((held (.draining (.held .pay)) 1).units.get 0).state = .draining (.held .pay) ∧
      ((held (.draining (.held .pay)) 1).units.get 0).hand.op = some .take ∧ ((held (.draining (.held .pay)) 1).units.get 0).inFlight ≠ 0) ∧
    ((held (.draining (.held .pay)) 0).units.get 0).inFlight = 0 :=
  ⟨⟨commandArrives_of (by decide +kernel), by decide +kernel⟩, by decide +kernel, ⟨commandArrives_of (by decide +kernel), by decide +kernel⟩,
    ⟨commandArrives_of (by decide +kernel), by decide +kernel⟩, by decide +kernel, by decide +kernel,
    ⟨commandArrives_of (by decide +kernel), by decide +kernel⟩, by decide +kernel⟩

theorem witness_MeterCommands :
    (CommandArrives .pay 0x30 (cmd [0, 0, 0, 0, 0, 9, 0]) busy busy ∧
      (cmd [0, 0, 0, 0, 0, 9, 0]).params = [BitVec.ofNat 8 (0 : Fin 16).1] ++ leBytes 4 (0 : BitVec 32).toNat ++ leBytes 2 (9 : BitVec 16).toNat ∧
      ∃ i : Fin 96, (busy.active.get i).valid = true ∧ (busy.active.get i).meter = some 0) ∧
    (CommandArrives .pay 0x30 (cmd [0, 5, 0, 0, 0, 9, 0]) busy busy ∧ (5 : BitVec 32) ≠ 0 ∧ (busy.meters.get 0).waiting ≠ []) ∧
    (CommandArrives .pay 0x30 (cmd [15, 0, 0, 0, 0, 0, 0]) on on ∧ (on.meters.get 15).waiting = [] ∧
      ¬∃ i : Fin 96, (on.active.get i).valid = true ∧ (on.active.get i).meter = some 15) ∧
    (CommandArrives .pay 0x31 (cmd [0]) busy busy ∧ (cmd [0]).params = [BitVec.ofNat 8 (0 : Fin 16).1] ∧ busy.gateTime ≤ 2 ^ 48 - 1 ∧
      (busy.meters.get 0).release = some 812) :=
  ⟨⟨commandArrives_of (by decide +kernel), by decide +kernel, 0, by decide +kernel⟩,
    ⟨commandArrives_of (by decide +kernel), by decide, by decide +kernel⟩,
    ⟨commandArrives_of (by decide +kernel), by decide +kernel, by decide +kernel⟩, commandArrives_of (by decide +kernel), by decide +kernel⟩

/-- All fields of K's record with the route RAD, and a route for a port that sends no events. -/
theorem witness_PortSetStoresTheSelectedFields :
    (CommandArrives .pay 0x50 (cmd [3, 31, 100, 0, 20, 4, 1, 0, 9, 0, 0, 0, 2]) busy busy ∧
      (cmd [3, 31, 100, 0, 20, 4, 1, 0, 9, 0, 0, 0, 2]).params = [Port.K.byte, 31] ++ leBytes 2 (100 : BitVec 16).toNat
        ++ leBytes 2 (1044 : BitVec 16).toNat ++ leBytes 2 (1 : BitVec 16).toNat ++ leBytes 4 (9 : BitVec 32).toNat ++ [2] ∧
      (31 : Byte).getLsbD 4 = true ∧ (2 : Byte) = Domain.rad.code) ∧
    (CommandArrives .pay 0x50 (cmd [0, 16, 0, 0, 0, 0, 0, 0, 0, 0, 0, 0, 1]) on on ∧ (16 : Byte).getLsbD 4 = true ∧ (1 : Byte) ≠ 3 ∧
      Port.A.sendsEvents = false) :=
  ⟨⟨commandArrives_of (by decide +kernel), by decide +kernel⟩, commandArrives_of (by decide +kernel), by decide +kernel⟩

end Sys2Proof.Tests
end

section
/-! PROOFS. Peripheral events: the event unit of a port, where an event goes, and what its delivery does (R115 to R118). -/

namespace Sys2Proof.Machine

open Sys2Proof

/-! ### Arrival -/

theorem Arrives.units {p : Port} {pkt : Packet} {s s1 : State} (h : Arrives p pkt s s1) : s1.units = s.units := by
  obtain ⟨_, rfl⟩ := h.spec; rfl

theorem Arrives.config {p : Port} {pkt : Packet} {s s1 : State} (h : Arrives p pkt s s1) (q : Port) :
    (s1.ports.get q).config = (s.ports.get q).config := by
  obtain ⟨_, rfl⟩ := h.spec
  rw [PerPort.get_set]; split <;> simp_all

/-- An EVENT from a port that sends events, of the declared length and at most 16 bytes, passes the checks of R7. -/
theorem checkPacket_event {p : Port} {source code : Byte} {gap : Bool} {declared : Byte} {data : List Byte} (s : State)
    (hp : p.sendsEvents = true) (hl : data.length = declared.toNat) (hb : data.length ≤ 16) :
    checkPacket s p (.event source code gap declared data) = none := by
  simp only [checkPacket, if_pos hp, if_pos (And.intro hb hl)]

/-- An EVENT that arrives and passes the checks of R7 is routed; its own source and gap flag play no part (R3). -/
theorem exec_eventTaken_of_arrives {p : Port} {source code : Byte} {gap : Bool} {declared : Byte} {data : List Byte} {s s1 : State}
    (h : Arrives p (.event source code gap declared data) s s1) (hp : p.sendsEvents = true)
    (hl : data.length = declared.toNat) (hb : data.length ≤ 16) :
    exec (.eventTaken p source code gap declared data) s = .next (routeEvent p code data s1) := by
  simp only [exec, execEventTaken, takePacket_good h (checkPacket_event s1 hp hl hb)]

/-! ### The event unit -/

/-- No event unit is found exactly when no unit on the port carries events. -/
theorem eventUnit_eq_none {s : State} {p : Port} :
    eventUnit s p = none ↔ ∀ u : Fin 8, ¬((s.units.get u).port = some p ∧ (s.units.get u).events = true) := by
  simp only [eventUnit, List.find?_eq_none, Bool.and_eq_true, decide_eq_true_eq]
  constructor
  · exact fun h u => h _ (Vector.mem_toList_iff.mpr (Vector.getElem_mem u.2))
  · intro h v hv
    obtain ⟨i, hi, rfl⟩ := List.mem_iff_getElem.mp hv
    exact h ⟨i, by simpa using hi⟩

/-- The event unit is the first unit on the port that carries events. -/
theorem eventUnit_eq_some {s : State} {p : Port} {u : Fin 8}
    (hu : (s.units.get u).port = some p ∧ (s.units.get u).events = true)
    (hf : ∀ v : Fin 8, v < u → ¬((s.units.get v).port = some p ∧ (s.units.get v).events = true)) :
    eventUnit s p = some (s.units.get u) := by
  rw [eventUnit, List.find?_eq_some_iff_getElem]
  refine ⟨by simpa using hu, u.1, by simp, rfl, fun j hj => ?_⟩
  rw [Bool.not_eq_true', ← Bool.not_eq_true, Bool.and_eq_true, decide_eq_true_eq]
  exact hf ⟨j, hj.trans u.2⟩ hj

/-! ### The destination -/

/-- An event goes where the route or the custody state of the event unit sends it (R116). -/
theorem EventGoesTo.destination {s : State} {p : Port} {o : Option Domain} (h : EventGoesTo s p o) :
    eventDestination s p = o := by
  obtain ⟨hn, rfl⟩ | ⟨u, hport, hevents, hf, hstate⟩ := h
  · simp only [eventDestination, eventUnit_eq_none.mpr hn, State.port]
  · simp only [eventDestination, eventUnit_eq_some ⟨hport, hevents⟩ hf, State.port]
    obtain ⟨hs, rfl⟩ | ⟨d, hs, rfl⟩ | ⟨hopen, hheld, rfl⟩ := hstate
    · rw [hs]
    · rw [hs]
    · cases hs : (s.units.get u).state with
      | opened => exact absurd hs hopen
      | held d => exact absurd hs (hheld d)
      | draining _ => rfl
      | scrubbing _ => rfl
      | failed => rfl

/-- An arrival leaves the units and the routes, and so where an event goes. -/
theorem Arrives.eventDestination {p : Port} {pkt : Packet} {s s1 : State} (h : Arrives p pkt s s1) (q : Port) :
    eventDestination s1 q = eventDestination s q := by
  simp only [Machine.eventDestination, eventUnit, State.port, h.units, h.config]

/-! ### The delivery -/

/-- An event for a port that is not UP is discarded: gap flag and count stay (R117). -/
theorem deliverEvent_notUp {p : Port} {d : Domain} {code : Byte} {data : List Byte} {s : State}
    (h : (s.ports.get d.port).link ≠ .up) : deliverEvent p d code data s = s := by
  simp [deliverEvent, (s.isUp_eq_false d.port).2 h]

/-- While one of the 8 places is free, the event is placed with the gap flag, which it clears (R117). -/
theorem deliverEvent_placed {p : Port} {d : Domain} {code : Byte} {data : List Byte} {s : State}
    (h : (s.ports.get d.port).link = .up) (hc : (s.inits.get d).eventCount < 8) :
    deliverEvent p d code data s =
      { withOut d.port [.event p.byte code (s.inits.get d).gap data] s with
        inits := s.inits.set d
          { s.inits.get d with eventCount := (s.inits.get d).eventCount + 1, gap := false } } := by
  have hc : (s.init d).eventCount < Config.eventPlaces := hc
  rw [deliverEvent, if_pos ((s.isUp_iff d.port).2 h), if_pos hc, placeOut_up h]
  rfl

/-- With all 8 places taken, the event is dropped and the gap flag set (R117). -/
theorem deliverEvent_dropped {p : Port} {d : Domain} {code : Byte} {data : List Byte} {s : State}
    (h : (s.ports.get d.port).link = .up) (hc : 8 ≤ (s.inits.get d).eventCount) :
    deliverEvent p d code data s = { s with inits := s.inits.set d { s.inits.get d with gap := true } } := by
  have hc : ¬(s.init d).eventCount < Config.eventPlaces := Nat.not_lt.mpr hc
  rw [deliverEvent, if_pos ((s.isUp_iff d.port).2 h), if_neg hc]
  rfl

/-- Settles O47: the arrived packet passes R7 and goes to its destination, where the port's link and the count decide. -/
theorem eventIsRouted : Obligations.EventIsRouted := by
  intro p source code gap declared data o s s1 hp ha hl hb ho
  have hd : eventDestination s1 p = o := (ha.eventDestination p).trans ho.destination
  simp only [exec_eventTaken_of_arrives ha hp hl hb, routeEvent, hd, ← ha.inits, ← ha.link]
  refine ⟨?discarded, ?delivered⟩
  case discarded =>
    rintro rfl
    rfl
  case delivered =>
    rintro d rfl
    exact ⟨fun hup => congrArg _ (deliverEvent_notUp hup), fun hup hc => congrArg _ (deliverEvent_placed hup hc),
      fun hup hc => congrArg _ (deliverEvent_dropped hup hc)⟩

end Sys2Proof.Machine
end

section
/-! PROOFS. The fault unit's queues as they are read: FAULT_FETCH, its result and the notice it leaves (R131, R133, R172). -/

namespace Sys2Proof.Machine

open Sys2Proof

/-! ### Arrival -/

theorem Arrives.supQ {p : Port} {pkt : Packet} {s s1 : State} (h : Arrives p pkt s s1) : s1.supQ = s.supQ := by
  obtain ⟨_, rfl⟩ := h.spec; rfl

theorem Arrives.ownQ {p : Port} {pkt : Packet} {s s1 : State} (h : Arrives p pkt s s1) : s1.ownQ = s.ownQ := by
  obtain ⟨_, rfl⟩ := h.spec; rfl

/-- A FAULT_FETCH that arrives with one parameter is permitted on every initiator port and fetches. -/
theorem exec_faultFetch_of_arrives {d : Domain} {n : Byte} {m : MgmtPacket} {s s1 : State} (h : CommandArrives d 0x03 m s s1)
    (hm : m.params = [n]) :
    exec (.faultFetch d.port m) s = .next (fetchFaults d m n.toNat (withCommand d m 0x03 none s1)) := by
  simp only [exec, execFaultFetch, takeCommand_permitted h (permitted := anyPort) rfl, hm]

/-! ### The queue of a port -/

@[simp] theorem scoredOf_domain (x : Scored) : scoredOf x.domain = some x := by cases x <;> rfl

@[simp] theorem queueFill_setSupQ (q : FaultQueue FullRecord) (s : State) :
    queueFill (s.setSupQ q) .pay = q.records.length := rfl

@[simp] theorem queueFill_setOwnQ (x : Scored) (q : FaultQueue ReducedRecord) (s : State) :
    queueFill (s.setOwnQ x q) x.domain = q.records.length := by cases x <;> rfl

@[simp] theorem setArmed_setSupQ (b : Bool) (q : FaultQueue FullRecord) (s : State) :
    setArmed .pay b (s.setSupQ q) = s.setSupQ { q with armed := b } := rfl

@[simp] theorem setArmed_setOwnQ (x : Scored) (b : Bool) (q : FaultQueue ReducedRecord) (s : State) :
    setArmed x.domain b (s.setOwnQ x q) = s.setOwnQ x { q with armed := b } := by cases x <;> rfl

@[simp] theorem setArmed_ports (d : Domain) (b : Bool) (s : State) : (setArmed d b s).ports = s.ports := by cases d <;> rfl

/-- A fetch never asks for more records than the queue holds. -/
theorem fetchCount_le_fill (n fill fits : Nat) : fetchCount n fill fits ≤ fill := by
  unfold fetchCount; omega

/-- A fetch of `k` records empties a queue exactly when it held no more. -/
theorem FaultQueue.fetched_length_eq_zero {α : Type} {q : FaultQueue α} {k : Nat} (hk : k ≤ q.records.length) :
    (q.fetched k).records.length = 0 ↔ q.records.length = k := by
  simp only [FaultQueue.fetched, List.length_drop]; omega

/-! ### The notice -/

theorem handFaultNotice_up {d : Domain} {s : State} (h : (s.ports.get d.port).link = .up) :
    handFaultNotice d s = withFaultNotice d s := by
  simp only [handFaultNotice, withFaultNotice, (s.isUp_iff d.port).2 h, true_and, placeOut_up h]
  rfl

/-- After a fetch on an UP port an empty queue has its notice ARMED; else the notice is DISARMED and the reader told (R131). -/
theorem afterFetch_up {d : Domain} {s : State} (h : (s.ports.get d.port).link = .up) :
    afterFetch d s =
      if queueFill s d = 0 then setArmed d true s else withFaultNotice d (setArmed d false s) := by
  have hu : ((setArmed d false s).ports.get d.port).link = .up := by rwa [setArmed_ports]
  simp only [afterFetch, tellReader, handFaultNotice_up hu]

/-! ### The fetch -/

/-- P's fetch takes its records from the supervisor queue, of which 2 fit the reply (R133). -/
theorem fetchFaults_pay {m : MgmtPacket} {n : Nat} {s s1 : State} (h : CommandArrives .pay 0x03 m s s1) :
    let q := s.supQ
    let k := fetchCount n q.records.length 2
    let t := answered .pay m 0x03 .ok (q.fetchBytes k 30 FullRecord.image) s1
    fetchFaults .pay m n (withCommand .pay m 0x03 none s1) =
      if q.records.length = k then t.setSupQ { q.fetched k with armed := true }
      else withFaultNotice .pay (t.setSupQ { q.fetched k with armed := false }) := by
  intro q k t
  have hq : (withCommand .pay m 0x03 none s1).supQ = q := h.1.supQ
  have hreply : reply .pay m.tag .ok (q.fetchBytes k 30 FullRecord.image)
      ((withCommand .pay m 0x03 none s1).setSupQ (q.fetched k)) = t.setSupQ (q.fetched k) := reply_up h.1.up
  have hup : ((t.setSupQ (q.fetched k)).ports.get Domain.pay.port).link = .up := by
    simpa [t, answered, withOut, withCommand] using h.1.up
  have hk : k ≤ q.records.length := fetchCount_le_fill _ _ _
  calc fetchFaults .pay m n (withCommand .pay m 0x03 none s1)
      = afterFetch .pay (t.setSupQ (q.fetched k)) := by simp only [fetchFaults, scoredOf, hq]; rw [← hreply]
    _ = _ := by
      simp only [afterFetch_up hup, queueFill_setSupQ, setArmed_setSupQ, FaultQueue.fetched_length_eq_zero hk]

/-- A's or M's fetch takes its records from the own queue, of which 3 fit the reply (R133). -/
theorem fetchFaults_scored {x : Scored} {m : MgmtPacket} {n : Nat} {s s1 : State} (h : CommandArrives x.domain 0x03 m s s1) :
    let q := s.ownQ.get x
    let k := fetchCount n q.records.length 3
    let t := answered x.domain m 0x03 .ok (q.fetchBytes k 18 ReducedRecord.image) s1
    fetchFaults x.domain m n (withCommand x.domain m 0x03 none s1) =
      if q.records.length = k then t.setOwnQ x { q.fetched k with armed := true }
      else withFaultNotice x.domain (t.setOwnQ x { q.fetched k with armed := false }) := by
  intro q k t
  have hq : (withCommand x.domain m 0x03 none s1).ownQ.get x = q := congrArg (·.get x) h.1.ownQ
  have hreply : reply x.domain m.tag .ok (q.fetchBytes k 18 ReducedRecord.image)
      ((withCommand x.domain m 0x03 none s1).setOwnQ x (q.fetched k)) = t.setOwnQ x (q.fetched k) := reply_up h.1.up
  have hup : ((t.setOwnQ x (q.fetched k)).ports.get x.domain.port).link = .up := by
    simpa [t, answered, withOut, withCommand] using h.1.up
  have hk : k ≤ q.records.length := fetchCount_le_fill _ _ _
  calc fetchFaults x.domain m n (withCommand x.domain m 0x03 none s1)
      = afterFetch x.domain (t.setOwnQ x (q.fetched k)) := by simp only [fetchFaults, scoredOf_domain, hq]; rw [← hreply]
    _ = _ := by
      simp only [afterFetch_up hup, queueFill_setOwnQ, setArmed_setOwnQ, FaultQueue.fetched_length_eq_zero hk]

/-- Settles O52: the command is taken, and the fetch reads the queue of its port as it was before. -/
theorem faultFetchReturnsOldest : Obligations.FaultFetchReturnsOldest := by
  intro d n m s s1 h hm
  rw [exec_faultFetch_of_arrives h hm]
  refine ⟨?supervisor, ?own⟩
  case supervisor =>
    rintro rfl
    exact congrArg _ (fetchFaults_pay h)
  case own =>
    rintro x rfl
    refine congrArg _ ((fetchFaults_scored h).trans ?_)
    simp only [State.setOwnQ, ← h.1.ownQ]
    rfl

end Sys2Proof.Machine
end

section
/-! PROOFS. The score unit: what a fault charges, and how a charge judges the advisory and the quarantine (R126, R140). -/

namespace Sys2Proof.Machine

open Sys2Proof

/-! ### What a record leaves -/

/-- What the score unit judges by: the score records and the domain records, which hold the modes (R138). -/
def State.scoring (s : State) : PerScored ScoreRecord × PerDomain DomainRecord := (s.scores, s.domains)

@[simp] theorem placeOut_scoring (p : Port) (pkt : OutPacket) (s : State) : (placeOut p pkt s).scoring = s.scoring := by
  unfold placeOut; split <;> rfl

@[simp] theorem setArmed_scoring (d : Domain) (b : Bool) (s : State) : (setArmed d b s).scoring = s.scoring := by
  cases d <;> rfl

@[simp] theorem handFaultNotice_scoring (d : Domain) (s : State) : (handFaultNotice d s).scoring = s.scoring := by
  unfold handFaultNotice
  split
  · exact placeOut_scoring d.port (.notice .fault) s
  · rfl

@[simp] theorem afterPlacing_scoring (d : Domain) (n : Nat) (s : State) : (afterPlacing d n s).scoring = s.scoring := by
  unfold afterPlacing
  split
  · rw [tellReader, handFaultNotice_scoring, setArmed_scoring]
  · rfl

/-- A fault's record goes to a queue, and a notice to its reader: scores and modes stay. -/
theorem recordFault_scoring (e : FaultEvent) (s : State) : (recordFault e s).scoring = s.scoring := by
  unfold recordFault
  split
  · split
    · exact afterPlacing_scoring _ _ _
    · exact afterPlacing_scoring _ _ _
  · rfl

@[simp] theorem recordFault_scores (e : FaultEvent) (s : State) : (recordFault e s).scores = s.scores :=
  congrArg Prod.fst (recordFault_scoring e s)

@[simp] theorem recordFault_domains (e : FaultEvent) (s : State) : (recordFault e s).domains = s.domains :=
  congrArg Prod.snd (recordFault_scoring e s)

@[simp] theorem recordFault_control (e : FaultEvent) (s : State) (c : FaultClass) : (recordFault e s).control c = s.control c :=
  congrArg (·.get c.index) (Quiet.recordFault e s).controls

/-! ### Which faults charge -/

/-- A fault of a scored domain whose class is chargeable and weighs something charges that domain, after its record. -/
theorem raiseFault_charges {e : FaultEvent} {x : Scored} {s : State} (hd : e.dom = some x.domain)
    (hc : e.cls.chargeable = true) (hw : (s.control e.cls).weight ≠ 0) :
    raiseFault e s = chargeScore x (s.control e.cls).weight.toNat (recordFault e s) := by
  simp only [raiseFault, chargeFault, hd, Option.bind_some, scoredOf_domain, recordFault_control, if_pos (And.intro hc hw)]

/-- A fault attributed to no domain or to PAY is recorded and charges nothing. -/
theorem raiseFault_unscored {e : FaultEvent} {s : State} (h : e.dom.bind scoredOf = none) : raiseFault e s = recordFault e s := by
  simp only [raiseFault, chargeFault, h]

/-- A fault whose class is not chargeable or weighs nothing is recorded and charges nothing. -/
theorem raiseFault_weightless {e : FaultEvent} {s : State} (h : ¬(e.cls.chargeable = true ∧ (s.control e.cls).weight ≠ 0)) :
    raiseFault e s = recordFault e s := by
  simp only [raiseFault, chargeFault, recordFault_control, if_neg h]
  split <;> rfl

/-! ### The advisory -/

/-- The arming that a charge leaves: armed below the advisory threshold, disarmed from it on, as it was where there is none. -/
def ScoreRecord.armedAfter (r : ScoreRecord) : Bool :=
  if r.advisory = 0 then r.armed else if r.score < r.advisory.toNat then true else false

/-- The charged record as the advisory leaves it. -/
def ScoreRecord.advised (r : ScoreRecord) : ScoreRecord := { r with armed := r.armedAfter }

/-- Writing the arming that the advisory leaves is what the advisory does to the score records. -/
theorem State.modScore_armed {x : Scored} {r : ScoreRecord} {b : Bool} {s : State} (hr : s.scores.get x = r)
    (h : r.armedAfter = b) : s.modScore x (fun v => { v with armed := b }) = s.modScore x ScoreRecord.advised := by
  simp only [State.modScore, ScoreRecord.advised, hr, h]

/-- Where the arming stays, so does the state. -/
theorem State.modScore_advised_of_eq {x : Scored} {r : ScoreRecord} {s : State} (hr : s.scores.get x = r)
    (h : r.armedAfter = r.armed) : s.modScore x ScoreRecord.advised = s := by
  have hsame : (s.scores.get x).advised = s.scores.get x := by simp only [ScoreRecord.advised, hr, h]
  simp only [State.modScore, hsame, PerScored.set_get]

/-- The advisory sets the arming, and raises its fault where the score of an armed advisory is at its threshold or above. -/
theorem judgeAdvisory_eq {x : Scored} {r : ScoreRecord} {s : State} (hr : s.scores.get x = r) :
    judgeAdvisory x s =
      if r.advisory ≠ 0 ∧ r.advisory.toNat ≤ r.score ∧ r.armed = true then
        recordFault (scoreFault x .scoreAdvisory r.score) (s.modScore x ScoreRecord.advised)
      else s.modScore x ScoreRecord.advised := by
  simp only [judgeAdvisory, hr]
  by_cases hzero : r.advisory = 0
  · rw [if_pos hzero, if_neg (fun h => h.1 hzero)]
    exact (State.modScore_advised_of_eq hr (if_pos hzero)).symm
  have harming : r.armedAfter = if r.score < r.advisory.toNat then true else false := if_neg hzero
  rw [if_neg hzero]
  by_cases hbelow : r.score < r.advisory.toNat
  · rw [if_pos hbelow, if_neg (fun h => Nat.not_le.mpr hbelow h.2.1)]
    exact State.modScore_armed hr (harming.trans (if_pos hbelow))
  have hdisarms : r.armedAfter = false := harming.trans (if_neg hbelow)
  rw [if_neg hbelow]
  by_cases harmed : r.armed = true
  · rw [if_pos harmed, if_pos ⟨hzero, Nat.not_lt.mp hbelow, harmed⟩, State.modScore_armed hr hdisarms]
  · rw [if_neg harmed, if_neg (fun h => harmed h.2.2)]
    exact (State.modScore_advised_of_eq hr (hdisarms.trans (Bool.eq_false_iff.mpr harmed).symm)).symm

/-- The advisory changes of its domain's record the arming alone, its fault included. -/
theorem judgeAdvisory_record (x : Scored) (s : State) :
    (judgeAdvisory x s).scores.get x = (s.scores.get x).advised := by
  rw [judgeAdvisory_eq rfl]
  split <;> simp

@[simp] theorem judgeAdvisory_domains (x : Scored) (s : State) : (judgeAdvisory x s).domains = s.domains := by
  rw [judgeAdvisory_eq rfl]
  split <;> simp

/-! ### The charge -/

/-- A charge writes the charged and advised record, and raises the advisory's fault by the charged one. -/
theorem judgeAdvisory_charge (x : Scored) (w : Nat) (s : State) :
    judgeAdvisory x (s.modScore x (fun r => r.charge s.gateTime w)) =
      let r := (s.scores.get x).charge s.gateTime w
      let s1 := { s with scores := s.scores.set x r.advised }
      if r.advisory ≠ 0 ∧ r.advisory.toNat ≤ r.score ∧ r.armed = true then
        recordFault (scoreFault x .scoreAdvisory r.score) s1
      else s1 := by
  rw [judgeAdvisory_eq rfl]
  simp only [State.modScore, PerScored.get_set_same, PerScored.set_set]

/-- The quarantine is judged by the charged score and the mode before the charge: the mode first, then the fault. -/
theorem chargeScore_eq (x : Scored) (w : Nat) (s : State) :
    chargeScore x w s =
      let r := (s.scores.get x).charge s.gateTime w
      let s2 := judgeAdvisory x (s.modScore x (fun r => r.charge s.gateTime w))
      if r.quarantine ≠ 0 ∧ r.quarantine.toNat ≤ r.score ∧ (s.domain x.domain).mode = .normal then
        recordFault (scoreFault x .quarantined r.score)
          { s2 with domains := s2.domains.set x.domain { s.domain x.domain with mode := .quarantined } }
      else s2 := by
  simp only [chargeScore, judgeQuarantine, judgeAdvisory_record, State.modScore_scores, PerScored.get_set_same,
    State.domain, State.modDomain, judgeAdvisory_domains, State.modScore_domains, ScoreRecord.advised]

/-- Settles O25: the record comes first, then the charge, whose advisory and quarantine are judged by the charged record. -/
theorem faultChargesAndJudges : Obligations.FaultChargesAndJudges := by
  refine ⟨fun e s => ⟨?charged, ?uncharged⟩, ?judged⟩
  case charged => exact fun x hd hc hw => raiseFault_charges hd hc hw
  case uncharged =>
    rintro (hnone | hpay | hfree | hzero)
    · exact raiseFault_unscored (congrArg (·.bind scoredOf) hnone)
    · exact raiseFault_unscored (congrArg (·.bind scoredOf) hpay)
    · exact raiseFault_weightless (fun h => Bool.false_ne_true (hfree.symm.trans h.1))
    · exact raiseFault_weightless (fun h => h.2 hzero)
  case judged =>
    intro x w s r score fault advise armed s1 s2
    have hs2 : judgeAdvisory x (s.modScore x (fun r => r.charge s.gateTime w)) = s2 := judgeAdvisory_charge x w s
    have hcharge := chargeScore_eq x w s
    rw [hs2] at hcharge
    exact ⟨fun h => hcharge.trans (if_pos h), fun h => hcharge.trans (if_neg h)⟩

end Sys2Proof.Machine
end

section
/-! PROOFS. The queries: STATUS, whose report depends on its caller, and TIME_READ (R162, R163, R173). -/

namespace Sys2Proof.Machine

open Sys2Proof

/-! ### The fields of the reports -/

@[simp] theorem partBytes_eq : partBytes = [0x40, 0x03, 0x41] := by decide

/-- Gate time up to its largest value is reported as it is (R15). -/
theorem timeBytes_of_le {t : Nat} (h : t ≤ 2 ^ 48 - 1) : timeBytes t = leBytes 6 t := if_pos h

/-- The mode byte is the yes-or-no byte of quarantine (R173). -/
theorem Mode.code_eq_boolByte (v : Mode) : v.code = boolByte (decide (v = .quarantined)) := by cases v <;> rfl

/-- A byte of flags is the sum of the bits of its members: flag `u` has the weight `2 ^ u`. -/
theorem flagByte_map_finRange {n : Nat} (f : Fin n → Bool) :
    flagByte ((List.finRange n).map f) = ((List.finRange n).map (fun u => if f u then 2 ^ u.1 else 0)).sum := by
  induction n with
  | zero => rfl
  | succ n ih =>
    have htail : 2 * flagByte ((List.finRange n).map (f ∘ Fin.succ)) =
        ((List.finRange n).map (fun u => if f u.succ then 2 ^ (u.1 + 1) else 0)).sum := by
      rw [ih, ← List.sum_map_mul_left]
      simp only [Function.comp_apply, mul_ite, mul_zero, pow_succ']
    simp only [List.finRange_succ, List.map_cons, List.map_map, flagByte, htail, List.sum_cons]
    rfl

/-- The held units of a domain as a set in one byte (R162). -/
theorem flagByte_heldUnits (s : State) (d : Domain) :
    flagByte (allUnits.map (fun u => decide ((s.unit u).state = .held d))) =
      ((List.finRange 8).map (fun u => if (s.units.get u).state = .held d then 2 ^ u.1 else 0)).sum := by
  have hunits : allUnits = List.finRange 8 := by decide
  rw [hunits, flagByte_map_finRange]
  simp only [decide_eq_true_eq]
  rfl

/-! ### What the reports read -/

/-- The report to P, its fields one by one (R173). -/
theorem fullStatus_eq {s : State} (ht : s.gateTime ≤ 2 ^ 48 - 1) :
    let mode := fun (x : Domain) => boolByte (decide ((s.domains.get x).mode = .quarantined))
    let unit := fun (u : Fin 8) => (s.units.get u).state.byte
    let fill := fun (x : Domain) => BitVec.ofNat 8 (queueFill s x)
    fullStatus s =
      [0x40, 0x03, 0x41, s.resetCause.code] ++ leBytes 6 s.gateTime ++ leBytes 2 s.generation.toNat
      ++ [boolByte s.commit.isSome, s.ports.a.link.code, s.ports.p.link.code, s.ports.m.link.code, s.ports.k.link.code,
          s.ports.d.link.code, s.ports.c.link.code, s.ports.s.link.code, mode .app, mode .pay, mode .rad]
      ++ leBytes 2 s.scores.app.score ++ leBytes 2 s.scores.rad.score
      ++ [unit 0, unit 1, unit 2, unit 3, unit 4, unit 5, unit 6, unit 7, fill .pay, fill .app, fill .rad] := by
  simp only [fullStatus, partBytes_eq, timeBytes_of_le ht, Mode.code_eq_boolByte]
  rfl

/-- The report to A or M, its fields one by one (R173). -/
theorem reducedStatus_eq (s : State) (d : Domain) :
    reducedStatus s d =
      [0x40, 0x03, 0x41, boolByte (decide ((s.domains.get d).mode = .quarantined)),
        BitVec.ofNat 8 (((List.finRange 8).map (fun u => if (s.units.get u).state = .held d then 2 ^ u.1 else 0)).sum),
        BitVec.ofNat 8 (queueFill s d)] ++ leBytes 2 s.generation.toNat := by
  simp only [reducedStatus, partBytes_eq, flagByte_heldUnits, Mode.code_eq_boolByte]
  rfl

/-- Taking a packet changes nothing that P's report reads: of the ports it reads the links alone. -/
theorem Arrives.fullStatus {p : Port} {pkt : Packet} {s s1 : State} (h : Arrives p pkt s s1) :
    fullStatus s1 = fullStatus s := by
  have hlinks : allPorts.map (fun q => (s1.port q).link.code) = allPorts.map (fun q => (s.port q).link.code) :=
    List.map_congr_left (fun q _ => congrArg LinkState.code (h.link q))
  unfold Machine.fullStatus
  rw [hlinks]
  obtain ⟨_, rfl⟩ := h.spec
  rfl

theorem Arrives.reducedStatus {p : Port} {pkt : Packet} {s s1 : State} (h : Arrives p pkt s s1) (d : Domain) :
    reducedStatus s1 d = reducedStatus s d := by
  obtain ⟨_, rfl⟩ := h.spec; rfl

theorem Arrives.gateTime {p : Port} {pkt : Packet} {s s1 : State} (h : Arrives p pkt s s1) : s1.gateTime = s.gateTime := by
  obtain ⟨_, rfl⟩ := h.spec; rfl

/-! ### The queries -/

/-- STATUS without parameters, permitted on every initiator port, reports the state in which it came (R162). -/
theorem exec_status_of_arrives {d : Domain} {m : MgmtPacket} {s s1 : State} (h : CommandArrives d 0x01 m s s1)
    (hm : m.params = []) :
    exec (.status d.port m) s =
      .next (answered d m 0x01 .ok (if d = .pay then fullStatus s else reducedStatus s d) s1) := by
  have hfull : fullStatus (withCommand d m 0x01 none s1) = fullStatus s := h.1.fullStatus
  have hreduced : reducedStatus (withCommand d m 0x01 none s1) d = reducedStatus s d := h.1.reducedStatus d
  simp only [exec, execStatus, takeCommand_permitted h (permitted := anyPort) rfl, hm, hfull, hreduced, reply_answered h]

/-- TIME_READ without parameters, permitted on every initiator port, reports gate time (R163). -/
theorem exec_timeRead_of_arrives {d : Domain} {m : MgmtPacket} {s s1 : State} (h : CommandArrives d 0x02 m s s1)
    (hm : m.params = []) :
    exec (.timeRead d.port m) s = .next (answered d m 0x02 .ok (timeBytes s.gateTime) s1) := by
  have htime : (withCommand d m 0x02 none s1).gateTime = s.gateTime := h.1.gateTime
  simp only [exec, execTimeRead, takeCommand_permitted h (permitted := anyPort) rfl, hm, htime, reply_answered h]

/-- Settles O51: the report is made of the state before the command, and its caller selects the image. -/
theorem queriesReport : Obligations.QueriesReport := by
  intro d m s s1 hm ht yes mode unit fill
  have hfill (x : Domain) : fill x = BitVec.ofNat 8 (queueFill s x) := by cases x <;> rfl
  refine ⟨fun h => ?status, fun h => ?timeRead⟩
  case status =>
    rw [exec_status_of_arrives h hm, fullStatus_eq ht, reducedStatus_eq]
    simp only [hfill]
    rfl
  case timeRead =>
    rw [exec_timeRead_of_arrives h hm, timeBytes_of_le ht]

end Sys2Proof.Machine
end

section
/-! PROOFS. What answers, notices and replies leave, and the failure of a scrub (R53, R94, R99, R103 to R109). -/

namespace Sys2Proof.Machine

open Sys2Proof

/-- The state with other units. -/
def State.setUnits (v : Vector CustodyUnit 8) (s : State) : State := { s with units := v }

/-! ### Packets to initiators, notices, faults and replies -/

/-- `t` is `s` after answers, notices, replies, flags and faults: units, requests and meters are untouched; every port has at most more
packets in its outbound queue, none of them a piece or scrub step; every domain keeps its style and fill. -/
structure Tells (s t : State) : Prop where
  rest   : (t.units, t.requests, t.meters) = (s.units, s.requests, s.meters)
  port   : ∀ p, ∃ more : List OutPacket, requestTags more = [] ∧
    t.ports.get p = { s.ports.get p with outbound := (s.ports.get p).outbound ++ more }
  domain : ∀ d, ∃ v, t.domains.get d = { s.domains.get d with mode := v }

namespace Tells

theorem refl (s : State) : Tells s s := ⟨rfl, fun _ => ⟨[], rfl, by simp⟩, fun _ => ⟨_, rfl⟩⟩

theorem trans {s t u : State} (h : Tells s t) (g : Tells t u) : Tells s u := by
  refine ⟨g.rest.trans h.rest, fun p => ?_, fun d => ?_⟩
  · obtain ⟨m1, t1, e1⟩ := h.port p
    obtain ⟨m2, t2, e2⟩ := g.port p
    refine ⟨m1 ++ m2, ?_, by rw [e2, e1]; simp⟩
    unfold requestTags at t1 t2 ⊢
    rw [List.filterMap_append, t1, t2]
    rfl
  · obtain ⟨v1, e1⟩ := h.domain d
    obtain ⟨v2, e2⟩ := g.domain d
    exact ⟨v2, by rw [e2, e1]⟩

theorem foldl {α : Type} {f : State → α → State} (h : ∀ s x, Tells s (f s x)) (l : List α) (s : State) : Tells s (l.foldl f s) := by
  induction l generalizing s with
  | nil => exact refl s
  | cons x xs ih => exact (h s x).trans (ih _)

theorem units {s t : State} (h : Tells s t) : t.units = s.units := congrArg (fun x => x.1) h.rest

theorem requests {s t : State} (h : Tells s t) : t.requests = s.requests := congrArg (fun x => x.2.1) h.rest

theorem meters {s t : State} (h : Tells s t) : t.meters = s.meters := congrArg (fun x => x.2.2) h.rest

theorem link {s t : State} (h : Tells s t) (p : Port) : (t.ports.get p).link = (s.ports.get p).link := by
  obtain ⟨_, -, e⟩ := h.port p; rw [e]

theorem style {s t : State} (h : Tells s t) (d : Domain) : (t.domains.get d).style = (s.domains.get d).style := by
  obtain ⟨_, e⟩ := h.domain d; rw [e]

theorem fill {s t : State} (h : Tells s t) (d : Domain) : (t.domains.get d).fill = (s.domains.get d).fill := by
  obtain ⟨_, e⟩ := h.domain d; rw [e]

/-- A change of the units goes along. -/
theorem withUnits {s t : State} (h : Tells s t) (v : Vector CustodyUnit 8) : Tells (s.setUnits v) (t.setUnits v) :=
  ⟨by simp only [State.setUnits, h.requests, h.meters], h.port, h.domain⟩

/-- What is said of everything but units, requests, meters, ports and domains is not asked. -/
theorem of_eq {s t : State} (h : (t.units, t.requests, t.meters) = (s.units, s.requests, s.meters)) (hp : t.ports = s.ports)
    (hd : t.domains = s.domains) : Tells s t :=
  ⟨h, fun p => ⟨[], rfl, by rw [hp]; simp⟩, fun d => ⟨_, by rw [hd]⟩⟩

theorem modInit (d : Domain) (f : InitState → InitState) (s : State) : Tells s (s.modInit d f) := of_eq rfl rfl rfl

theorem setFlag (d : Domain) (f : Flag) (s : State) : Tells s (setFlag d f s) := of_eq rfl rfl rfl

theorem of_faultOnly {s t : State} (h : FaultOnly s t) : Tells s t := by
  refine ⟨by rw [h.units, h.requests, h.meters], fun p => ?_, h.domain⟩
  obtain ⟨more, hm, e⟩ := h.port p
  refine ⟨more, List.filterMap_eq_nil_iff.mpr fun x hx => ?_, e⟩
  rw [hm x hx]

theorem raiseFault (e : FaultEvent) (s : State) : Tells s (raiseFault e s) := of_faultOnly (FaultOnly.raiseFault e s)

theorem placeOut {p : Port} {pkt : OutPacket} (h : requestTags [pkt] = []) (s : State) : Tells s (placeOut p pkt s) := by
  unfold Machine.placeOut
  split
  · refine ⟨rfl, fun q => ?_, fun _ => ⟨_, rfl⟩⟩
    by_cases hq : q = p
    · subst hq; exact ⟨[pkt], h, by simp [State.modPort]⟩
    · exact ⟨[], rfl, by simp [State.modPort, PerPort.get_set_other _ _ hq]⟩
  · exact refl s

theorem answerTo (d : Domain) (tag : Option (Fin 32)) (st : AnswerStatus) (data : List Byte) (s : State) :
    Tells s (answerTo d tag st data s) := by
  cases tag with
  | none => exact refl s
  | some t => exact placeOut rfl s

theorem handCustodyNotice (d : Domain) (s : State) : Tells s (handCustodyNotice d s) := by
  unfold Machine.handCustodyNotice
  split
  · split
    · exact (placeOut rfl s).trans (modInit _ _ _)
    · exact modInit _ _ s
  · exact refl s
  · exact refl s

theorem handFaultNotice (d : Domain) (s : State) : Tells s (handFaultNotice d s) := of_faultOnly (FaultOnly.handFaultNotice d s)

theorem reply (d : Domain) (t : Fin 4) (st : ReplyStatus) (res : List Byte) (s : State) : Tells s (reply d t st res s) :=
  placeOut rfl s

theorem endCommand (c : Carrier) (st : ReplyStatus) (res : List Byte) (s : State) : Tells s (endCommand c st res s) := by
  unfold Machine.endCommand
  split
  · exact refl s
  · split
    · exact modInit _ _ s
    · exact (modInit _ _ s).trans (reply _ _ _ _ _)

theorem sendNotices (a b : Resting) (s : State) : Tells s (sendNotices a b s) := foldl (fun t d => handCustodyNotice d t) _ s

theorem denyRequest (c : FaultClass) (q : Arrival) (e : Option EntryCopy) (u : Option (Fin 8)) (style : Style) (s : State) :
    Tells s (denyRequest c q e u style s) := by
  unfold Machine.denyRequest
  split
  · exact (answerTo _ _ _ _ s).trans ((setFlag _ _ _).trans (raiseFault _ _))
  · exact (answerTo _ _ _ _ s).trans ((setFlag _ _ _).trans (raiseFault _ _))

end Tells

/-! ### The failure of a scrub (R106) -/

/-- Two folds agree where their steps agree under an invariant. -/
theorem foldl_congr_of_inv {α : Type} {f g : State → α → State} {inv : State → Prop} (hfg : ∀ s x, inv s → f s x = g s x)
    (hinv : ∀ s x, inv s → inv (f s x)) (l : List α) {s : State} (hs : inv s) : l.foldl f s = l.foldl g s := by
  induction l generalizing s with
  | nil => rfl
  | cons x xs ih => rw [List.foldl_cons, List.foldl_cons, ← hfg s x hs]; exact ih (hinv s x hs)

/-- A unit that FAILED, with its settle timer stopped (R106). -/
def CustodyUnit.failed (v : CustodyUnit) : CustodyUnit := { v with state := .failed, hand := { v.hand with settleTimer := none } }

/-- The style in which a unit denies a request of `d`: its own or the domain's (R32). -/
theorem style_effective (v : Style) (x : DomainStyle) :
    v.effective x = match v with
      | .refuse => DomainStyle.refuse
      | .mask => DomainStyle.mask
      | .default => x := by
  cases v <;> rfl

/-- A FAILED unit denies each of its parked requests, in order (R53, R108). -/
theorem redecideParked_failed {u : Fin 8} {s : State} (hf : (s.units.get u).state = .failed) :
    redecideParked u s =
      (s.units.get u).parked.foldl
        (fun x k => withCustodyDenial ((s.units.get u).style.effective (s.domains.get k.req.dom).style) k.req k.entry u x)
        { s with units := setAt s.units u { s.units.get u with parked := [] } } := by
  have hdeny (x : State) (k : Parked) (hx : x.units.get u = { s.units.get u with parked := [] }) :
      redecideOne u x k = denyCustody u k.req k.entry x := by
    have hanswer : (x.unit u).answer k.req.dom (piecesThrough x k.req k.entry) = .deny := by
      unfold CustodyUnit.answer
      rw [show (x.unit u).state = .failed from (congrArg CustodyUnit.state hx).trans hf]
    unfold redecideOne
    rw [hanswer]
  unfold redecideParked
  refine foldl_congr_of_inv (inv := fun x => x.units.get u = { s.units.get u with parked := [] } ∧
    ∀ d, (x.domains.get d).style = (s.domains.get d).style) (fun x k hx => ?_) (fun x k hx => ?_) _ ⟨setAt_get_same _ _ _, fun _ => rfl⟩
  · obtain ⟨hu, hd⟩ := hx
    rw [hdeny x k hu, denyCustody_eq, hu, hd]
  · obtain ⟨hu, hd⟩ := hx
    have ht : Tells x (redecideOne u x k) := hdeny x k hu ▸ Tells.denyRequest _ _ _ _ _ x
    exact ⟨(congrArg (fun l => l.get u) ht.units).trans hu, fun d => (ht.style d).trans (hd d)⟩

/-- Deciding again tells, and leaves the unit with nothing parked, where the unit FAILED. -/
theorem redecideParked_failed_tells {u : Fin 8} {s : State} (hf : (s.units.get u).state = .failed) :
    Tells (s.setUnits (setAt s.units u { s.units.get u with parked := [] })) (redecideParked u s) := by
  rw [redecideParked_failed hf]
  refine Tells.foldl (fun x k => ?_) _ _
  unfold withCustodyDenial
  simp only [← answerTo_late]
  refine Tells.trans ?_ (Tells.raiseFault _ _)
  cases (s.units.get u).style.effective (s.domains.get k.req.dom).style with
  | refuse => exact (Tells.answerTo _ _ _ _ x).trans (Tells.setFlag _ .denied _)
  | mask => exact (Tells.answerTo _ _ _ _ x).trans (Tells.setFlag _ .masked _)

/-- With nothing parked, deciding again does nothing. -/
theorem redecideParked_empty {u : Fin 8} {s : State} (h : (s.units.get u).parked = []) : redecideParked u s = s := by
  have hsame : ({ s.units.get u with parked := [] } : CustodyUnit) = s.units.get u := by rw [← h]
  unfold redecideParked
  rw [show (s.unit u).parked = [] from h]
  exact (congrArg (fun v => s.setUnits (setAt s.units u v)) hsame).trans (congrArg (fun v => s.setUnits v) (setAt_self s.units u))

/-- The fault of a scrub that fails, and the unit FAILED (R106). -/
def scrubFaulted (u : Fin 8) (s : State) : State :=
  raiseFault (portFault .scrubFailed (unitPortByte (s.units.get u)) (some u) ((s.units.get u).step.map (fun st => st.addr))
    (s.units.get u).hand.scrubPos) (s.setUnits (setAt s.units u (s.units.get u).failed))

theorem scrubFaulted_units (u : Fin 8) (s : State) : (scrubFaulted u s).units = setAt s.units u (s.units.get u).failed :=
  (Tells.raiseFault _ _).units

/-- The end of a handover: the notices, the working part cleared, the command answered (R106, R107). -/
def handoverEnds (u : Fin 8) (starting final : Resting) (st : ReplyStatus) (result : List Byte) (s : State) : State :=
  endCommand (.custody u) st result (clearHandover u (sendNotices starting final s))

theorem scrubFail_eq (u : Fin 8) (s : State) :
    scrubFail u s = handoverEnds u (s.units.get u).hand.starting .failed .failed
      (handoverResult u .failed (s.units.get u).hand.cutCount (s.units.get u).hand.scrubPos) (redecideParked u (scrubFaulted u s)) := rfl

/-- The unit that a failed scrub leaves (R94, R106). -/
def CustodyUnit.scrubFailed (v : CustodyUnit) : CustodyUnit :=
  { v with state := .failed, parked := [], pendingTake := none, hand := Handover.idle }

/-- A failed scrub tells, and changes its own unit alone. -/
theorem scrubFail_tells (u : Fin 8) (s : State) :
    Tells (s.setUnits (setAt s.units u (s.units.get u).scrubFailed)) (scrubFail u s) := by
  have hu := scrubFaulted_units u s
  have hget : (scrubFaulted u s).units.get u = (s.units.get u).failed := by rw [hu, setAt_get_same]
  have hfault : Tells (s.setUnits (setAt s.units u (s.units.get u).failed)) (scrubFaulted u s) := Tells.raiseFault _ _
  have hdecide := (hfault.withUnits _).trans (redecideParked_failed_tells (by rw [hget]; rfl))
  have htold := hdecide.trans (Tells.sendNotices (s.units.get u).hand.starting .failed _)
  have hends := (htold.withUnits _).trans (Tells.endCommand (.custody u) .failed
    (handoverResult u .failed (s.units.get u).hand.cutCount (s.units.get u).hand.scrubPos)
    (clearHandover u (sendNotices (s.units.get u).hand.starting .failed (redecideParked u (scrubFaulted u s)))))
  have hsame : (clearHandover u (sendNotices (s.units.get u).hand.starting .failed (redecideParked u (scrubFaulted u s)))).units =
      setAt s.units u (s.units.get u).scrubFailed := by
    rw [clearHandover, State.modUnit_units, htold.units]
    simp only [State.setUnits, hu, setAt_get_same, setAt_setAt, CustodyUnit.failed, CustodyUnit.scrubFailed]
  rw [scrubFail_eq, ← hsame]
  exact hends

/-- The domains told of a handover that starts from one state and ends FAILED (R108). -/
theorem sendNotices_failed (starting : Resting) (s : State) :
    let told := fun (d : Domain) (x : State) => if starting = .opened ∨ starting = .held d then handCustodyNotice d x else x
    sendNotices starting .failed s = told .rad (told .pay (told .app s)) := by
  cases starting with
  | opened => rfl
  | held h => cases h <;> rfl
  | failed => rfl

/-- Settles O42: the fault, the denials, the notices and the end of the command, each a change of its own part. -/
theorem scrubFailureEndsTheHandover : Obligations.ScrubFailureEndsTheHandover := by
  intro u p s hp v failed faulted told result ends style
  have hfaulted : scrubFaulted u s = faulted := by
    have hport : unitPortByte v = p.byte := by unfold unitPortByte; rw [hp]
    have hstep : v.step.map (fun st => st.addr) =
        if v.hand.scrubPos = 0 then none else v.script[v.hand.scrubPos - 1]?.map (fun st => st.addr) := by
      unfold CustodyUnit.step
      split <;> rfl
    unfold scrubFaulted
    rw [hport, hstep]
    rfl
  have hends (x : State) : handoverEnds u v.hand.starting .failed .failed (handoverResult u .failed v.hand.cutCount v.hand.scrubPos) x =
      ends x := by
    unfold handoverEnds
    rw [sendNotices_failed]
    rfl
  have hstyle (d : Domain) : v.style.effective (s.domains.get d).style = style d := style_effective _ _
  refine ⟨?_, ?_, ?_, ?_⟩
  · rw [scrubFail_eq, hfaulted]; exact hends _
  · have hunits : faulted.units = setAt s.units u failed := hfaulted ▸ scrubFaulted_units u s
    have hget : faulted.units.get u = failed := by rw [hunits, setAt_get_same]
    have hstyles (d : Domain) : (faulted.domains.get d).style = (s.domains.get d).style :=
      (Tells.raiseFault _ { s with units := setAt s.units u failed }).style d
    rw [redecideParked_failed (by rw [hget]), hget]
    simp only [hstyles, ← hstyle]
    rfl
  · intro hnone s2
    have hunits : faulted.units = setAt s.units u failed := hfaulted ▸ scrubFaulted_units u s
    have hget : faulted.units.get u = failed := by rw [hunits, setAt_get_same]
    have hempty : redecideParked u faulted = faulted := by
      have hparked : (faulted.units.get u).parked = [] := by rw [hget]; exact hnone
      exact redecideParked_empty hparked
    have htold : s2.units = setAt s.units u failed := by
      have h (d : Domain) (x : State) : (told d x).units = x.units := by
        simp only [told]
        split
        · exact (Tells.handCustodyNotice d x).units
        · rfl
      exact ((h _ _).trans ((h _ _).trans (h _ _))).trans hunits
    have heq : scrubFail u s = ends faulted := by rw [scrubFail_eq, hfaulted, hempty]; exact hends _
    refine heq.trans ?_
    change endCommand (.custody u) .failed result
      { s2 with units := setAt s2.units u { s2.units.get u with pendingTake := none, hand := Handover.idle } } = _
    rw [htold]
    simp only [setAt_get_same, setAt_setAt, failed]
  · have hget : (scrubFail u s).units.get u = v.scrubFailed := by
      rw [(scrubFail_tells u s).units]; exact setAt_get_same _ _ _
    rw [hget]
    exact ⟨rfl, rfl, rfl, rfl⟩

end Sys2Proof.Machine
end

section
/-! PROOFS. The end of a drain, the steps of a scrub, and a link that comes up (R10, R67, R99, R103 to R105, R122). -/

namespace Sys2Proof.Machine

open Sys2Proof

/-! ### A unit changed more than once -/

theorem modUnit_modUnit (u : Fin 8) (f g : CustodyUnit → CustodyUnit) (s : State) :
    (s.modUnit u f).modUnit u g = s.modUnit u (fun v => g (f v)) := by
  simp only [State.modUnit, setAt_get_same, setAt_setAt]

theorem modUnit_unit (u : Fin 8) (f : CustodyUnit → CustodyUnit) (s : State) : (s.modUnit u f).unit u = f (s.units.get u) :=
  setAt_get_same _ _ _

/-- A grant stops the settle timer, whatever it was (R107). -/
theorem grantUnit_settleTimer (u : Fin 8) (t : Holding) (x : Option Nat) (s : State) :
    grantUnit u t (s.modUnit u (fun v => { v with hand := { v.hand with settleTimer := x } })) = grantUnit u t s := by
  unfold grantUnit
  rw [modUnit_modUnit]
  simp only [modUnit_unit]
  rfl

/-- An empty settle delay grants at once (R105). -/
theorem startSettle_empty {u : Fin 8} {s : State} (t : Holding) (h : (s.units.get u).settle.value = 0) :
    startSettle u t s = grantUnit u t (s.modUnit u (fun v => { v with hand := { v.hand with scrubPos := 0 } })) := by
  unfold startSettle
  rw [show (s.unit u).settle.expiry s.gateTime = none from if_pos h]

/-- Any other settle delay starts its timer (R105). -/
theorem startSettle_timer {u : Fin 8} {s : State} (t : Holding) (h : (s.units.get u).settle.value ≠ 0) :
    startSettle u t s = s.modUnit u (fun v =>
      { v with hand := { v.hand with scrubPos := 0, settleTimer := some (s.gateTime + (s.units.get u).settle.duration) } }) := by
  unfold startSettle
  rw [show (s.unit u).settle.expiry s.gateTime = some (s.gateTime + (s.units.get u).settle.duration) from if_neg h]
  exact modUnit_modUnit _ _ _ _

/-- The grant that an empty settle delay makes is the one that its expiry would make (R105). -/
theorem settleExpiry_grants {u : Fin 8} {t : Holding} {s : State} (hs : (s.units.get u).state = .scrubbing t) {e : Nat}
    (he : (s.units.get u).hand.settleTimer = some e) (hle : e ≤ s.gateTime) : exec (.settleExpiry u) s = .next (grantUnit u t s) := by
  have htimer : settleTimerOf s u = some (t, e) := by
    unfold settleTimerOf
    rw [show (s.unit u).state = .scrubbing t from hs]
    dsimp only
    rw [show (s.unit u).hand.settleTimer = some e from he]
    rfl
  simp only [exec, execSettleExpiry, htimer, if_pos hle]

/-! ### The end of a drain (R99, R103) -/

/-- The state in which a drain that has ended begins its scrub (R99). -/
def drainEnded (u : Fin 8) (t : Holding) (s : State) : State :=
  s.modUnit u (fun v => { v with state := .scrubbing t, hand := { v.hand with drainTimer := none, scrubPos := 0 } })

theorem beginDue_ended {u : Fin 8} {t : Holding} {s : State} (hs : (s.units.get u).state = .draining t)
    (h0 : (s.units.get u).inFlight = 0) : beginDue u s = beginScrub u t (drainEnded u t s) := by
  have hdue : drainDue s u = some t := by
    unfold drainDue
    rw [show (s.unit u).state = .draining t from hs]
    exact if_pos h0
  unfold beginDue
  rw [hdue]
  rfl

theorem beginDue_other {u : Fin 8} {s : State} (h : (∀ t, (s.units.get u).state ≠ .draining t) ∨ (s.units.get u).inFlight ≠ 0) :
    beginDue u s = s := by
  have hdue : drainDue s u = none := by
    unfold drainDue
    split
    · rename_i t ht
      exact if_neg (h.resolve_left fun hd => hd t ht)
    all_goals rfl
  unfold beginDue
  rw [hdue]

section
variable {u : Fin 8} {t : Holding} {p : Port} {s : State}

theorem beginScrub_down (hp : (s.units.get u).port = some p) (hd : (s.ports.get p).link ≠ .up) : beginScrub u t s = scrubFail u s := by
  unfold beginScrub
  rw [show (s.unit u).port = some p from hp]
  exact if_neg fun h => hd ((s.isUp_iff p).mp h)

theorem beginScrub_up (hp : (s.units.get u).port = some p) (hu : (s.ports.get p).link = .up) :
    beginScrub u t s = if (s.units.get u).script = [] then startSettle u t s else placeStep u p 1 s := by
  unfold beginScrub
  rw [show (s.unit u).port = some p from hp]
  exact if_pos ((s.isUp_iff p).mpr hu)

end

/-- Settles O44: a drain that has ended goes on by the port, the script and the settle delay of its unit. -/
theorem drainEndBeginsTheScrub : Obligations.DrainEndBeginsTheScrub := by
  refine ⟨fun u g p s hs h0 hp => ?_, fun u s h => congrArg _ (beginDue_other h)⟩
  intro v scrubs begun
  have hrun : exec (.drainEnd u) s = .next (beginScrub u g (drainEnded u g s)) := congrArg _ (beginDue_ended hs h0)
  have hget : (drainEnded u g s).units.get u =
      { v with state := .scrubbing g, hand := { begun with drainTimer := none } } := setAt_get_same _ _ _
  have hport : ((drainEnded u g s).units.get u).port = some p := by rw [hget]; exact hp
  have hsettle : ((drainEnded u g s).units.get u).settle = v.settle := by rw [hget]
  refine ⟨fun hd => ?_, fun hu hn hv => ?_, fun hu hn hv => ?_, fun hu hn => ?_⟩
  · rw [hrun, beginScrub_down hport hd]
    rfl
  · rw [hrun, beginScrub_up hport hu, hget, if_pos hn, startSettle_timer g (by rw [hsettle]; exact hv), hsettle, drainEnded,
      modUnit_modUnit]
    rfl
  · refine ⟨_, settleExpiry_grants (t := g) (e := s.gateTime) ?_ ?_ (le_refl s.gateTime), ?_⟩
    · simp only [scrubs, setAt_get_same]
    · simp only [scrubs, setAt_get_same]
    · rw [hrun, beginScrub_up hport hu, hget, if_pos hn, startSettle_empty g (by rw [hsettle]; exact hv), drainEnded, modUnit_modUnit]
      refine congrArg _ ((grantUnit_settleTimer u g (some s.gateTime) _).symm.trans ?_)
      rw [modUnit_modUnit]
      rfl
  · rw [hrun, beginScrub_up hport hu, hget, if_neg hn, placeStep, drainEnded, modUnit_modUnit]
    rfl

/-! ### A COMPLETION that is taken (R7, R65) -/

/-- A COMPLETION whose payload is as its header says, under a tag that is not FREE, goes to its tag's holder (R7, R65). -/
theorem completionTaken_runs {p : Port} {t : Fin 16} {status code : Byte} {present : Bool} {data : List Byte} {s s1 : State}
    (h : Arrives p (.completion t status present code data) s s1) (hl : data.length = (if present then lengthOfCode code else 0))
    (ht : (s.ports.get p).tags.get t ≠ .free) :
    exec (.completionTaken p t status present code data) s = .next (completionArrives p t status present code data s1) := by
  have htag : (s1.port p).tags.get t ≠ .free := by rw [show (s1.port p).tags = _ from h.tags p]; exact ht
  refine congrArg Host.Outcome.next (takePacket_good h ?_)
  simp only [checkPacket, if_pos hl, if_neg htag]

/-- Settles O41: the step's tag is freed, and the scrub goes on by the status and the script. -/
theorem scrubStepCompletionMovesOn : Obligations.ScrubStepCompletionMovesOn := by
  intro p t status present code data u e g s s1 h hl htag hstate hport v x s2
  have hu : s1.units = s.units := h.units
  have hrun : exec (.completionTaken p t status present code data) s =
      .next (if status = 0 then stepDone u s2 else stepFailed u s2) := by
    rw [completionTaken_runs h hl (by rw [htag]; simp)]
    unfold completionArrives
    rw [show (s1.port p).tags.get t = .live (.scrub u true e) from (congrArg (fun l => l.get t) (h.tags p)).trans htag]
    rfl
  have hget : s2.units.get u = v := congrArg (fun l => l.get u) hu
  have hdone : stepDone u s2 =
      if v.script.length ≤ v.hand.scrubPos then startSettle u g s2 else placeStep u p (v.hand.scrubPos + 1) s2 := by
    unfold stepDone
    rw [show s2.unit u = v from hget, show v.state = .scrubbing g from hstate, show v.port = some p from hport]
  refine ⟨fun h0 hlt => ?_, fun h0 hle hv => ?_, fun h0 hle hv => ?_, fun h0 => ?_⟩
  · rw [hrun, if_pos h0, hdone, if_neg (by omega)]
    simp only [placeStep, State.modUnit, State.modPort, s2, PerPort.get_set_same, PerPort.set_set, hu]
    rfl
  · rw [hrun, if_pos h0, hdone, if_pos hle, startSettle_timer g (by rw [hget]; exact hv), hget]
    simp only [State.modUnit, s2, hu]
    rw [show s1.gateTime = s.gateTime from h.gateTime]
  · refine ⟨_, settleExpiry_grants (t := g) (e := s.gateTime) ?_ ?_ (le_of_eq h.gateTime.symm), ?_⟩
    · simp only [setAt_get_same]; exact hstate
    · simp only [setAt_get_same]
    · rw [hrun, if_pos h0, hdone, if_pos hle, startSettle_empty g (by rw [hget]; exact hv)]
      refine congrArg _ ((grantUnit_settleTimer u g (some s.gateTime) _).symm.trans ?_)
      rw [modUnit_modUnit]
      simp only [State.modUnit, s2, hu]
      rfl
  · rw [hrun, if_neg h0]
    unfold stepFailed
    rw [show (s2.unit u).state = .scrubbing g from (congrArg CustodyUnit.state hget).trans hstate]

/-! ### A link that comes up (R10, R13, R103, R122) -/

/-- A unit on `p` drains with no piece left in flight. -/
def CustodyUnit.drained (p : Port) (v : CustodyUnit) : Bool :=
  decide (v.port = some p ∧ v.inFlight = 0) && (match v.state with | .draining _ => true | _ => false)

theorem drained_iff {p : Port} {v : CustodyUnit} : v.drained p = true ↔
    v.port = some p ∧ v.inFlight = 0 ∧ ∃ g, v.state = .draining g := by
  unfold CustodyUnit.drained
  cases v.state <;> simp

/-- At a port that is not UP, the drain of a unit that has ended fails its scrub (R99, R103). -/
theorem beginDue_down {p : Port} {s : State} {u : Fin 8} (hp : (s.units.get u).port = some p) (hd : (s.ports.get p).link ≠ .up) :
    beginDue u s = if (s.units.get u).drained p then withScrubFailed u s else s := by
  split
  · rename_i h
    obtain ⟨-, h0, g, hg⟩ := drained_iff.mp h
    have hport : ((drainEnded u g s).units.get u).port = some p := by rw [drainEnded, State.modUnit_units, setAt_get_same]; exact hp
    rw [beginDue_ended hg h0, beginScrub_down hport hd, withScrubFailed, hg]
    rfl
  · rename_i h
    refine beginDue_other ?_
    by_contra hno
    obtain ⟨hg, h0⟩ := not_or.mp hno
    obtain ⟨g, hg⟩ := not_forall.mp hg
    exact h (drained_iff.mpr ⟨hp, not_not.mp h0, g, not_not.mp hg⟩)

/-- A scrub that fails, or a drain that ends so, changes its own unit alone. -/
theorem withScrubFailed_other {u w : Fin 8} (hw : w ≠ u) (s : State) : (withScrubFailed u s).units.get w = s.units.get w := by
  have h (x : State) : (scrubFail u x).units.get w = x.units.get w := by
    rw [(scrubFail_tells u x).units]
    exact setAt_get_other _ _ hw
  unfold withScrubFailed
  dsimp only
  split
  · exact (h _).trans (setAt_get_other _ _ hw)
  · exact h s

theorem withScrubFailed_link (u : Fin 8) (s : State) (p : Port) : ((withScrubFailed u s).ports.get p).link = (s.ports.get p).link := by
  unfold withScrubFailed
  dsimp only
  split
  · exact (scrubFail_tells u _).link p
  · exact (scrubFail_tells u s).link p

/-- Scrubs that fail on a port that is not UP, where each unit's failure depends on itself alone, fail one after another. -/
theorem foldl_fails {p : Port} {f : Fin 8 → State → State} {ends : Fin 8 → CustodyUnit → Bool}
    (hf : ∀ (u : Fin 8) (s : State), (s.units.get u).port = some p → (s.ports.get p).link ≠ .up →
      f u s = if ends u (s.units.get u) then withScrubFailed u s else s)
    {l : List (Fin 8)} (hn : l.Nodup) {s : State} (hp : ∀ u ∈ l, (s.units.get u).port = some p) (hd : (s.ports.get p).link ≠ .up) :
    l.foldl (fun x u => f u x) s = (l.filter (fun u => ends u (s.units.get u))).foldl (fun x u => withScrubFailed u x) s := by
  induction l generalizing s with
  | nil => rfl
  | cons u us ih =>
    obtain ⟨hu, hn⟩ := List.nodup_cons.mp hn
    rw [List.foldl_cons, hf u s (hp u List.mem_cons_self) hd]
    by_cases h : ends u (s.units.get u) = true
    · have hother (w : Fin 8) (hw : w ∈ us) : (withScrubFailed u s).units.get w = s.units.get w :=
        withScrubFailed_other (by rintro rfl; exact hu hw) s
      have hsame : us.filter (fun w => ends w ((withScrubFailed u s).units.get w)) = us.filter (fun w => ends w (s.units.get w)) :=
        List.filter_congr fun w hw => by rw [hother w hw]
      rw [if_pos h, List.filter_cons_of_pos (by exact h), List.foldl_cons, ← hsame]
      exact ih hn (fun w hw => by rw [hother w hw]; exact hp w (List.mem_cons_of_mem _ hw)) (by rw [withScrubFailed_link]; exact hd)
    · rw [if_neg h, List.filter_cons_of_neg (by exact h)]
      exact ih hn (fun w hw => hp w (List.mem_cons_of_mem _ hw)) hd

theorem unitsOn_nodup (s : State) (p : Port) : (unitsOn s p).Nodup := List.Nodup.filter _ (by decide)

theorem mem_unitsOn {s : State} {p : Port} {u : Fin 8} (h : u ∈ unitsOn s p) : (s.units.get u).port = some p :=
  of_decide_eq_true (List.mem_filter.mp h).2

theorem beginDueOn_down {p : Port} {s : State} (hd : (s.ports.get p).link ≠ .up) : beginDueOn p s = withDrainsFailed p s := by
  have hlist : (unitsOn s p).filter (fun u => (s.units.get u).drained p) = drainedOn p s := by
    unfold unitsOn
    rw [List.filter_filter]
    refine List.filter_congr fun u _ => ?_
    unfold CustodyUnit.drained State.unit
    by_cases hp : (s.units.get u).port = some p
    · simp only [hp, decide_true, Bool.and_true, true_and] <;> cases (s.units.get u).state <;> rfl
    · simp only [hp, decide_false, Bool.and_false, false_and, Bool.false_and]
  unfold beginDueOn withDrainsFailed
  rw [foldl_fails (ends := fun _ v => v.drained p) (fun u s hp hd => beginDue_down hp hd) (unitsOn_nodup s p) (fun u => mem_unitsOn) hd]
  exact congrArg (fun l => List.foldl _ s l) hlist

/-! ### The handovers that a reset of the port ends (R110) -/

/-- A unit's handover ends with a reset of its port: it scrubs, or drains with no piece left in flight. -/
def CustodyUnit.ends (v : CustodyUnit) : Bool :=
  match v.state with
  | .scrubbing _ => true
  | .draining _ => decide (v.inFlight = 0)
  | _ => false

theorem CustodyUnit.ends_iff {v : CustodyUnit} : v.ends = true ↔
    (∃ g, v.state = .scrubbing g) ∨ (∃ g, v.state = .draining g ∧ v.inFlight = 0) := by
  unfold CustodyUnit.ends
  cases v.state <;> simp

theorem endingOn_eq (p : Port) (cutting : Option (Fin 8)) (s : State) : endingOn p cutting s =
    allUnits.filter (fun u => decide ((s.units.get u).port = some p ∧ some u ≠ cutting) && (s.units.get u).ends) := by
  refine List.filter_congr fun u _ => ?_
  unfold CustodyUnit.ends
  cases (s.units.get u).state <;> rfl

theorem mem_endingOn {p : Port} {cutting : Option (Fin 8)} {s : State} {u : Fin 8} : u ∈ endingOn p cutting s ↔
    (s.units.get u).port = some p ∧ some u ≠ cutting ∧ (s.units.get u).ends = true := by
  rw [endingOn_eq, List.mem_filter, Bool.and_eq_true, decide_eq_true_eq]
  have hall : u ∈ allUnits := List.mem_finRange u
  tauto

theorem endAtReset_down {p : Port} {s : State} {u : Fin 8} (hp : (s.units.get u).port = some p) (hd : (s.ports.get p).link ≠ .up) :
    endAtReset u s = if (s.units.get u).ends then withScrubFailed u s else s := by
  unfold endAtReset CustodyUnit.ends
  rw [show (s.unit u).state = (s.units.get u).state from rfl]
  cases hs : (s.units.get u).state with
  | draining g =>
    dsimp only
    rw [beginDue_down hp hd]
    unfold CustodyUnit.drained
    simp only [hs, hp, true_and, Bool.and_true]
  | scrubbing g =>
    dsimp only
    unfold stepFailed withScrubFailed
    simp only [show (s.unit u).state = .scrubbing g from hs, hs, if_true]
  | opened => rfl
  | held h => rfl
  | failed => rfl

theorem endHandovers_down {p : Port} {s : State} (cutting : Option (Fin 8)) (hd : (s.ports.get p).link ≠ .up) :
    endHandovers p cutting s = (endingOn p cutting s).foldl (fun x u => withScrubFailed u x) s := by
  unfold endHandovers
  rw [foldl_fails (ends := fun _ v => v.ends) (fun u s hp hd => endAtReset_down hp hd) ((unitsOn_nodup s p).filter _)
    (fun u hu => mem_unitsOn (List.mem_filter.mp hu).1) hd, endingOn_eq, unitsOn, List.filter_filter, List.filter_filter]
  congr 1
  refine List.filter_congr fun u _ => ?_
  by_cases hp : (s.units.get u).port = some p
  · simp [State.unit, hp, Bool.and_comm]
  · simp [State.unit, hp]

theorem queueFill_of_eq {s t : State} (hs : t.supQ = s.supQ) (ho : t.ownQ = s.ownQ) (d : Domain) : queueFill t d = queueFill s d := by
  cases d <;> simp only [queueFill, hs, ho]

/-- What an initiator port that has become UP announces: what its places and its queue hold (R13, R122, R131). -/
theorem announceUp_up {d : Domain} {s : State} (h : (s.ports.get d.port).link = .up) :
    announceUp d s =
      (if queueFill s d = 0 then id else fun x => withFaultNotice d (setArmed d false x))
        (if (s.inits.get d).custodyNotice = .held then
          { withOut d.port [.notice .custody] s with inits := s.inits.set d { s.inits.get d with custodyNotice := .waiting } }
        else s) := by
  have hout : ((withOut d.port [.notice .custody] s).ports.get d.port).link = .up := by
    rw [withOut, PerPort.get_set_same]; exact h
  have hrun (x : State) (hx : (x.ports.get d.port).link = .up) (hq : queueFill x d = queueFill s d) :
      (if queueFill x d = 0 then x else tellReader d x) =
        (if queueFill s d = 0 then id else fun x => withFaultNotice d (setArmed d false x)) x := by
    rw [hq]
    split
    · rfl
    · exact handFaultNotice_up (by rw [setArmed_ports]; exact hx)
  unfold announceUp
  rw [placeOut_up h]
  by_cases hheld : (s.inits.get d).custodyNotice = .held
  · rw [if_pos hheld, show (s.init d).custodyNotice = .held from hheld]
    exact hrun _ hout (queueFill_of_eq rfl rfl d)
  · rw [if_neg hheld]
    dsimp only
    rw [if_neg (show (s.init d).custodyNotice ≠ .held from hheld)]
    exact hrun s h rfl

/-- A port that is not UP comes up: the drains that have ended on it fail first (R10, R99, R103). -/
theorem bringUp_eq {p : Port} {s : State} (hd : (s.ports.get p).link ≠ .up) : bringUp p s = withUp p (withDrainsFailed p s) := by
  unfold bringUp withUp
  rw [beginDueOn_down hd]
  cases hp : p.domain with
  | none => rfl
  | some d =>
    obtain rfl : p = d.port := (Port.domain_eq_some.mp hp)
    dsimp only
    rw [announceUp_up (congrArg PortState.link (PerPort.get_set_same _ _ _))]
    have hq (f : PortState → PortState) :
        queueFill (State.modPort d.port f (withDrainsFailed d.port s)) d = queueFill (withDrainsFailed d.port s) d :=
      queueFill_of_eq rfl rfl d
    rw [hq]
    by_cases hz : queueFill (withDrainsFailed d.port s) d = 0
    · rw [if_pos hz, if_pos hz]
      rfl
    · rw [if_neg hz, if_neg hz]
      rfl

/-- Settles O27: what LINK_ESTABLISHED does in each of the three link states. -/
theorem establishedLinkBringsPortUp : Obligations.EstablishedLinkBringsPortUp := by
  intro p s
  have hdown (hd : (s.ports.get p).link = .down) : exec (.linkEstablished p) s = .next (withUp p (withDrainsFailed p s)) := by
    rw [← bringUp_eq (by rw [hd]; simp)]
    simp only [exec, execLinkEstablished, linkEstablished, State.port, hd]
  refine ⟨fun hd hn => ?_, hdown, fun hu => ?_, fun hr => ?_⟩
  · rw [hdown hd, withDrainsFailed, hn]
    rfl
  · simp only [exec, execLinkEstablished, linkEstablished, State.port, hu]
  · simp only [exec, execLinkEstablished, linkEstablished, State.port, State.modPort, hr]

/-- Settles O29: a hold that has expired ends with its link, and before its moment nothing happens. -/
theorem holdExpiryEndsReset : Obligations.HoldExpiryEndsReset := by
  intro p e s hl hh
  have hhold : holdOf s p = some e := (if_pos hl).trans hh
  have hrun : exec (.holdExpiry p) s = .next (holdExpires p s) := rfl
  rw [hrun, holdExpires, hhold]
  refine ⟨fun he hest => ?_, fun he hest => ?_, fun he => ?_⟩
  · rw [if_pos (by simpa [expired] using he), if_pos (show (s.port p).established = true from hest), bringUp_eq (by rw [hl]; simp)]
    rfl
  · rw [if_pos (by simpa [expired] using he), if_neg (by rw [show (s.port p).established = false from hest]; simp)]
    rfl
  · rw [if_neg (by simpa [expired] using he)]

end Sys2Proof.Machine
end

section
/-! PROOFS. Moves: the indivisible changes that traffic, faults, handovers and resets of a port are made of. -/

namespace Sys2Proof.Machine

open Sys2Proof

/-! ### What one part may become in a move -/

/-- A change of what an initiator port keeps: the event count stays within its 8 places, and tags told apart stay so (R4, R114, R158). -/
structure InitStep (v w : InitState) : Prop where
  events   : v.eventCount ≤ 8 → w.eventCount ≤ 8
  tags     : v.tags.Nodup → w.tags.Nodup
  commands : ((v.commands.filter (fun c => !c.discard)).map (fun c => c.tag)).Nodup →
    ((w.commands.filter (fun c => !c.discard)).map (fun c => c.tag)).Nodup

/-- What UNIT_DEFINE stores of a unit; `previous` belongs to the handovers (R40, R42). -/
def CustodyUnit.definition (v : CustodyUnit) : UnitDefinition :=
  ⟨v.port, v.start, v.size, v.events, v.style, v.drain, v.settle, v.script⟩

/-- A change of a unit's working part that counts no piece: the definition stays, and a request that is newly parked has the length of a
request (R1, R52). -/
structure UnitStep (v w : CustodyUnit) : Prop where
  definition : w.definition = v.definition
  inFlight   : w.inFlight = v.inFlight
  parked     : ∀ k ∈ w.parked, k ∈ v.parked ∨ (1 ≤ k.req.len ∧ k.req.len ≤ 256)

/-- A change of a meter that keeps its rate and depth, and its credit within the limit (R79, R81). -/
structure MeterStep (v w : Meter) : Prop where
  rate   : w.rate = v.rate
  depth  : w.depth = v.depth
  credit : v.credit ≤ 256 * v.depth → w.credit ≤ 256 * w.depth

/-- A record change that leaves the accounts alone: number, domain, unit, pieces and outstanding count stay (R56). -/
def Request.sameAccount (f : Request → Request) : Prop :=
  ∀ r, (f r).id = r.id ∧ (f r).dom = r.dom ∧ (f r).unit = r.unit ∧ (f r).pieces = r.pieces ∧ (f r).outstanding = r.outstanding

/-- A new record: its number and those of its pieces are new, and every piece is live and outstanding (R31, R56). -/
structure NewRecord (s : State) (r : Request) : Prop where
  fresh       : ∀ q ∈ s.requests, q.id ≠ r.id
  nums        : (r.pieces.map (fun c => c.num)).Nodup
  live        : ∀ c ∈ r.pieces, c.state.live = true
  outstanding : r.outstanding = r.pieces.length

/-! ### Moves -/

/-- One indivisible change of the state. Counts change with the pieces they count: `endPiece` ends a piece together with its accounts, and
`enter` takes a record in together with the count of its unit. -/
inductive Move (free : Bool) : State → State → Prop
  | port (s : State) (p : Port) (v : PortState) : v.ingress <:+ (s.ports.get p).ingress →
      Move free s { s with ports := s.ports.set p v }
  | init (s : State) (d : Domain) (v : InitState) : InitStep (s.inits.get d) v → Move free s { s with inits := s.inits.set d v }
  | unit (s : State) (u : Fin 8) (v : CustodyUnit) : free = true →
      UnitStep (s.units.get u) v → Move free s { s with units := setAt s.units u v }
  | meter (s : State) (n : Fin 16) (v : Meter) : MeterStep (s.meters.get n) v → Move free s { s with meters := setAt s.meters n v }
  | supQ (s : State) (q : FaultQueue FullRecord) : (s.supQ.records.length ≤ 32 → q.records.length ≤ 32) →
      Move free s { s with supQ := q }
  | ownQ (s : State) (x : Scored) (q : FaultQueue ReducedRecord) :
      ((s.ownQ.get x).records.length ≤ 16 → q.records.length ≤ 16) → Move free s { s with ownQ := s.ownQ.set x q }
  | flags (s : State) (v : PerDomain Sticky) : Move free s { s with flags := v }
  | score (s : State) (x : Scored) (r : ScoreRecord) : ((s.scores.get x).score ≤ 65535 → r.score ≤ 65535) →
      Move free s { s with scores := s.scores.set x r }
  | domain (s : State) (d : Domain) (v : DomainRecord) : (v.mode = (s.domains.get d).mode ∨ v.mode = .normal ∨ d ≠ .pay) →
      Move free s { s with domains := s.domains.set d v }
  | commit (s : State) : Move free s { s with commit := none }
  | endPiece (s : State) (ref : PieceRef) (st : PieceState) : st.live = false → Move free s (endPiece ref st s)
  | setPiece (s : State) (ref : PieceRef) (r : Request) (c : Piece) (f : Piece → Piece) :
      s.piece ref = some (r, c) → c.state.live = true → (∀ y, (f y).num = y.num ∧ (f y).state.live = true) →
      Move free s (setPiece ref f s)
  | record (s : State) (id : Nat) (f : Request → Request) : Request.sameAccount f → Move free s (s.modRequest id f)
  | release (s : State) (r : Request) (id : Nat) : s.request id = some r → r.outstanding = 0 →
      Move free s (s.setRequests (s.requests.filter (fun x => decide (x.id ≠ id))))
  | enter (s : State) (r : Request) : free = true → NewRecord s r →
      Move free s (countIn r.unit r.pieces.length (s.setRequests (s.requests ++ [r])))

/-- `t` is `s` after some moves; after moves of `false` no unit has changed but in its count, and no record is new. -/
def Moves (free : Bool) (s t : State) : Prop := Relation.ReflTransGen (Move free) s t

theorem Move.widen {free : Bool} {s t : State} (h : Move free s t) : Move true s t := by
  cases h with
  | port p v h => exact .port s p v h
  | init d v h => exact .init s d v h
  | unit u v _ h => exact .unit s u v rfl h
  | meter n v h => exact .meter s n v h
  | supQ q h => exact .supQ s q h
  | ownQ x q h => exact .ownQ s x q h
  | flags v => exact .flags s v
  | score x r h => exact .score s x r h
  | domain d v h => exact .domain s d v h
  | commit => exact .commit s
  | endPiece ref st h => exact .endPiece s ref st h
  | setPiece ref r c f hf hc hall => exact .setPiece s ref r c f hf hc hall
  | record id f h => exact .record s id f h
  | release r id h h0 => exact .release s r id h h0
  | enter r _ h => exact .enter s r rfl h

namespace Moves

variable {free : Bool}

theorem refl (s : State) : Moves free s s := Relation.ReflTransGen.refl

theorem trans {s t u : State} (h : Moves free s t) (g : Moves free t u) : Moves free s u := Relation.ReflTransGen.trans h g

theorem one {s t : State} (h : Move free s t) : Moves free s t := Relation.ReflTransGen.single h

theorem foldl {α : Type} {f : State → α → State} (h : ∀ s x, Moves free s (f s x)) (l : List α) (s : State) :
    Moves free s (l.foldl f s) := by
  induction l generalizing s with
  | nil => exact refl s
  | cons x xs ih => exact (h s x).trans (ih _)

theorem widen {s t : State} (h : Moves free s t) : Moves true s t := by
  induction h with
  | refl => exact refl _
  | tail _ hm ih => exact ih.trans (one hm.widen)

/-- What every move keeps, moves keep. -/
theorem keep {P : State → Prop} (h : ∀ s t, Move free s t → P s → P t) {s t : State} (m : Moves free s t) (hs : P s) : P t := by
  induction m with
  | refl => exact hs
  | tail _ hm ih => exact h _ _ hm ih

/-- A relation that every move meets, moves meet, where it is reflexive and transitive. -/
theorem related {R : State → State → Prop} (hr : ∀ s, R s s) (ht : ∀ s t u, R s t → R t u → R s u)
    (h : ∀ s t, Move free s t → R s t) {s t : State} (m : Moves free s t) : R s t := by
  induction m with
  | refl => exact hr _
  | tail _ hm ih => exact ht _ _ _ ih (h _ _ hm)

/-! ### The updates -/

theorem modPort {p : Port} {f : PortState → PortState} {s : State}
    (h : (f (s.ports.get p)).ingress <:+ (s.ports.get p).ingress) : Moves free s (s.modPort p f) := one (.port s p _ h)

theorem modInit {d : Domain} {f : InitState → InitState} {s : State} (h : InitStep (s.inits.get d) (f (s.inits.get d))) :
    Moves free s (s.modInit d f) := one (.init s d _ h)

theorem modUnit {u : Fin 8} {f : CustodyUnit → CustodyUnit} {s : State} (h : UnitStep (s.units.get u) (f (s.units.get u))) :
    Moves true s (s.modUnit u f) := one (.unit s u _ rfl h)

theorem modMeter {n : Fin 16} {f : Meter → Meter} {s : State} (h : MeterStep (s.meters.get n) (f (s.meters.get n))) :
    Moves free s (s.modMeter n f) := one (.meter s n _ h)

theorem modFlags (d : Domain) (f : Sticky → Sticky) (s : State) : Moves free s (s.modFlags d f) := one (.flags s _)

theorem setFlag (d : Domain) (f : Flag) (s : State) : Moves free s (setFlag d f s) := modFlags _ _ s

/-- A unit's state, handover and previous holding change; nothing is parked. -/
theorem modUnit_working {u : Fin 8} {f : CustodyUnit → CustodyUnit} {s : State}
    (hd : (f (s.units.get u)).definition = (s.units.get u).definition) (hi : (f (s.units.get u)).inFlight = (s.units.get u).inFlight)
    (hp : (f (s.units.get u)).parked ⊆ (s.units.get u).parked) : Moves true s (s.modUnit u f) :=
  modUnit ⟨hd, hi, fun _ hk => .inl (hp hk)⟩

/-- A change of the places of the gate events alone. -/
theorem initStep_places (v : InitState) (a : FaultPlace) (b : CustodyPlace) :
    InitStep v { v with faultNotice := a, custodyNotice := b } := ⟨id, id, id⟩

/-- A change of the engine's list that keeps or drops commands. -/
theorem initStep_commands {v : InitState} {l : List Command}
    (h : ((l.filter (fun c => !c.discard)).map (fun c => c.tag)).Sublist ((v.commands.filter (fun c => !c.discard)).map (fun c => c.tag))) :
    InitStep v { v with commands := l } := ⟨id, id, fun hn => hn.sublist h⟩

/-- Dropping commands keeps the order of the rest. -/
theorem initStep_dropCommands (v : InitState) (f : Command → Bool) : InitStep v { v with commands := v.commands.filter f } :=
  initStep_commands ((List.filter_sublist.filter _).map _)

/-- Changing who carries commands keeps their tags. -/
theorem initStep_carriers (v : InitState) (f : Command → Command) (hf : ∀ c, (f c).discard = c.discard ∧ (f c).tag = c.tag) :
    InitStep v { v with commands := v.commands.map f } := by
  refine initStep_commands ?_
  rw [List.filter_map, List.map_map]
  have h1 : ((fun c : Command => !c.discard) ∘ f) = (fun c => !c.discard) := funext fun c => by simp [hf]
  have h2 : ((fun c : Command => c.tag) ∘ f) = (fun c => c.tag) := funext fun c => by simp [hf]
  rw [h1, h2]

/-! ### Packets, notices and replies -/

theorem placeOut (p : Port) (pkt : OutPacket) (s : State) : Moves free s (placeOut p pkt s) := by
  unfold Machine.placeOut
  split
  · exact modPort List.suffix_rfl
  · exact refl s

theorem answerTo (d : Domain) (tag : Option (Fin 32)) (st : AnswerStatus) (data : List Byte) (s : State) :
    Moves free s (answerTo d tag st data s) := by
  cases tag with
  | none => exact refl s
  | some t => exact placeOut _ _ s

theorem handFaultNotice (d : Domain) (s : State) : Moves free s (handFaultNotice d s) := by
  unfold Machine.handFaultNotice
  split
  · exact (placeOut _ _ s).trans (modInit (initStep_places _ _ _))
  · exact refl s

theorem handCustodyNotice (d : Domain) (s : State) : Moves free s (handCustodyNotice d s) := by
  unfold Machine.handCustodyNotice
  split
  · split
    · exact (placeOut _ _ s).trans (modInit (initStep_places _ _ _))
    · exact modInit (initStep_places _ _ _)
  · exact refl s
  · exact refl s

theorem reply (d : Domain) (t : Fin 4) (st : ReplyStatus) (res : List Byte) (s : State) : Moves free s (reply d t st res s) :=
  placeOut _ _ s

theorem badParameter (d : Domain) (m : MgmtPacket) (s : State) : Moves free s (badParameter d m s) := reply _ _ _ _ s

theorem carryCommand (d : Domain) (t : Fin 4) (c : Carrier) (s : State) : Moves free s (carryCommand d t c s) :=
  modInit (initStep_carriers _ _ (fun x => by split <;> simp))

theorem endCommand (c : Carrier) (st : ReplyStatus) (res : List Byte) (s : State) : Moves free s (endCommand c st res s) := by
  unfold Machine.endCommand
  split
  · exact refl s
  · split
    · exact modInit (initStep_dropCommands _ _)
    · exact (modInit (initStep_carriers _ _ (fun x => by split <;> simp))).trans (reply _ _ _ _ _)

theorem abortCommit (s : State) : Moves free s (abortCommit s) := by
  unfold Machine.abortCommit
  split
  · exact (one (.commit s)).trans (endCommand _ _ _ _)
  · exact refl s

/-! ### Faults -/

theorem setArmed (d : Domain) (b : Bool) (s : State) : Moves free s (setArmed d b s) := by
  cases d
  · exact one (.ownQ s .app _ id)
  · exact one (.supQ s _ id)
  · exact one (.ownQ s .rad _ id)

theorem tellReader (d : Domain) (s : State) : Moves free s (tellReader d s) := (setArmed d false s).trans (handFaultNotice d _)

theorem afterPlacing (d : Domain) (n : Nat) (s : State) : Moves free s (afterPlacing d n s) := by
  unfold Machine.afterPlacing
  split
  · exact tellReader d s
  · exact refl s

/-- A queue that records come to holds no more than its places (R129). -/
theorem put_length {α : Type} (n : Nat) (mk : Half → α) (q : FaultQueue α) (h : q.records.length ≤ n) :
    (q.put n mk).records.length ≤ n := by
  unfold FaultQueue.put
  split
  · simp; omega
  · exact h

theorem recordFault (e : FaultEvent) (s : State) : Moves free s (recordFault e s) := by
  unfold Machine.recordFault
  split
  · split
    · exact (one (.ownQ s _ _ (put_length 16 _ _))).trans (afterPlacing _ _ _)
    · exact (one (.supQ s _ (put_length 32 _ _))).trans (afterPlacing _ _ _)
  · exact refl s

theorem modScore {x : Scored} {f : ScoreRecord → ScoreRecord} {s : State}
    (h : (s.scores.get x).score ≤ 65535 → (f (s.scores.get x)).score ≤ 65535) : Moves free s (s.modScore x f) := one (.score s x _ h)

theorem judgeAdvisory (x : Scored) (s : State) : Moves free s (judgeAdvisory x s) := by
  unfold Machine.judgeAdvisory
  dsimp only
  split
  · exact refl s
  · split
    · exact modScore id
    · split
      · exact (modScore (s := s) (x := x) (f := fun v => { v with armed := false }) id).trans (recordFault _ _)
      · exact refl s

theorem judgeQuarantine (x : Scored) (s : State) : Moves free s (judgeQuarantine x s) := by
  unfold Machine.judgeQuarantine
  dsimp only
  split
  · exact (one (.domain s _ _ (.inr (.inr (by cases x <;> decide))))).trans (recordFault _ _)
  · exact refl s

theorem chargeScore (x : Scored) (w : Nat) (s : State) : Moves free s (chargeScore x w s) :=
  (modScore (fun _ => Nat.min_le_left _ _)).trans ((judgeAdvisory x _).trans (judgeQuarantine x _))

theorem raiseFault (e : FaultEvent) (s : State) : Moves free s (raiseFault e s) := by
  unfold Machine.raiseFault Machine.chargeFault
  refine (recordFault e s).trans ?_
  split
  · split
    · exact chargeScore _ _ _
    · exact refl _
  · exact refl _

/-! ### Pieces -/

theorem endPiece {ref : PieceRef} {st : PieceState} (h : st.live = false) (s : State) : Moves free s (endPiece ref st s) :=
  one (.endPiece s ref st h)

/-- A live piece that is found changes, and stays live (R59). -/
theorem setPiece {ref : PieceRef} {r : Request} {c : Piece} {s : State} (f : Piece → Piece) (hf : s.piece ref = some (r, c))
    (hc : c.state.live = true) (hn : ∀ y, (f y).num = y.num) (hl : ∀ y, (f y).state.live = true) : Moves free s (setPiece ref f s) :=
  one (.setPiece s ref r c f hf hc (fun y => ⟨hn y, hl y⟩))

theorem setTag (p : Port) (t : Fin 16) (v : TagState) (s : State) : Moves free s (setTag p t v s) := modPort List.suffix_rfl

theorem unsend (p : Port) (t : Fin 16) (s : State) : Moves free s (unsend p t s) := modPort List.suffix_rfl

theorem enqueuePiece (p : Port) (d : Domain) (r : PieceRef) (s : State) : Moves free s (enqueuePiece p d r s) :=
  modPort List.suffix_rfl

theorem dequeuePiece (p : Port) (d : Domain) (r : PieceRef) (s : State) : Moves free s (dequeuePiece p d r s) :=
  modPort List.suffix_rfl

theorem vacate (r : Request) (c : Piece) (s : State) : Moves free s (vacate r c s) := by
  unfold Machine.vacate
  split
  · exact refl s
  · exact dequeuePiece _ _ _ s
  · split
    · exact unsend _ _ s
    · exact refl s
  · split
    · exact setTag _ _ _ s
    · exact refl s
  · exact refl s
  · exact refl s

theorem leaveMeter (r : Request) (s : State) : Moves free s (leaveMeter r s) := by
  unfold Machine.leaveMeter
  split
  · exact refl s
  · exact modMeter ⟨rfl, rfl, id⟩

theorem endPieces (id : Nat) (f : PieceState → Bool) {st : PieceState} (h : st.live = false) (s : State) :
    Moves free s (endPieces id f st s) := by
  unfold Machine.endPieces
  split
  · exact refl s
  · exact foldl (fun t c => (vacate _ c t).trans (endPiece h _)) _ s

theorem removeUnsent (id : Nat) (s : State) : Moves free s (removeUnsent id s) := by
  unfold Machine.removeUnsent
  split
  · exact refl s
  · exact (endPieces _ _ rfl s).trans (leaveMeter _ _)

theorem finishRequest (id : Nat) (s : State) : Moves free s (finishRequest id s) := by
  unfold Machine.finishRequest
  split
  · exact refl s
  · rename_i r hr
    split
    · rename_i h0
      dsimp only
      split
      · exact one (.release s r id hr h0)
      · exact (one (.release s r id hr h0)).trans (answerTo _ _ _ _ _)
    · exact refl s

/-! ### Meters -/

/-- A CHARGING piece that is found enters QUEUED, or ends with its request (R59, R77). -/
theorem enterQueued {r : Request} {num : Nat} {s : State} {q : Request} {c : Piece} (hf : s.piece ⟨r.id, num⟩ = some (q, c))
    (hc : c.state = .charging) : Moves free s (enterQueued r num s) := by
  unfold Machine.enterQueued
  split
  · refine (setPiece (fun c => { c with state := .queued }) hf ?_ (fun _ => rfl) (fun _ => rfl)).trans (enqueuePiece _ _ _ _)
    rw [hc]; rfl
  · exact (endPiece rfl s).trans ((removeUnsent _ _).trans (finishRequest _ _))

/-- A piece is found in the requests alone. -/
theorem piece_congr {s t : State} (h : t.requests = s.requests) (ref : PieceRef) : t.piece ref = s.piece ref := by
  unfold State.piece State.request
  rw [h]

/-- A piece that is found by its reference stands in a record of that number. -/
theorem piece_id {s : State} {ref : PieceRef} {r : Request} {c : Piece} (h : s.piece ref = some (r, c)) : r.id = ref.req := by
  unfold State.piece at h
  split at h
  · cases h
  · rename_i q hq
    obtain ⟨y, -, he⟩ := Option.map_eq_some_iff.mp h
    rw [← show q = r from congrArg Prod.fst he]
    exact (request_some hq).2

/-- What a piece costs leaves no more credit than there was (R84, R86). -/
theorem tryCharge_paid {v : Meter} {cost credit : Nat} (h : v.tryCharge cost = .paid credit) : credit ≤ v.credit := by
  unfold Meter.tryCharge at h
  split at h
  · split at h
    · rw [← Charge.paid.inj h]; omega
    · cases h
  · split at h <;> cases h

theorem chargePieces (n : Fin 16) (id : Nat) (nums : List Nat) (s : State) : Moves free s (chargePieces n id nums s).1 := by
  induction nums generalizing s with
  | nil => exact refl s
  | cons num nums ih =>
    unfold Machine.chargePieces
    split
    · exact ih s
    · rename_i r c hf
      have hid : r.id = id := piece_id hf
      subst hid
      split
      · rename_i hc
        split
        · rename_i credit hp
          refine (modMeter ⟨rfl, rfl, fun h => ?_⟩).trans ((enterQueued (q := r) (c := c) ?_ hc).trans (ih _))
          · exact (tryCharge_paid hp).trans h
          · exact hf
        · refine (modMeter ⟨rfl, rfl, fun _ => Nat.zero_le _⟩).trans
            ((setFlag _ _ _).trans ((enterQueued (q := r) (c := c) ?_ hc).trans (ih _)))
          exact hf
        · exact (modMeter (s := s) ⟨rfl, rfl, fun h => h⟩).trans (setFlag _ _ _)
      · exact ih s

theorem chargeHeads (n : Fin 16) (ids : List Nat) (s : State) : Moves free s (chargeHeads n ids s) := by
  induction ids generalizing s with
  | nil => exact modMeter ⟨rfl, rfl, fun h => h⟩
  | cons id rest ih =>
    unfold Machine.chargeHeads
    dsimp only
    have h := (modMeter (free := free) (n := n) (f := fun v => { v with waiting := id :: rest }) (s := s) ⟨rfl, rfl, fun h => h⟩).trans
      (chargePieces n id (pieceNums (s.modMeter n (fun v => { v with waiting := id :: rest })) id) _)
    split
    · rename_i e; rw [e] at h; exact h
    · rename_i e; rw [e] at h; exact h.trans (ih _)

/-- A refill keeps the credit within its limit (R81). -/
theorem meterStep_refill (v : Meter) (t : Nat) (e : Option Nat) : MeterStep v { v.refill t with release := e } :=
  ⟨rfl, rfl, fun _ => Nat.min_le_left _ _⟩

theorem evalMeter (n : Fin 16) (s : State) : Moves free s (evalMeter n s) := by
  unfold Machine.evalMeter
  split
  · exact refl s
  · exact (modMeter (meterStep_refill _ _ _)).trans (chargeHeads _ _ _)

theorem evalNewHeads (before s : State) : Moves free s (evalNewHeads before s) := by
  refine foldl (fun t n => ?_) _ s
  split
  · exact refl t
  · exact evalMeter n t

theorem appendWaiting (n : Fin 16) (id : Nat) (s : State) : Moves free s (appendWaiting n id s) := modMeter ⟨rfl, rfl, fun h => h⟩

theorem takeOffPost (r : Request) (s : State) : Moves free s (takeOffPost r s) :=
  (endPieces _ _ rfl s).trans ((leaveMeter _ _).trans ((setFlag _ _ _).trans (finishRequest _ _)))

theorem joinMeter (n : Fin 16) (r : Request) (s : State) : Moves free s (joinMeter n r s) := by
  unfold Machine.joinMeter
  dsimp only
  split
  · split
    · exact (appendWaiting _ _ s).trans (evalMeter _ _)
    · exact appendWaiting _ _ s
  · split
    · exact (endPieces _ _ rfl s).trans ((setFlag _ _ _).trans (finishRequest _ _))
    · split
      · exact appendWaiting _ _ s
      · exact (takeOffPost _ s).trans ((appendWaiting _ _ _).trans (evalNewHeads _ _))

theorem failPiece (r : PieceRef) (st : PieceStatus) (s : State) : Moves free s (failPiece r st s) :=
  (endPiece rfl s).trans ((removeUnsent _ _).trans ((evalNewHeads _ _).trans (finishRequest _ _)))

/-! ### Grants, admission and denial -/

theorem grantTag (p : Port) (t : Fin 16) (g : Granted) (s : State) : Moves free s (grantTag p t g s) := by
  unfold Machine.grantTag
  split
  · split
    · exact refl s
    · exact (setTag _ _ _ s).trans (placeOut _ _ _)
  · split
    · exact refl s
    · rename_i r c hf
      split
      · rename_i hc
        refine (setTag p t _ s).trans ((setPiece (s := Machine.setTag p t _ s) (r := r) (c := c)
          (fun c => { c with state := .granted, ttag := some t, deadline := grantDeadline r s.gateTime }) hf ?_ (fun _ => rfl)
          (fun _ => rfl)).trans (placeOut _ _ _))
        rw [hc]; rfl
      · exact refl s

theorem arbiterGrant (p : Port) (s : State) : Moves free s (arbiterGrant p s) := by
  unfold Machine.arbiterGrant
  split
  · split
    · exact (modPort List.suffix_rfl).trans (grantTag _ _ _ _)
    · exact refl s
    · exact refl s
  · exact refl s

/-- The number of a new record is that of no live record (R57; log entry 5). -/
theorem freshRecord_ne (rs : List Request) : ∀ q ∈ rs, q.id ≠ freshRecord rs := by
  unfold freshRecord
  cases h : (List.range rs.length).find? (fun i => rs.all (fun r => decide (r.id ≠ i))) with
  | some i =>
    have := List.find?_some h
    simpa using this
  | none =>
    have hall : ∀ i < rs.length, ∃ r ∈ rs, r.id = i := by
      intro i hi
      have := List.find?_eq_none.mp h i (List.mem_range.mpr hi)
      simpa using this
    have hsub : List.range rs.length ⊆ rs.map (fun r => r.id) := by
      intro i hi
      obtain ⟨r, hr, rfl⟩ := hall i (List.mem_range.mp hi)
      exact List.mem_map_of_mem hr
    have hperm : (List.range rs.length).Perm (rs.map (fun r => r.id)) :=
      (List.nodup_range.subperm hsub).perm_of_length_le (by simp)
    intro q hq he
    have : q.id ∈ List.range rs.length := hperm.mem_iff.mpr (List.mem_map_of_mem hq)
    simp at he this
    omega

/-- The pieces of a split are numbered upward from the first (R58). -/
theorem splitFrom_nums (b : Nat) (st : PieceState) (fuel num t len : Nat) :
    ∃ k, (splitFrom b st fuel num t len).map (fun c => c.num) = List.range' num k := by
  induction fuel generalizing num t len with
  | zero => exact ⟨0, rfl⟩
  | succ fuel ih =>
    unfold splitFrom
    split
    · exact ⟨0, rfl⟩
    · obtain ⟨k, hk⟩ := ih (num + 1) (t + min len (b - t % b)) (len - min len (b - t % b))
      exact ⟨k + 1, by simp only [List.map_cons, hk, List.range'_succ]⟩

/-- The pieces of a split all start in its state (R59). -/
theorem splitFrom_state (b : Nat) (st : PieceState) (fuel num t len : Nat) :
    ∀ c ∈ splitFrom b st fuel num t len, c.state = st ∧ c.ttag = none ∧ c.deadline = none := by
  induction fuel generalizing num t len with
  | zero => simp [splitFrom]
  | succ fuel ih =>
    unfold splitFrom
    split
    · simp
    · intro c hc
      rcases List.mem_cons.mp hc with rfl | hc
      · exact ⟨rfl, rfl, rfl⟩
      · exact ih _ _ _ c hc

theorem newRecord_admitted (s : State) (q : Arrival) (e : EntryCopy) : NewRecord s (admittedRecord s q e) where
  fresh := freshRecord_ne s.requests
  nums := by
    obtain ⟨k, hk⟩ := splitFrom_nums (s.port e.target).config.maxBurst.bytes (if e.meter.isSome then .charging else .queued) q.len 1
      (e.translate q.addr).toNat q.len
    exact hk ▸ List.nodup_range'
  live := by
    intro c hc
    rw [(splitFrom_state _ _ _ _ _ _ c hc).1]
    split <;> rfl
  outstanding := rfl

theorem admitRequest (q : Arrival) (e : EntryCopy) (s : State) : Moves true s (admitRequest q e s) := by
  unfold Machine.admitRequest
  split
  · dsimp only
    refine (one (.enter s _ rfl (newRecord_admitted s q e))).trans ?_
    split
    · exact joinMeter _ _ _
    · exact foldl (fun t c => enqueuePiece _ _ _ t) _ _
  · exact answerTo _ _ _ _ s

theorem denyRequest (c : FaultClass) (q : Arrival) (e : Option EntryCopy) (u : Option (Fin 8)) (style : Style) (s : State) :
    Moves free s (denyRequest c q e u style s) := by
  unfold Machine.denyRequest
  split
  · exact (answerTo _ _ _ _ s).trans ((setFlag _ _ _).trans (raiseFault _ _))
  · exact (answerTo _ _ _ _ s).trans ((setFlag _ _ _).trans (raiseFault _ _))

theorem denyCustody (u : Fin 8) (q : Arrival) (e : EntryCopy) (s : State) : Moves free s (denyCustody u q e s) :=
  denyRequest _ _ _ _ _ s

/-! ### Handovers -/

theorem redecideOne (u : Fin 8) (k : Parked) (s : State) : Moves true s (redecideOne u s k) := by
  unfold Machine.redecideOne
  split
  · exact admitRequest _ _ s
  · exact denyCustody _ _ _ s
  · exact denyCustody _ _ _ s

theorem redecideParked (u : Fin 8) (s : State) : Moves true s (redecideParked u s) :=
  (modUnit_working rfl rfl (List.nil_subset _)).trans (foldl (fun t k => redecideOne u k t) _ _)

theorem sendNotices (a b : Resting) (s : State) : Moves free s (sendNotices a b s) := foldl (fun t d => handCustodyNotice d t) _ s

theorem clearHandover (u : Fin 8) (s : State) : Moves true s (clearHandover u s) := modUnit_working rfl rfl (List.Subset.refl _)

theorem scrubFail (u : Fin 8) (s : State) : Moves true s (scrubFail u s) :=
  (modUnit_working rfl rfl (List.Subset.refl _)).trans ((raiseFault _ _).trans ((redecideParked _ _).trans ((sendNotices _ _ _).trans
    ((clearHandover _ _).trans (endCommand _ _ _ _)))))

theorem grantUnit (u : Fin 8) (t : Holding) (s : State) : Moves true s (grantUnit u t s) :=
  (modUnit_working rfl rfl (List.Subset.refl _)).trans ((redecideParked _ _).trans ((sendNotices _ _ _).trans
    ((clearHandover _ _).trans (endCommand _ _ _ _))))

theorem abortTake (u : Fin 8) (tag : Fin 4) (s : State) : Moves true s (abortTake u tag s) :=
  (modUnit_working rfl rfl (List.Subset.refl _)).trans ((clearHandover _ _).trans ((endCommand _ _ _ _).trans
    ((reply _ _ _ _ _).trans (redecideParked _ _))))

/-! ### Resets of a port and of what it carries -/

theorem linkDownRequest (s : State) (id : Nat) : Moves free s (linkDownRequest s id) := (endPieces _ _ rfl s).trans (removeUnsent _ _)

theorem abandonRequest (s : State) (id : Nat) : Moves free s (abandonRequest s id) :=
  (one (.record s id (fun r => { r with abandoned := true }) (fun _ => ⟨rfl, rfl, rfl, rfl, rfl⟩))).trans (removeUnsent _ _)

theorem dropParked (d : Domain) (s : State) : Moves true s (dropParked d s) :=
  foldl (fun _ _ => modUnit_working rfl rfl (List.filter_subset_self _)) _ s

/-- Of the engine's list a port reset keeps marked commands alone (R158). -/
theorem initStep_emptyInit (v : InitState) : InitStep v (emptyInit v) := by
  refine ⟨fun _ => Nat.zero_le _, fun _ => List.nodup_nil, fun _ => ?_⟩
  have : ((emptyInit v).commands.filter (fun c => !c.discard)) = [] := by
    simp only [emptyInit, List.filter_eq_nil_iff, List.mem_map]
    rintro _ ⟨c, _, rfl⟩
    simp
  rw [this]
  exact List.nodup_nil

theorem announceUp (d : Domain) (s : State) : Moves free s (announceUp d s) := by
  unfold Machine.announceUp
  dsimp only
  split
  · have h := (placeOut (free := free) d.port (.notice .custody) s).trans
      (modInit (d := d) (f := fun v => { v with custodyNotice := .waiting })
      (initStep_places _ _ _))
    split
    · exact h
    · exact h.trans (tellReader _ _)
  · split
    · exact refl s
    · exact tellReader _ s

/-! ### Pieces and scrub steps that end -/

theorem takeReadData (r : Request) (c : Piece) (payload : List Byte) (s : State) : Moves free s (takeReadData r c payload s) := by
  unfold Machine.takeReadData
  split
  · exact one (.record s _ _ (fun _ => ⟨rfl, rfl, rfl, rfl, rfl⟩))
  · exact refl s

theorem completePiece (ref : PieceRef) (r : Request) (c : Piece) (status : Byte) (payload : List Byte) (s : State) :
    Moves free s (completePiece ref r c status payload s) := by
  unfold Machine.completePiece
  split
  · exact (takeReadData _ _ _ s).trans ((endPiece rfl _).trans (finishRequest _ _))
  · exact (failPiece _ _ s).trans (raiseFault _ _)
  all_goals exact refl s

theorem cutRequest (s : State) (r : Request) : Moves free s (cutRequest s r) := (endPieces _ _ rfl s).trans (leaveMeter _ _)

end Moves

end Sys2Proof.Machine
end

section
/-! PROOFS. Works: what traffic and handovers do, as moves that leave the units but for their counts, and the changes of a unit's
working part, each with what makes it lawful. -/

namespace Sys2Proof.Machine

open Sys2Proof

/-- One piece of work. A request enters or is parked as its unit answers; a handover is accepted at rest, scrubs once nothing is in flight,
and ends from its scrub; a draining take is aborted; the parked requests of a reset port are dropped. -/
inductive Work (s : State) : State → Prop
  | flow {t : State} : Moves false s t → Work s t
  | enter (q : Arrival) (e : EntryCopy) :
      (∀ u, e.unit = some u → (s.units.get u).answer q.dom (piecesThrough s q e) = .enter) → Work s (admitRequest q e s)
  | park (u : Fin 8) (q : Arrival) (e : EntryCopy) : e.unit = some u →
      (s.units.get u).answer q.dom (piecesThrough s q e) = .park → 1 ≤ q.len ∧ q.len ≤ 256 → Work s (parkRequest u q e s)
  | fail (u : Fin 8) (t : Holding) : (s.units.get u).state = .scrubbing t → Work s (scrubFail u s)
  | grant (u : Fin 8) (t : Holding) : (s.units.get u).state = .scrubbing t → Work s (grantUnit u t s)
  | scrub (u : Fin 8) (t : Holding) : (s.units.get u).state = .draining t → (s.units.get u).inFlight = 0 →
      Work s (drainEnded u t s)
  | hand (u : Fin 8) (h : Handover) : h.op = (s.units.get u).hand.op →
      Work s (s.modUnit u (fun v => { v with hand := h }))
  | accept (u : Fin 8) (op : HandoverKind) (start : Resting) (t : Holding) (tag : Fin 4) :
      (s.units.get u).state.resting = some start →
      Work s (s.modUnit u (fun v =>
        { v with
          previous := if op = .take then savedPrevious start v.previous else v.previous
          state := .draining t
          pendingTake := some tag
          hand := { op := some op, starting := start, drainTimer := none, scrubPos := 0, settleTimer := none, cutCount := 0 } }))
  | abort (u : Fin 8) (t : Holding) (tag : Fin 4) : (s.units.get u).state = .draining t →
      (s.units.get u).hand.op = some .take → Work s (abortTake u tag s)
  | drop (d : Domain) : Work s (dropParked d s)

/-- `t` is `s` after some works. -/
def Works (s t : State) : Prop := Relation.ReflTransGen Work s t

theorem Moves.parkRequest (u : Fin 8) {q : Arrival} (e : EntryCopy) (hl : 1 ≤ q.len ∧ q.len ≤ 256) (s : State) :
    Moves true s (parkRequest u q e s) := by
  refine modUnit ⟨rfl, rfl, fun k hk => ?_⟩
  rcases List.mem_append.mp hk with hk | hk
  · exact .inl hk
  · rw [List.mem_singleton.mp hk]; exact .inr hl

theorem Work.moves {s t : State} (h : Work s t) : Moves true s t := by
  cases h with
  | flow h => exact h.widen
  | enter q e _ => exact Moves.admitRequest _ _ _
  | park u q e _ _ hl => exact Moves.parkRequest u e hl s
  | fail u t _ => exact Moves.scrubFail _ _
  | grant u t _ => exact Moves.grantUnit _ _ _
  | scrub u t _ _ => exact Moves.modUnit_working rfl rfl (List.Subset.refl _)
  | hand u h _ => exact Moves.modUnit_working rfl rfl (List.Subset.refl _)
  | accept u op start t tag _ => exact Moves.modUnit_working rfl rfl (List.Subset.refl _)
  | abort u t tag _ _ => exact Moves.abortTake _ _ _
  | drop d => exact Moves.dropParked _ _

namespace Works

theorem refl (s : State) : Works s s := Relation.ReflTransGen.refl

theorem trans {s t u : State} (h : Works s t) (g : Works t u) : Works s u := Relation.ReflTransGen.trans h g

theorem one {s t : State} (h : Work s t) : Works s t := Relation.ReflTransGen.single h

theorem flow {s t : State} (h : Moves false s t) : Works s t := one (.flow h)

theorem moves {s t : State} (h : Works s t) : Moves true s t := by
  induction h with
  | refl => exact Moves.refl _
  | tail _ hw ih => exact ih.trans hw.moves

/-- What every work keeps, works keep. -/
theorem keep {P : State → Prop} (h : ∀ s t, Work s t → P s → P t) {s t : State} (m : Works s t) (hs : P s) : P t := by
  induction m with
  | refl => exact hs
  | tail _ hm ih => exact h _ _ hm ih

theorem foldl {α : Type} {f : State → α → State} (h : ∀ s x, Works s (f s x)) (l : List α) (s : State) : Works s (l.foldl f s) := by
  induction l generalizing s with
  | nil => exact refl s
  | cons x xs ih => exact (h s x).trans (ih _)

/-! ### Handovers -/

section
variable {u : Fin 8} {t : Holding} {s : State}

theorem startSettle (h : (s.units.get u).state = .scrubbing t) : Works s (startSettle u t s) := by
  unfold Machine.startSettle
  dsimp only
  have h1 : Works s (s.modUnit u (fun v => { v with hand := { v.hand with scrubPos := 0 } })) := one (.hand u _ rfl)
  have hstate : ((s.modUnit u (fun v => { v with hand := { v.hand with scrubPos := 0 } })).units.get u).state = .scrubbing t :=
    (congrArg CustodyUnit.state (setAt_get_same _ _ _)).trans h
  split
  · exact h1.trans (one (.grant u t hstate))
  · exact h1.trans (one (.hand u _ rfl))

theorem placeStep (p : Port) (n : Nat) : Works s (placeStep u p n s) :=
  (one (.hand u { (s.units.get u).hand with scrubPos := n } rfl)).trans (flow (Moves.modPort List.suffix_rfl))

theorem beginScrub (h : (s.units.get u).state = .scrubbing t) : Works s (beginScrub u t s) := by
  unfold Machine.beginScrub
  split
  · exact one (.fail u t h)
  · split
    · split
      · exact startSettle h
      · exact placeStep _ _
    · exact one (.fail u t h)

theorem endDrain (h : (s.units.get u).state = .draining t) (h0 : (s.units.get u).inFlight = 0) : Works s (endDrain u t s) := by
  refine (one (.scrub u t h h0)).trans (beginScrub (s := drainEnded u t s) ?_)
  exact congrArg CustodyUnit.state (setAt_get_same _ _ _)

theorem beginDue (u : Fin 8) (s : State) : Works s (beginDue u s) := by
  by_cases h : ∃ t, (s.units.get u).state = .draining t ∧ (s.units.get u).inFlight = 0
  · obtain ⟨t, ht, h0⟩ := h
    rw [beginDue_ended ht h0]
    exact endDrain ht h0
  · rw [beginDue_other]
    · exact refl s
    · by_contra hno
      obtain ⟨hg, h0⟩ := not_or.mp hno
      obtain ⟨t, ht⟩ := not_forall.mp hg
      exact h ⟨t, not_not.mp ht, not_not.mp h0⟩

theorem stepDone (u : Fin 8) (s : State) : Works s (stepDone u s) := by
  unfold Machine.stepDone
  split
  · rename_i t _ hs _
    split
    · exact startSettle hs
    · exact placeStep _ _
  · exact refl s

theorem stepFailed (u : Fin 8) (s : State) : Works s (stepFailed u s) := by
  unfold Machine.stepFailed
  split
  · rename_i t hs; exact one (.fail u t hs)
  all_goals exact refl s

theorem acceptHandover {start : Resting} (op : HandoverKind) (tag : Fin 4) (h : (s.units.get u).state.resting = some start) :
    Works s (acceptHandover u op start t tag s) := by
  have hc : Works s (Machine.carryCommand .pay tag (.custody u) s) := flow (Moves.carryCommand _ _ _ s)
  have ha := hc.trans (one (.accept u op start t tag h))
  unfold Machine.acceptHandover
  dsimp only
  split
  · rename_i h0
    refine ha.trans (endDrain ?_ ?_)
    · exact congrArg CustodyUnit.state (setAt_get_same _ _ _)
    · exact (congrArg CustodyUnit.inFlight (setAt_get_same _ _ _)).trans h0
  · exact ha.trans (one (.hand u _ rfl))

end

/-! ### Resets of a port -/

/-- A scrub fails, or a drain that has ended goes the same way (R99, R106). -/
theorem withScrubFailed {u : Fin 8} {s : State} (h : (s.units.get u).ends = true) : Works s (withScrubFailed u s) := by
  unfold Machine.withScrubFailed
  dsimp only
  rcases CustodyUnit.ends_iff.mp h with ⟨g, hg⟩ | ⟨g, hg, h0⟩
  · rw [hg]
    exact one (.fail u g hg)
  · rw [hg]
    refine (one (.scrub u g hg h0)).trans (one (.fail (s := drainEnded u g s) u g ?_))
    exact congrArg CustodyUnit.state (setAt_get_same _ _ _)

theorem foldl_withScrubFailed {l : List (Fin 8)} (hn : l.Nodup) {s : State} (h : ∀ u ∈ l, (s.units.get u).ends = true) :
    Works s (l.foldl (fun x u => Machine.withScrubFailed u x) s) := by
  induction l generalizing s with
  | nil => exact refl s
  | cons u us ih =>
    obtain ⟨hu, hn⟩ := List.nodup_cons.mp hn
    refine (withScrubFailed (h u List.mem_cons_self)).trans (ih hn fun w hw => ?_)
    rw [withScrubFailed_other (by rintro rfl; exact hu hw)]
    exact h w (List.mem_cons_of_mem _ hw)

theorem endHandovers {p : Port} {s : State} (cutting : Option (Fin 8)) (hd : (s.ports.get p).link ≠ .up) :
    Works s (endHandovers p cutting s) := by
  rw [endHandovers_down cutting hd]
  exact foldl_withScrubFailed (List.Nodup.filter _ (List.nodup_finRange 8)) fun u hu => (mem_endingOn.mp hu).2.2

theorem beginDueOn (p : Port) (s : State) : Works s (beginDueOn p s) := by
  exact foldl (fun t u => beginDue u t) _ s

theorem resetInitiator (d : Domain) (s : State) : Works s (resetInitiator d s) := by
  unfold Machine.resetInitiator
  dsimp only
  have h : Works s (Machine.setArmed d true
      ((Machine.dropParked d ((requestsOf s d).foldl Machine.abandonRequest s)).modInit d emptyInit)) :=
    (flow (Moves.foldl (fun t id => Moves.abandonRequest t id) _ s)).trans ((one (.drop d)).trans
      (flow ((Moves.modInit (Moves.initStep_emptyInit _)).trans (Moves.setArmed _ _ _))))
  split
  · exact h.trans (flow (Moves.abortCommit _))
  · exact h

end Works

/-! ### The port reset up to the handovers that it ends -/

/-- The port reset of `p` up to its LINK_DOWN record, before it ends handovers (R10 to R13, R76). -/
def resetBody (p : Port) (link : LinkState) (hold : Option Nat) (s : State) : State :=
  let reached := (s.requests.filter (fun r => r.reached p)).map (fun r => r.id)
  let s1 := s.modPort p (fun v => { v with link := link, established := false, hold := hold })
  let s2 := (reached.foldl linkDownRequest s1).modPort p emptyPort
  let own := match p.domain with
    | some d => requestsOf s2 d
    | none => []
  let s3 := match p.domain with
    | some d => resetInitiator d s2
    | none => s2
  raiseFault (linkDownFault p reached.length) ((reached ++ own).foldl (fun t id => finishRequest id t) (evalNewHeads s s3))

theorem resetPort_eq (p : Port) (link : LinkState) (hold : Option Nat) (cutting : Option (Fin 8)) (s : State) :
    resetPort p link hold cutting s = endHandovers p cutting (resetBody p link hold s) := rfl

/-- What abandonment, marked commands and an aborted validation leave of the links. -/
theorem resetInitiator_link (d : Domain) (s : State) (p : Port) : ((resetInitiator d s).ports.get p).link = (s.ports.get p).link := by
  have hremove (id : Nat) (s : State) : Quiet s (removeUnsent id s) := Quiet.removeUnsent id s
  have habandon (s : State) (id : Nat) : Quiet s (abandonRequest s id) := (Quiet.modRequest _ _ s).trans (hremove _ _)
  have hdrop (s : State) : Quiet s (dropParked d s) := Quiet.foldl (fun _ _ => Quiet.modUnit _ _ _) _ s
  have h : Quiet s (setArmed d true ((dropParked d ((requestsOf s d).foldl abandonRequest s)).modInit d emptyInit)) :=
    (Quiet.foldl habandon _ s).trans ((hdrop _).trans ((Quiet.modInit _ _ _).trans (Quiet.setArmed _ _ _)))
  unfold resetInitiator
  dsimp only
  split
  · refine Eq.trans ?_ (h.link p)
    unfold abortCommit
    split
    · exact (Quiet.endCommand _ _ _ (State.setCommit none _)).link p
    · rfl
  · exact h.link p

theorem resetBody_link (p : Port) (link : LinkState) (hold : Option Nat) (s : State) :
    ((resetBody p link hold s).ports.get p).link = link := by
  have hdown (s : State) (id : Nat) : Quiet s (linkDownRequest s id) := (Quiet.endPieces _ _ _ s).trans (Quiet.removeUnsent _ _)
  unfold resetBody
  dsimp only
  rw [(Quiet.raiseFault _ _).link, (Quiet.foldl (fun t id => Quiet.finishRequest id t) _ _).link, (Quiet.evalNewHeads _ _).link]
  have h2 (l : List Nat) : (((l.foldl linkDownRequest
      (s.modPort p (fun v => { v with link := link, established := false, hold := hold }))).modPort p emptyPort).ports.get p).link =
        link := by
    refine (congrArg PortState.link (PerPort.get_set_same _ _ _)).trans (((Quiet.foldl hdown l _).link p).trans ?_)
    exact congrArg PortState.link (PerPort.get_set_same _ _ _)
  split
  · rw [resetInitiator_link]; exact h2 _
  · exact h2 _

namespace Works

theorem resetBody (p : Port) (link : LinkState) (hold : Option Nat) (s : State) : Works s (resetBody p link hold s) := by
  unfold Machine.resetBody
  dsimp only
  refine (flow ((Moves.modPort (p := p) (f := fun v => { v with link := link, established := false, hold := hold })
    List.suffix_rfl).trans ((Moves.foldl (fun t id => Moves.linkDownRequest t id)
      ((s.requests.filter (fun r => r.reached p)).map (fun r => r.id)) _).trans
    (Moves.modPort (p := p) (f := emptyPort) List.nil_suffix)))).trans ?_
  split
  · exact (resetInitiator _ _).trans (flow ((Moves.evalNewHeads s _).trans ((Moves.foldl (fun t id => Moves.finishRequest id t) _ _).trans
      (Moves.raiseFault _ _))))
  · exact flow ((Moves.evalNewHeads s _).trans ((Moves.foldl (fun t id => Moves.finishRequest id t) _ _).trans (Moves.raiseFault _ _)))

theorem resetPort {p : Port} {link : LinkState} (hold : Option Nat) (cutting : Option (Fin 8)) (hl : link ≠ .up) (s : State) :
    Works s (resetPort p link hold cutting s) := by
  rw [resetPort_eq]
  exact (resetBody p link hold s).trans (endHandovers cutting (by rw [resetBody_link]; exact hl))

theorem orphanLimit (p : Port) (cutting : Option (Fin 8)) (s : State) : Works s (orphanLimit p cutting s) := by
  unfold Machine.orphanLimit
  split
  · exact (flow (Moves.raiseFault _ s)).trans (resetPort _ _ (by decide) _)
  · exact refl s

theorem bringUp (p : Port) (s : State) : Works s (bringUp p s) := by
  unfold Machine.bringUp
  dsimp only
  refine (beginDueOn p s).trans ((flow (Moves.modPort (p := p) (f := fun v => { v with link := .up, established := false, hold := none })
    List.suffix_rfl)).trans ?_)
  split
  · exact flow (Moves.announceUp _ _)
  · exact refl _

theorem completionArrives (p : Port) (tag : Fin 16) (status : Byte) (present : Bool) (code : Byte) (payload : List Byte)
    (s : State) : Works s (completionArrives p tag status present code payload s) := by
  unfold Machine.completionArrives
  split
  · exact refl s
  · exact flow (Moves.setTag _ _ _ s)
  · split
    · split
      · exact (flow (Moves.setTag _ _ _ s)).trans (stepDone _ _)
      · exact (flow (Moves.setTag _ _ _ s)).trans (stepFailed _ _)
    · exact flow (Moves.raiseFault _ s)
  · split
    · exact flow (Moves.raiseFault _ s)
    · split
      · exact flow ((Moves.setTag _ _ _ s).trans (Moves.completePiece _ _ _ _ _ _))
      · exact flow (Moves.raiseFault _ s)

end Works

/-! ### A unit whose drain is cut is left alone by what comes between -/

/-- What works that concern other units leave of a unit: its state, and no more in flight. -/
def KeepsUnit (u : Fin 8) (s t : State) : Prop :=
  (t.units.get u).state = (s.units.get u).state ∧ (t.units.get u).hand = (s.units.get u).hand ∧
    (t.units.get u).inFlight ≤ (s.units.get u).inFlight

theorem KeepsUnit.refl (u : Fin 8) (s : State) : KeepsUnit u s s := ⟨rfl, rfl, le_refl _⟩

theorem KeepsUnit.trans {u : Fin 8} {s t w : State} (h : KeepsUnit u s t) (g : KeepsUnit u t w) : KeepsUnit u s w :=
  ⟨g.1.trans h.1, g.2.1.trans h.2.1, g.2.2.trans h.2.2⟩

theorem KeepsUnit.of_eq {u : Fin 8} {s t : State} (h : t.units.get u = s.units.get u) : KeepsUnit u s t := by
  rw [KeepsUnit, h]; exact ⟨rfl, rfl, le_refl _⟩

/-! ### What the moves of traffic leave of a unit -/

theorem countOut_get (x : Option (Fin 8)) (n : Nat) (s : State) (u : Fin 8) : (countOut x n s).units.get u =
    if x = some u then { s.units.get u with inFlight := (s.units.get u).inFlight - n } else s.units.get u := by
  cases x with
  | none => rfl
  | some v =>
    by_cases h : u = v
    · subst h; rw [if_pos rfl]; exact setAt_get_same _ _ _
    · rw [if_neg (by simpa using Ne.symm h)]; exact setAt_get_other _ _ h

theorem countIn_get (x : Option (Fin 8)) (n : Nat) (s : State) (u : Fin 8) : (countIn x n s).units.get u =
    if x = some u then { s.units.get u with inFlight := (s.units.get u).inFlight + n } else s.units.get u := by
  cases x with
  | none => rfl
  | some v =>
    by_cases h : u = v
    · subst h; rw [if_pos rfl]; exact setAt_get_same _ _ _
    · rw [if_neg (by simpa using Ne.symm h)]; exact setAt_get_other _ _ h

/-- The unit `w` is `v` with no more pieces in flight. -/
def CustodyUnit.LeftBy (v w : CustodyUnit) : Prop := ∃ k ≤ v.inFlight, w = { v with inFlight := k }

theorem CustodyUnit.LeftBy.refl (v : CustodyUnit) : v.LeftBy v := ⟨_, le_refl _, rfl⟩

theorem endPiece_leftBy (ref : PieceRef) (st : PieceState) (s : State) (u : Fin 8) :
    (s.units.get u).LeftBy ((endPiece ref st s).units.get u) := by
  unfold endPiece
  split
  · exact .refl _
  · split
    · rw [countOut_get]
      split
      · exact ⟨_, Nat.sub_le _ _, rfl⟩
      · exact .refl _
    · exact .refl _

theorem Move.leftBy {s t : State} (h : Move false s t) (u : Fin 8) : (s.units.get u).LeftBy (t.units.get u) := by
  cases h with
  | unit _ _ h => cases h
  | enter _ h => cases h
  | endPiece ref st _ => exact endPiece_leftBy ref st s u
  | _ => exact .refl _

/-- Moves without works take pieces out of the counts, and leave the units else as they are. -/
theorem Moves.leftBy {s t : State} (h : Moves false s t) (u : Fin 8) : (s.units.get u).LeftBy (t.units.get u) := by
  refine h.related (R := fun s t => (s.units.get u).LeftBy (t.units.get u)) (fun s => .refl _) (fun a b c hab hbc => ?_)
    (fun _ _ hm => hm.leftBy u)
  obtain ⟨k, hk, e⟩ := hab
  obtain ⟨m, hm, e'⟩ := hbc
  rw [e] at hm e'
  exact ⟨m, hm.trans hk, e'⟩

theorem KeepsUnit.flow {s t : State} (h : Moves false s t) (u : Fin 8) : KeepsUnit u s t := by
  obtain ⟨k, hk, e⟩ := h.leftBy u
  unfold KeepsUnit
  rw [e]
  exact ⟨rfl, rfl, hk⟩

theorem dropParked_get (d : Domain) (s : State) (u : Fin 8) : (dropParked d s).units.get u =
    { s.units.get u with parked := (s.units.get u).parked.filter (fun k => decide (k.req.dom ≠ d)) } := by
  have hfold : ∀ (l : List (Fin 8)) (s : State), l.Nodup → (l.foldl (fun t u => t.modUnit u (fun v =>
      { v with parked := v.parked.filter (fun k => decide (k.req.dom ≠ d)) })) s).units.get u =
        if u ∈ l then { s.units.get u with parked := (s.units.get u).parked.filter (fun k => decide (k.req.dom ≠ d)) }
        else s.units.get u := by
    intro l
    induction l with
    | nil => intro s _; rfl
    | cons w ws ih =>
      intro s hn
      obtain ⟨hw, hn⟩ := List.nodup_cons.mp hn
      rw [List.foldl_cons, ih _ hn]
      by_cases h : u = w
      · subst h
        rw [if_neg hw, if_pos List.mem_cons_self]
        exact setAt_get_same _ _ _
      · have hget : (s.modUnit w (fun v => { v with parked := v.parked.filter (fun k => decide (k.req.dom ≠ d)) })).units.get u =
            s.units.get u := setAt_get_other _ _ h
        rw [hget]
        by_cases hm : u ∈ ws
        · rw [if_pos hm, if_pos (List.mem_cons_of_mem _ hm)]
        · rw [if_neg hm, if_neg (by simp [h, hm])]
  refine (hfold allUnits s (List.nodup_finRange 8)).trans (if_pos (List.mem_finRange u))

theorem KeepsUnit.resetBody (u : Fin 8) (p : Port) (link : LinkState) (hold : Option Nat) (s : State) :
    KeepsUnit u s (resetBody p link hold s) := by
  have hinit (d : Domain) (s : State) : KeepsUnit u s (resetInitiator d s) := by
    have hdrop (s : State) : KeepsUnit u s (dropParked d s) := by
      unfold KeepsUnit
      rw [dropParked_get]
      exact ⟨rfl, rfl, le_refl _⟩
    have h : KeepsUnit u s (setArmed d true ((dropParked d ((requestsOf s d).foldl abandonRequest s)).modInit d emptyInit)) :=
      (KeepsUnit.flow (Moves.foldl (fun t id => Moves.abandonRequest t id) _ s) u).trans ((hdrop _).trans
        (KeepsUnit.flow ((Moves.modInit (Moves.initStep_emptyInit _)).trans (Moves.setArmed _ _ _)) u))
    unfold resetInitiator
    dsimp only
    split
    · exact h.trans (KeepsUnit.flow (Moves.abortCommit _) u)
    · exact h
  unfold Machine.resetBody
  dsimp only
  refine (KeepsUnit.flow ((Moves.modPort (p := p) (f := fun v => { v with link := link, established := false, hold := hold })
    List.suffix_rfl).trans ((Moves.foldl (fun t id => Moves.linkDownRequest t id)
      ((s.requests.filter (fun r => r.reached p)).map (fun r => r.id)) _).trans
    (Moves.modPort (p := p) (f := emptyPort) List.nil_suffix))) u).trans ?_
  split
  · exact (hinit _ _).trans (KeepsUnit.flow ((Moves.evalNewHeads s _).trans ((Moves.foldl (fun t id => Moves.finishRequest id t) _ _).trans
      (Moves.raiseFault _ _))) u)
  · exact KeepsUnit.flow ((Moves.evalNewHeads s _).trans ((Moves.foldl (fun t id => Moves.finishRequest id t) _ _).trans
      (Moves.raiseFault _ _))) u

/-- Failures of other units' scrubs leave a unit as it is. -/
theorem foldl_withScrubFailed_other {u : Fin 8} {l : List (Fin 8)} (h : u ∉ l) (s : State) :
    (l.foldl (fun x w => withScrubFailed w x) s).units.get u = s.units.get u := by
  induction l generalizing s with
  | nil => rfl
  | cons w ws ih =>
    rw [List.foldl_cons, ih (fun hm => h (List.mem_cons_of_mem _ hm))]
    exact withScrubFailed_other (by rintro rfl; exact h List.mem_cons_self) s

/-- A port reset made while unit `u` is cut leaves its drain (R101). -/
theorem KeepsUnit.resetPort (u : Fin 8) (p : Port) {link : LinkState} (hold : Option Nat) (hl : link ≠ .up) (s : State) :
    KeepsUnit u s (resetPort p link hold (some u) s) := by
  rw [resetPort_eq, endHandovers_down _ (by rw [resetBody_link]; exact hl)]
  exact (KeepsUnit.resetBody u p link hold s).trans
    (KeepsUnit.of_eq (foldl_withScrubFailed_other (fun hm => (mem_endingOn.mp hm).2.1 rfl) _))

theorem KeepsUnit.orphanLimit (u : Fin 8) (p : Port) (s : State) : KeepsUnit u s (orphanLimit p (some u) s) := by
  unfold Machine.orphanLimit
  split
  · exact (KeepsUnit.flow (Moves.raiseFault _ s) u).trans (KeepsUnit.resetPort u p _ (by decide) _)
  · exact KeepsUnit.refl u s

theorem KeepsUnit.foldl {α : Type} {u : Fin 8} {f : State → α → State} (h : ∀ s x, KeepsUnit u s (f s x)) (l : List α) (s : State) :
    KeepsUnit u s (l.foldl f s) := by
  induction l generalizing s with
  | nil => exact refl u s
  | cons x xs ih => exact (h s x).trans (ih _)

end Sys2Proof.Machine
end

section
/-! PROOFS. Routes: what a command can do, as moves with at most one edit between them, or as a reset of the part; and what a step is. -/

namespace Sys2Proof.Machine

open Sys2Proof

/-! ### Edits -/

/-- The cut of unit `u` up to its count: the pieces in flight have ended, the count is 0 and the cut is counted (R100, R101). -/
def cutPieces (u : Fin 8) (s : State) : State :=
  ((requestsInFlight s u).foldl cutRequest s).modUnit u (fun v =>
    { v with inFlight := 0, hand := { v.hand with cutCount := (requestsInFlight s u).length } })

/-- The changes that are no moves: the clock, edits of the policy, of definitions, of rates and of controls, and the count of a unit
that is cut. At most one of them happens in a command. -/
inductive Edit : State → State → Prop
  | time (s : State) (t : Nat) : (s.gateTime ≤ 2 ^ 48 - 1 → s.gateTime ≤ t) → t ≤ 2 ^ 48 - 1 →
      (∀ c, s.commit = some c → s.gateTime ≤ c.started + 400 → t ≤ c.started + 400) → Edit s (s.setGateTime t)
  | pin (s : State) (i : Fin 96) : Edit s (pinEntry i s)
  | clone (s : State) : Edit s (s.setPendingBank s.active)
  | write (s : State) (i : Fin 96) (image : List Byte) (e : Entry) :
      entryOfImage image (s.pendingBank.get i).pinned = some e → Edit s (s.setPendingBank (setAt s.pendingBank i e))
  | startCommit (s : State) (tag : Fin 4) : Edit s (s.setCommit (some ⟨tag, s.gateTime⟩))
  | swap (s : State) : validate s = none → s.commit ≠ none → Edit s (swapBanks s)
  | define (s : State) (u : Fin 8) (image : List Byte) (d : UnitDefinition) : definitionOfImage image = some d →
      (s.units.get u).state = .opened →
      (∀ p, d.port = some p → definitionFits s u d p = true ∧ custodyGap s u p d.start.toNat (sizeBytes d.size) = none) →
      Edit s (s.modUnit u (fun v => v.define d))
  | meter (s : State) (n : Fin 16) (t rate depth : Nat) : rate ≤ 65535 → 1 ≤ depth → depth ≤ 4095 →
      (rate = 0 → meterNamed s n = false) → Edit s (s.modMeter n (fun v => v.change t rate depth))
  | control (s : State) (c : FaultClass) (flags weight : Byte) : Edit s (storeControl c flags weight s)
  | cut (s : State) (u : Fin 8) : Edit s (cutPieces u s)

/-- All that a command can do, as moves. -/
inductive Path (s : State) : State → Prop
  | moves {t : State} : Moves true s t → Path s t
  | edit {a b t : State} : Moves true s a → Edit a b → Moves true b t → Path s t
  | reset {a : State} (cause : ResetCause) : Moves true s a → Path s (resetPart cause a)

/-- All that a command can do, as works. -/
inductive Route (s : State) : State → Prop
  | works {t : State} : Works s t → Route s t
  | edit {a b t : State} : Works s a → Edit a b → Works b t → Route s t
  | reset {a : State} (cause : ResetCause) : Works s a → Route s (resetPart cause a)

theorem Route.path {s t : State} (h : Route s t) : Path s t := by
  cases h with
  | works m => exact .moves m.moves
  | edit m e n => exact .edit m.moves e n.moves
  | reset cause m => exact .reset cause m.moves

theorem Route.moves {s t : State} (h : Moves false s t) : Route s t := .works (.flow h)

/-- One edit between moves of traffic. -/
theorem Route.edited {s a b t : State} (h : Moves false s a) (e : Edit a b) (g : Moves false b t) : Route s t :=
  .edit (.flow h) e (.flow g)

theorem Route.afterWorks {s a t : State} (h : Works s a) (g : Route a t) : Route s t := by
  cases g with
  | works m => exact .works (h.trans m)
  | edit m e n => exact .edit (h.trans m) e n
  | reset cause m => exact .reset cause (h.trans m)

theorem Route.after {s a t : State} (h : Moves false s a) (g : Route a t) : Route s t := Route.afterWorks (.flow h) g

theorem Route.one_edit {s b t : State} (e : Edit s b) (m : Moves false b t) : Route s t := .edited (Moves.refl s) e m

/-! ### Packets and commands as they are taken -/

/-- Of the fields, a packet's arrival changes the ingress buffer alone, which loses its head. -/
theorem Moves.fromIngress {p : Port} {pkt : Packet} {s s1 : State} (h : fromIngress p pkt s = some s1) : Moves false s s1 := by
  unfold Machine.fromIngress at h
  split at h
  · split at h
    · rw [← Option.some.inj h]; exact refl s
    · rename_i x rest hi
      split at h
      · rw [← Option.some.inj h]
        exact modPort (by rw [show (s.ports.get p).ingress = x :: rest from hi]; exact List.suffix_cons _ _)
      · cases h
  · cases h

/-- Taking a packet makes moves before its block and raises a fault where a check fails. -/
theorem Route.takePacket {p : Port} {pkt : Packet} {block : State → State} {s : State}
    (h : ∀ s1, checkPacket s1 p pkt = none → Route s1 (block s1)) : Route s (takePacket p pkt block s) := by
  unfold Machine.takePacket
  split
  · exact .moves (Moves.refl s)
  · rename_i s1 hs1
    split
    · exact .moves ((Moves.fromIngress hs1).trans (Moves.raiseFault _ _))
    · rename_i hc
      exact Route.after (Moves.fromIngress hs1) (h s1 hc)

/-- A MANAGE that passes the checks of R7 has a tag that no command holds (R5, R158). -/
theorem tagInUse_of_check {s : State} {d : Domain} {code : Byte} {m : MgmtPacket} {p : Port} (hp : p.domain = some d)
    (h : checkPacket s p (.manage code m) = none) : tagInUse s d m.tag = false := by
  simp only [checkPacket, hp] at h
  split at h
  · split at h
    · cases h
    · rename_i ht; exact Bool.not_eq_true _ ▸ ht
  · cases h

/-- The engine takes a command whose tag none of the port's commands holds. -/
theorem Moves.enterCommand {d : Domain} {t : Fin 4} {code : Byte} {s : State} (h : tagInUse s d t = false) :
    Moves false s (enterCommand d t code s) := by
  refine modInit ⟨id, id, fun hn => ?_⟩
  have ht : t ∉ ((s.inits.get d).commands.filter (fun c => !c.discard)).map (fun c => c.tag) := by
    simp only [tagInUse, State.init, List.any_eq_false, Bool.and_eq_true, Bool.not_eq_true', decide_eq_true_eq, not_and] at h
    rintro hm
    obtain ⟨c, hc, he⟩ := List.mem_map.mp hm
    obtain ⟨hc, hd⟩ := List.mem_filter.mp hc
    exact h c hc (by simpa using hd) he
  rw [List.filter_append, List.map_append]
  exact List.nodup_append.mpr ⟨hn, by simp, fun a ha b hb => by
    simp at hb; subst hb; rintro rfl; exact ht ha⟩

/-- Taking a command makes moves before its own part. -/
theorem Route.takeCommand {p : Port} {code : Byte} {m : MgmtPacket} {permitted : Domain → Bool} {body : Domain → State → State}
    {s : State} (h : ∀ d a, Route a (body d a)) : Route s (takeCommand p code m permitted body s) := by
  refine Route.takePacket (fun s1 hc => ?_)
  cases hp : p.domain with
  | none => exact .moves (Moves.refl _)
  | some d =>
    have he : Moves false s1 (enterCommand d m.tag code s1) := Moves.enterCommand (tagInUse_of_check hp hc)
    dsimp only
    split
    · exact Route.after he (h d _)
    · exact .moves (he.trans ((Moves.raiseFault _ _).trans (Moves.reply _ _ _ _ _)))

/-- A command whose own part makes moves alone. -/
theorem Route.takeCommand_moves {p : Port} {code : Byte} {m : MgmtPacket} {permitted : Domain → Bool}
    {body : Domain → State → State} {s : State} (h : ∀ d a, Moves false a (body d a)) :
    Route s (Machine.takeCommand p code m permitted body s) := Route.takeCommand (fun d a => .moves (h d a))

/-! ### Requests -/

/-- The length a code gives is that of a request (R1). -/
theorem lengthOfCode_bounds (code : Byte) : 1 ≤ lengthOfCode code ∧ lengthOfCode code ≤ 256 := by
  unfold lengthOfCode
  split
  · omega
  · rename_i h
    have : code.toNat ≠ 0 := fun e => h (BitVec.eq_of_toNat_eq (by simpa using e))
    have := code.isLt
    omega

theorem Works.decideCustody {q : Arrival} (e : EntryCopy) (hl : 1 ≤ q.len ∧ q.len ≤ 256) (s : State) :
    Works s (decideCustody q e s) := by
  unfold Machine.decideCustody
  split
  · rename_i hu
    exact one (.enter q e (fun u h => by rw [hu] at h; cases h))
  · rename_i u hu
    split
    · rename_i ha
      exact one (.enter q e (fun v h => by rw [hu] at h; rw [← Option.some.inj h]; exact ha))
    · rename_i ha; exact one (.park u q e hu ha hl)
    · exact flow (Moves.denyCustody _ _ _ s)

theorem Works.decideRequest {q : Arrival} (hl : 1 ≤ q.len ∧ q.len ≤ 256) (s : State) : Works s (decideRequest q s) := by
  unfold Machine.decideRequest
  split
  · exact flow (Moves.denyRequest _ _ _ _ _ s)
  · split
    · exact flow (Moves.denyRequest _ _ _ _ _ s)
    · split
      · exact decideCustody _ hl s
      · exact flow (Moves.denyRequest _ _ _ _ _ s)

/-- A tag that is not in the set enters it (R4). -/
theorem Moves.enterTag {d : Domain} {t : Fin 32} {s : State} (h : t ∉ (s.inits.get d).tags) : Moves false s (enterTag d t s) :=
  modInit ⟨id, fun hn => List.nodup_cons.mpr ⟨h, hn⟩, id⟩

theorem Works.requestArrives {d : Domain} {kind : Kind} {tag : Fin 32} {code : Byte} {addr : Addr} {payload : List Byte} {s : State}
    (h : kind ≠ .post → tag ∉ (s.inits.get d).tags) : Works s (requestArrives d kind tag code addr payload s) := by
  unfold Machine.requestArrives
  split
  · split
    · exact decideRequest (lengthOfCode_bounds code) s
    · exact flow (Moves.setFlag _ _ s)
  · rename_i hk
    exact (flow (Moves.enterTag (h hk))).trans (decideRequest (lengthOfCode_bounds code) _)

/-- A READ or WRITE that passes the checks of R7 has a tag that is not in the set (R4). -/
theorem tag_new_of_check {s : State} {d : Domain} {p : Port} {kind : Kind} {tag : Fin 32} {code : Byte} {addr : Addr}
    {payload : List Byte} (hp : p.domain = some d) (h : checkPacket s p (.request kind tag code addr payload) = none) :
    kind ≠ .post → tag ∉ (s.inits.get d).tags := by
  intro hk hm
  simp only [checkPacket, hp] at h
  split at h
  · rw [if_pos ⟨hk, by simpa [State.init] using hm⟩] at h
    cases h
  · cases h

/-! ### Commands -/

/-- An abort of the validation leaves what the edits read. -/
theorem abortCommit_reads (s : State) : (abortCommit s).units = s.units ∧ (abortCommit s).active = s.active ∧
    (abortCommit s).pendingBank = s.pendingBank ∧ (abortCommit s).gateTime = s.gateTime := by
  unfold abortCommit
  split
  · unfold endCommand
    split
    · exact ⟨rfl, rfl, rfl, rfl⟩
    · split
      · exact ⟨rfl, rfl, rfl, rfl⟩
      · unfold reply placeOut
        split <;> exact ⟨rfl, rfl, rfl, rfl⟩
  · exact ⟨rfl, rfl, rfl, rfl⟩

@[simp] theorem abortCommit_units (s : State) : (abortCommit s).units = s.units := (abortCommit_reads s).1

@[simp] theorem abortCommit_active (s : State) : (abortCommit s).active = s.active := (abortCommit_reads s).2.1

@[simp] theorem abortCommit_pendingBank (s : State) : (abortCommit s).pendingBank = s.pendingBank := (abortCommit_reads s).2.2.1

@[simp] theorem placeOut_inits (p : Port) (pkt : OutPacket) (s : State) : (placeOut p pkt s).inits = s.inits := by
  unfold placeOut; split <;> rfl

/-- The checks of a definition read the units alone. -/
theorem definitionFits_congr {s t : State} (h : t.units = s.units) (u : Fin 8) (d : UnitDefinition) (p : Port) :
    definitionFits t u d p = definitionFits s u d p := by
  unfold definitionFits anotherUnit State.unit
  rw [h]

/-- The custody-gap check reads the ACTIVE bank alone. -/
theorem custodyGap_congr {s t : State} (h : t.active = s.active) (u : Fin 8) (p : Port) (x n : Nat) :
    custodyGap t u p x n = custodyGap s u p x n := by
  unfold custodyGap
  rw [h]

/-- UNIT_DEFINE stores a definition that passed its checks. -/
theorem Route.storeDefinition {u : Fin 8} {d : UnitDefinition} {c : Domain} {m : MgmtPacket} {s : State}
    (hd : definitionOfImage m.params = some d) (hu : (s.units.get u).state = .opened)
    (hp : ∀ p, d.port = some p → definitionFits s u d p = true ∧ custodyGap s u p d.start.toNat (sizeBytes d.size) = none) :
    Route s (storeDefinition u d c m s) := by
  refine .edited (Moves.abortCommit s) (.define _ u m.params d hd ?_ ?_) (Moves.reply _ _ _ _ _)
  · rw [abortCommit_units]; exact hu
  · intro p h
    rw [definitionFits_congr (abortCommit_units s), custodyGap_congr (abortCommit_active s)]
    exact hp p h

theorem Route.defineUnit (c : Domain) (m : MgmtPacket) (s : State) : Route s (defineUnit c m s) := by
  unfold Machine.defineUnit
  split
  · exact .moves (Moves.badParameter _ _ _)
  · split
    · rename_i u d _ hd
      split
      · rename_i hu
        split
        · rename_i hport
          exact Route.storeDefinition hd hu (fun p hp => by rw [hport] at hp; cases hp)
        · rename_i p hport
          split
          · rename_i hfit
            split
            · exact .moves (Moves.reply _ _ _ _ _)
            · rename_i hgap
              refine Route.storeDefinition hd hu (fun q hq => ?_)
              rw [hport] at hq
              rw [← Option.some.inj hq]
              exact ⟨hfit, hgap⟩
          · exact .moves (Moves.badParameter _ _ _)
      · exact .moves (Moves.reply _ _ _ _ _)
    · exact .moves (Moves.badParameter _ _ _)

theorem Works.takeUnit (u : Fin 8) (t : Holding) (c : Domain) (m : MgmtPacket) (s : State) : Works s (takeUnit u t c m s) := by
  unfold Machine.takeUnit
  split
  · exact flow (Moves.badParameter _ _ s)
  · split
    · exact flow (Moves.reply _ _ _ _ s)
    · rename_i start hs
      split
      · exact flow (Moves.reply _ _ _ _ s)
      · exact acceptHandover _ _ hs

theorem Works.returnUnit (u : Fin 8) (c : Domain) (m : MgmtPacket) (s : State) : Works s (returnUnit u c m s) := by
  unfold Machine.returnUnit
  dsimp only
  split
  · exact flow (Moves.reply _ _ _ _ s)
  · rename_i h hs
    exact acceptHandover _ _ (by rw [show (s.units.get u).state = .held h from hs]; rfl)
  · rename_i t hs
    split
    · rename_i hop; exact one (.abort u t m.tag hs hop.1)
    · exact flow (Moves.reply _ _ _ _ s)
  · exact flow (Moves.reply _ _ _ _ s)
  · rename_i hs
    exact acceptHandover _ _ (by rw [show (s.units.get u).state = .failed from hs]; rfl)

/-- The cut: the pieces and the count first, then what follows from it. -/
theorem Moves.afterCut (u : Fin 8) (s : State) : Moves false (cutPieces u s) (makeCut u s) :=
  (evalNewHeads s _).trans ((foldl (fun t r => finishRequest r.id t) (requestsInFlight s u) _).trans
    ((foldl (fun t r => setFlag r.dom .cut t) (requestsInFlight s u) _).trans (raiseFault _ _)))

/-- The cut of unit `u` leaves it draining, with nothing in flight (R100). -/
theorem cutPieces_unit (u : Fin 8) (s : State) : ((cutPieces u s).units.get u).state = (s.units.get u).state ∧
    ((cutPieces u s).units.get u).inFlight = 0 := by
  obtain ⟨k, -, e⟩ := (Moves.foldl (fun t r => Moves.cutRequest t r) (requestsInFlight s u) s).leftBy u
  unfold cutPieces
  rw [State.modUnit_units, setAt_get_same]
  refine ⟨?_, rfl⟩
  dsimp only
  rw [e]

/-- The drain deadline: the cut, then the orphan limits and the end of the drain (R100, R101). -/
theorem Route.cutDrain {u : Fin 8} {t : Holding} {s : State} (h : (s.units.get u).state = .draining t) :
    Route s (endDrain u t (allPorts.foldl (fun x p => orphanLimit p (some u) x) (makeCut u s))) := by
  have hkeep : KeepsUnit u (cutPieces u s) (allPorts.foldl (fun x p => orphanLimit p (some u) x) (makeCut u s)) :=
    (KeepsUnit.flow (Moves.afterCut u s) u).trans (KeepsUnit.foldl (fun x p => KeepsUnit.orphanLimit u p x) _ _)
  obtain ⟨hstate, -, hcount⟩ := hkeep
  refine .edit (Works.refl s) (.cut s u) ((Works.flow (Moves.afterCut u s)).trans (Works.trans ?_ (Works.endDrain ?_ ?_)))
  · exact Works.foldl (fun x p => Works.orphanLimit p (some u) x) _ _
  · exact hstate.trans ((cutPieces_unit u s).1.trans h)
  · rw [(cutPieces_unit u s).2] at hcount
    exact Nat.le_zero.mp hcount

theorem storeDepth_bounds (v : Nat) : 1 ≤ storeDepth v ∧ storeDepth v ≤ 4095 := by
  unfold storeDepth Config.depthLimit
  split <;> omega

theorem Route.changeMeter {n : Fin 16} {rate depth : Nat} {s t : State} (hr : rate ≤ 65535) (hd : 1 ≤ depth ∧ depth ≤ 4095)
    (hn : rate = 0 → meterNamed s n = false) (h : Moves false (changeMeter n rate depth s) t) : Route s t := by
  refine .edited (Moves.abortCommit s) (.meter _ n s.gateTime rate depth hr hd.1 hd.2 ?_) ((Moves.evalMeter n _).trans h)
  simpa only [meterNamed, abortCommit_active] using hn

theorem Moves.storePort (q : Port) (params : List Byte) (route : Option Domain) (s : State) :
    Moves false s (storePort q params route s) := by
  unfold Machine.storePort
  split
  · exact (abortCommit s).trans (modPort List.suffix_rfl)
  · exact modPort List.suffix_rfl

theorem Moves.fetchFaults (d : Domain) (m : MgmtPacket) (n : Nat) (s : State) : Moves false s (fetchFaults d m n s) := by
  have hk {α : Type} (q : FaultQueue α) (k b : Nat) (h : q.records.length ≤ b) : (q.fetched k).records.length ≤ b := by
    simp only [FaultQueue.fetched, List.length_drop]; omega
  have ha (t : State) : Moves false t (afterFetch d t) := by
    unfold afterFetch
    split
    · exact setArmed _ _ t
    · exact tellReader _ t
  unfold Machine.fetchFaults
  split
  · exact (one (.supQ s _ (hk _ _ _))).trans ((reply _ _ _ _ _).trans (ha _))
  · exact (one (.ownQ s _ _ (hk _ _ _))).trans ((reply _ _ _ _ _).trans (ha _))

/-- Decay takes from a score (R139). -/
theorem ScoreRecord.decay_score_le (r : ScoreRecord) (t : Nat) : (r.decay t).score ≤ r.score := by
  unfold ScoreRecord.decay
  split
  · exact Nat.le_refl _
  · exact Nat.sub_le _ _

theorem ScoreRecord.readNow_score (r : ScoreRecord) (t : Nat) : (r.readNow t).score = (r.decay t).score := by
  unfold ScoreRecord.readNow
  dsimp only
  split <;> rfl

theorem Route.endValidation {s : State} (hc : s.commit ≠ none) : Route s (endValidation s) := by
  unfold Machine.endValidation
  split
  · exact .moves ((Moves.one (.commit s)).trans (Moves.endCommand _ _ _ _))
  · rename_i hv
    exact .one_edit (.swap s hv hc) (Moves.endCommand _ _ _ _)

/-- Leaving the link takes a packet from the outbound queue alone. -/
theorem Moves.headLeaves {p : Port} {pkt : OutPacket} {s s1 : State} (h : headLeaves p s = some (pkt, s1)) : Moves false s s1 := by
  unfold Machine.headLeaves at h
  split at h
  · split at h
    · cases h
    · rename_i x rest _
      rw [← show _ = s1 from congrArg Prod.snd (Option.some.inj h)]
      exact modPort (f := fun v => { v with outbound := rest }) List.suffix_rfl
  · cases h

theorem Moves.pieceLeft (p : Port) (t : Fin 16) (s : State) : Moves false s (pieceLeft p t s) := by
  unfold Machine.pieceLeft
  split
  · split
    · exact refl s
    · rename_i r c hf
      split
      · exact (setTag _ _ _ s).trans ((endPiece rfl _).trans (finishRequest _ _))
      · split
        · rename_i hc
          exact setPiece (fun c => { c with state := .sent }) hf (by rw [hc]; rfl) (fun _ => rfl) (fun _ => rfl)
        · exact refl s
  · exact setTag _ _ _ s
  · exact refl s
  · exact refl s

/-- A packet that leaves an initiator port changes what the port keeps. -/
theorem Route.left {p : Port} {d : Domain} {pkt : OutPacket} {s s1 : State} {f : InitState → InitState}
    (h : Machine.headLeaves p s = some (pkt, s1)) (hf : ∀ v, InitStep v (f v)) : Route s (s1.modInit d f) :=
  .moves ((Moves.headLeaves h).trans (Moves.modInit (hf _)))

/-! ### Every command -/

/-- The end of a running validation is among the timers (R152). -/
theorem validation_running {s : State} {c : Commit} (hc : s.commit = some c) :
    (c.started + 400, Instr.validationEnd) ∈ runningTimers s := by
  unfold runningTimers
  rw [hc]
  exact List.mem_append_left _ (List.mem_append_left _ (List.mem_append_left _ (List.mem_append_left _ (List.mem_append_left _
    (List.mem_append_left _ (List.mem_singleton.mpr rfl))))))

theorem quietUntil_validation {s : State} {t : Nat} (h : quietUntil s t = true) {c : Commit} (hc : s.commit = some c) :
    t ≤ c.started + 400 := by
  simp only [quietUntil, Bool.and_eq_true, List.all_eq_true, decide_eq_true_eq] at h
  exact h.2 _ (validation_running hc)

theorem cutTimer_draining {s : State} {u : Fin 8} {t : Holding} {e : Nat} (h : cutTimer s u = some (t, e)) :
    (s.units.get u).state = .draining t := by
  unfold cutTimer at h
  split at h
  · rename_i g hs
    split at h
    · cases h
    · obtain ⟨x, -, hx⟩ := Option.map_eq_some_iff.mp h
      rw [← show g = t from congrArg Prod.fst hx]
      exact hs
  all_goals cases h

theorem settleTimer_scrubbing {s : State} {u : Fin 8} {t : Holding} {e : Nat} (h : settleTimerOf s u = some (t, e)) :
    (s.units.get u).state = .scrubbing t := by
  unfold settleTimerOf at h
  split at h
  · rename_i g hs
    obtain ⟨x, -, hx⟩ := Option.map_eq_some_iff.mp h
    rw [← show g = t from congrArg Prod.fst hx]
    exact hs
  all_goals cases h

/-- What a command does is made of works, and it always has a next state. -/
theorem exec_route (c : Instr) (s : State) : ∃ t, exec c s = .next t ∧ Route s t := by
  cases c with
  | powerOn => exact ⟨_, rfl, .reset _ (Works.refl s)⟩
  | resetLine => exact ⟨_, rfl, .reset _ (Works.refl s)⟩
  | linkEstablished p =>
    refine ⟨_, rfl, ?_⟩
    unfold linkEstablished
    split
    · exact .works (Works.bringUp _ s)
    · exact .moves (Moves.refl s)
    · exact .moves (Moves.modPort List.suffix_rfl)
  | linkLost p =>
    refine ⟨_, rfl, ?_⟩
    unfold linkLost
    split
    · exact .moves (Moves.refl s)
    · exact .works (Works.resetPort _ _ (by decide) s)
    · exact .moves (Moves.modPort List.suffix_rfl)
  | holdExpiry p =>
    refine ⟨_, rfl, ?_⟩
    unfold holdExpires
    split
    · split
      · exact .works ((Works.bringUp _ s).trans (.flow (Moves.endCommand _ _ _ _)))
      · exact .moves ((Moves.modPort List.suffix_rfl).trans (Moves.endCommand _ _ _ _))
    · exact .moves (Moves.refl s)
  | requestTaken p kind tag code addr payload =>
    refine ⟨_, rfl, Route.takePacket (fun s1 hc => .works ?_)⟩
    split
    · exact Works.refl s1
    · rename_i d hp
      exact Works.requestArrives (tag_new_of_check hp hc)
  | releaseTime n =>
    refine ⟨_, rfl, .moves ?_⟩
    split
    · exact (Moves.modMeter (f := fun v => { v with release := none }) ⟨rfl, rfl, id⟩).trans (Moves.evalMeter _ _)
    · exact Moves.refl s
  | arbiterGrant p => exact ⟨_, rfl, .moves (Moves.arbiterGrant p s)⟩
  | pieceLeaves p =>
    refine ⟨_, rfl, ?_⟩
    split
    · rename_i h; exact .moves ((Moves.headLeaves h).trans (Moves.pieceLeft _ _ _))
    all_goals exact .moves (Moves.refl s)
  | completionLeaves p =>
    refine ⟨_, rfl, ?_⟩
    split
    · rename_i h _; exact Route.left h (fun v => ⟨id, fun hn => hn.sublist List.filter_sublist, id⟩)
    · exact .moves (Moves.refl s)
  | replyLeaves p =>
    refine ⟨_, rfl, ?_⟩
    split
    · rename_i h _; exact Route.left h (fun v => Moves.initStep_dropCommands v _)
    · exact .moves (Moves.refl s)
  | eventLeaves p =>
    refine ⟨_, rfl, ?_⟩
    split
    · rename_i h _; exact Route.left h (fun v => ⟨fun h => (Nat.sub_le _ _).trans h, id, id⟩)
    · exact .moves (Moves.refl s)
  | noticeLeaves p =>
    refine ⟨_, rfl, ?_⟩
    split
    · rename_i k _ _ h _
      exact Route.left h (fun v => by cases k <;> exact ⟨id, id, id⟩)
    · exact .moves (Moves.refl s)
  | completionTaken p tag status present code payload =>
    exact ⟨_, rfl, Route.takePacket (fun s1 _ => .works (Works.completionArrives _ _ _ _ _ _ s1))⟩
  | completionDeadline p tag =>
    refine ⟨_, rfl, .works ?_⟩
    split
    · exact Works.refl s
    · split
      · exact (Works.flow ((Moves.vacate _ _ s).trans ((Moves.failPiece _ _ _).trans ((Moves.setFlag _ _ _).trans
          (Moves.raiseFault _ _))))).trans (Works.orphanLimit _ _ _)
      · exact Works.refl s
  | scrubStepDeadline u =>
    refine ⟨_, rfl, .works ?_⟩
    split
    · exact Works.refl s
    · split
      · rename_i p t sent e _ _
        have h : Moves false s (if sent then setTag p t .orphaned s else unsend p t s) := by
          split
          · exact Moves.setTag _ _ _ s
          · exact Moves.unsend _ _ s
        exact (Works.flow h).trans ((Works.stepFailed _ _).trans (Works.orphanLimit _ _ _))
      · exact Works.refl s
  | drainEnd u => exact ⟨_, rfl, .works (Works.beginDue u s)⟩
  | drainDeadline u =>
    refine ⟨_, rfl, ?_⟩
    split
    · rename_i t e hc
      split
      · exact Route.cutDrain (cutTimer_draining hc)
      · exact .moves (Moves.refl s)
    · exact .moves (Moves.refl s)
  | settleExpiry u =>
    refine ⟨_, rfl, .works ?_⟩
    split
    · rename_i t e hc
      split
      · exact .one (.grant u t (settleTimer_scrubbing hc))
      · exact Works.refl s
    · exact Works.refl s
  | eventTaken p source code gap declared payload =>
    refine ⟨_, rfl, Route.takePacket (fun s1 _ => .moves ?_)⟩
    unfold routeEvent
    split
    · unfold deliverEvent
      split
      · split
        · rename_i hc
          refine (Moves.placeOut _ _ s1).trans (Moves.modInit ⟨fun _ => ?_, id, id⟩)
          rw [placeOut_inits]
          exact hc
        · exact Moves.modInit ⟨id, id, id⟩
      · exact Moves.refl s1
    · exact Moves.refl s1
  | validationEnd =>
    refine ⟨_, rfl, ?_⟩
    split
    · rename_i c hc
      split
      · exact Route.endValidation (by rw [hc]; exact Option.some_ne_none c)
      · exact .moves (Moves.refl s)
    · exact .moves (Moves.refl s)
  | unknownCommand p code m =>
    refine ⟨_, rfl, ?_⟩
    split
    · exact .moves (Moves.refl s)
    · exact Route.takeCommand_moves (fun d a => Moves.reply _ _ _ _ a)
  | status p m =>
    refine ⟨_, rfl, Route.takeCommand_moves (fun d a => ?_)⟩
    split
    · exact Moves.reply _ _ _ _ a
    · exact Moves.badParameter _ _ a
  | timeRead p m =>
    refine ⟨_, rfl, Route.takeCommand_moves (fun d a => ?_)⟩
    split
    · exact Moves.reply _ _ _ _ a
    · exact Moves.badParameter _ _ a
  | faultFetch p m =>
    refine ⟨_, rfl, Route.takeCommand_moves (fun d a => ?_)⟩
    split
    · exact Moves.fetchFaults _ _ _ a
    · exact Moves.badParameter _ _ a
  | flagsTake p m =>
    refine ⟨_, rfl, Route.takeCommand_moves (fun d a => ?_)⟩
    split
    · split
      · exact (Moves.modFlags _ _ a).trans (Moves.reply _ _ _ _ _)
      · exact Moves.badParameter _ _ a
    · exact Moves.badParameter _ _ a
  | scoreRead p m =>
    refine ⟨_, rfl, Route.takeCommand_moves (fun d a => ?_)⟩
    split
    · split
      · exact (Moves.modScore (fun h => (ScoreRecord.readNow_score _ _).le.trans ((ScoreRecord.decay_score_le _ _).trans h))).trans
          (Moves.reply _ _ _ _ _)
      · exact Moves.badParameter _ _ a
    · exact Moves.badParameter _ _ a
  | tableClone p m =>
    refine ⟨_, rfl, Route.takeCommand (fun d a => ?_)⟩
    split
    · exact .edited (Moves.abortCommit a) (.clone _) (Moves.reply _ _ _ _ _)
    · exact .moves (Moves.badParameter _ _ a)
  | entryWrite p m =>
    refine ⟨_, rfl, Route.takeCommand (fun d a => ?_)⟩
    split
    · split
      · exact .moves (Moves.badParameter _ _ a)
      · split
        · exact .moves (Moves.badParameter _ _ a)
        · rename_i i _ _ e he
          refine .edited (Moves.abortCommit a) (.write _ i m.params e ?_) (Moves.reply _ _ _ _ _)
          rw [abortCommit_pendingBank]; exact he
    · exact .moves (Moves.badParameter _ _ a)
  | entryRead p m =>
    refine ⟨_, rfl, Route.takeCommand_moves (fun d a => ?_)⟩
    split
    · split
      · exact Moves.reply _ _ _ _ a
      · exact Moves.badParameter _ _ a
    · exact Moves.badParameter _ _ a
  | tableCommit p m =>
    refine ⟨_, rfl, Route.takeCommand (fun d a => ?_)⟩
    split
    · split
      · exact .moves (Moves.reply _ _ _ _ a)
      · exact .edited (Moves.carryCommand _ _ _ a) (.startCommit _ m.tag) (Moves.refl _)
    · exact .moves (Moves.badParameter _ _ a)
  | entryPin p m =>
    refine ⟨_, rfl, Route.takeCommand (fun d a => ?_)⟩
    split
    · split
      · exact .moves (Moves.badParameter _ _ a)
      · split
        · exact .moves (Moves.reply _ _ _ _ a)
        · exact .one_edit (.pin a _) (Moves.reply _ _ _ _ _)
    · exact .moves (Moves.badParameter _ _ a)
  | unitDefine p m => exact ⟨_, rfl, Route.takeCommand (fun d a => Route.defineUnit d m a)⟩
  | custodyTake p m =>
    refine ⟨_, rfl, Route.takeCommand (fun d a => .works ?_)⟩
    split
    · split
      · exact Works.takeUnit _ _ _ _ a
      · exact .flow (Moves.badParameter _ _ a)
    · exact .flow (Moves.badParameter _ _ a)
  | custodyReturn p m =>
    refine ⟨_, rfl, Route.takeCommand (fun d a => .works ?_)⟩
    split
    · split
      · exact Works.returnUnit _ _ _ a
      · exact .flow (Moves.badParameter _ _ a)
    · exact .flow (Moves.badParameter _ _ a)
  | unitRead p m =>
    refine ⟨_, rfl, Route.takeCommand_moves (fun d a => ?_)⟩
    split
    · split
      · exact Moves.reply _ _ _ _ a
      · exact Moves.badParameter _ _ a
    · exact Moves.badParameter _ _ a
  | meterSet p m =>
    refine ⟨_, rfl, Route.takeCommand (fun d a => ?_)⟩
    split
    · split
      · exact .moves (Moves.badParameter _ _ a)
      · split
        · exact .moves (Moves.reply _ _ _ _ a)
        · rename_i hn
          refine Route.changeMeter (Nat.min_le_left _ _) (storeDepth_bounds _) (fun h => ?_) (Moves.reply _ _ _ _ _)
          have h0 : fieldAt m.params 1 4 = 0 := by
            have : Config.rateLimit = 65535 := rfl
            omega
          exact Bool.not_eq_true _ ▸ fun hm => hn ⟨h0, hm⟩
    · exact .moves (Moves.badParameter _ _ a)
  | meterRead p m =>
    refine ⟨_, rfl, Route.takeCommand_moves (fun d a => ?_)⟩
    split
    · split
      · exact Moves.reply _ _ _ _ a
      · exact Moves.badParameter _ _ a
    · exact Moves.badParameter _ _ a
  | faultControl p m =>
    refine ⟨_, rfl, Route.takeCommand (fun d a => ?_)⟩
    split
    · split
      · exact .moves (Moves.reply _ _ _ _ a)
      · exact .moves (Moves.badParameter _ _ a)
    · split
      · exact .one_edit (.control a _ _ _) (Moves.reply _ _ _ _ _)
      · exact .moves (Moves.badParameter _ _ a)
    · exact .moves (Moves.badParameter _ _ a)
  | scoreControl p m =>
    refine ⟨_, rfl, Route.takeCommand_moves (fun d a => ?_)⟩
    split
    · split
      · exact (Moves.modScore (fun h => (ScoreRecord.decay_score_le _ _).trans h)).trans (Moves.reply _ _ _ _ _)
      · exact Moves.badParameter _ _ a
    · exact Moves.badParameter _ _ a
  | pardon p m =>
    refine ⟨_, rfl, Route.takeCommand_moves (fun d a => ?_)⟩
    split
    · split
      · exact (Moves.modScore (f := fun r => { r with score := 0, armed := true, lastDecay := a.gateTime })
          (fun _ => Nat.zero_le _)).trans ((Moves.one (.domain _ _ _ (.inr (.inl rfl)))).trans (Moves.reply _ _ _ _ _))
      · exact Moves.badParameter _ _ a
    · exact Moves.badParameter _ _ a
  | quarantine p m =>
    refine ⟨_, rfl, Route.takeCommand_moves (fun d a => ?_)⟩
    split
    · split
      · rename_i x _
        exact (Moves.one (.domain a _ _ (.inr (.inr (by cases x <;> decide))))).trans (Moves.reply _ _ _ _ _)
      · exact Moves.badParameter _ _ a
    · exact Moves.badParameter _ _ a
  | domainSet p m =>
    refine ⟨_, rfl, Route.takeCommand_moves (fun d a => ?_)⟩
    split
    · split
      · rename_i x style _ _
        exact (Moves.one (.domain a x { a.domains.get x with style := style, fill := _ } (.inl rfl))).trans (Moves.reply _ _ _ _ _)
      · exact Moves.badParameter _ _ a
    · exact Moves.badParameter _ _ a
  | portSet p m =>
    refine ⟨_, rfl, Route.takeCommand_moves (fun d a => ?_)⟩
    split
    · split
      · exact Moves.badParameter _ _ a
      · split
        · exact Moves.badParameter _ _ a
        · exact (Moves.storePort _ _ _ a).trans (Moves.reply _ _ _ _ _)
    · exact Moves.badParameter _ _ a
  | portReset p m =>
    refine ⟨_, rfl, Route.takeCommand (fun d a => ?_)⟩
    split
    · split
      · exact .moves (Moves.badParameter _ _ a)
      · split
        · exact .moves (Moves.badParameter _ _ a)
        · split
          · exact .moves (Moves.reply _ _ _ _ a)
          · exact .works ((Works.flow (Moves.carryCommand _ _ _ a)).trans (Works.resetPort _ _ (by decide) _))
    · exact .moves (Moves.badParameter _ _ a)
  | gateReset p m =>
    refine ⟨_, rfl, Route.takeCommand (fun d a => ?_)⟩
    split
    · exact .reset _ (Works.refl a)
    · exact .moves (Moves.badParameter _ _ a)
  | malformedPacketTaken p pkt =>
    refine ⟨_, rfl, ?_⟩
    split
    · exact Route.takePacket (fun s1 _ => .moves (Moves.refl s1))
    · exact .moves (Moves.refl s)
  | gateTimeLargestValue =>
    refine ⟨_, rfl, ?_⟩
    split
    · rename_i h
      exact .one_edit (.time s _ id (Nat.le_refl _) (fun c hc _ => quietUntil_validation h hc)) (Moves.refl _)
    · exact .moves (Moves.refl s)

/-! ### Every step -/

/-- With nothing due, a running validation has not come to its end. -/
theorem validation_of_not_due {s : State} (h : dueEvents s = []) {c : Commit} (hc : s.commit = some c) :
    s.gateTime < c.started + 400 := by
  by_contra hle
  have hm : Instr.validationEnd ∈ dueEvents s := by
    exact List.mem_append_left _ (List.mem_append_right _ (List.mem_map.mpr
      ⟨_, List.mem_filter.mpr ⟨validation_running hc, decide_eq_true (Nat.not_lt.mp hle)⟩, rfl⟩))
  rw [h] at hm
  cases hm

theorem tick_route {s : State} (h : dueEvents s = []) : Route s (tick s) := by
  refine .one_edit (.time s (min Config.lastTime (s.gateTime + 1)) (fun hle => ?_) (Nat.min_le_left _ _) (fun c hc _ => ?_))
    (Moves.refl _)
  · have : Config.lastTime = 2 ^ 48 - 1 := rfl
    omega
  · have := validation_of_not_due h hc
    omega

/-- What a command does is a path. -/
theorem exec_path (c : Instr) (s : State) : ∃ t, exec c s = .next t ∧ Path s t := by
  obtain ⟨t, ht, h⟩ := exec_route c s
  exact ⟨t, ht, h.path⟩

/-- All that a step can do: a packet arrives, or works follow, with the queue of commands as the step leaves it. -/
inductive StepRoute (s : State) : State → Prop
  | arrives (p : Port) : StepRoute s (arrive p s)
  | runs (l : List Instr) {t : State} : Route { s with pending := l } t → StepRoute s t

theorem step_route {s t : State} (h : step s = .next t) : StepRoute s t := by
  unfold step at h
  split at h
  · unfold idle at h
    split at h
    · rw [← Host.Outcome.next.inj h]
      exact .arrives _
    · rename_i c _ _ _
      obtain ⟨u, hu, hp⟩ := exec_route c s
      rw [hu] at h
      rw [← Host.Outcome.next.inj h]
      exact .runs s.pending hp
    · rename_i hdue
      rw [← Host.Outcome.next.inj h]
      exact .runs s.pending (tick_route hdue)
  · rename_i c rest _
    obtain ⟨u, hu, hp⟩ := exec_route c { s with pending := rest }
    rw [hu] at h
    rw [← Host.Outcome.next.inj h]
    exact .runs rest hp

/-- All that a step can do: a packet arrives, or a path follows. -/
inductive StepPath (s : State) : State → Prop
  | arrives (p : Port) : StepPath s (arrive p s)
  | runs (l : List Instr) {t : State} : Path { s with pending := l } t → StepPath s t

theorem step_path {s t : State} (h : step s = .next t) : StepPath s t := by
  cases step_route h with
  | arrives p => exact .arrives p
  | runs l route => exact .runs l route.path

end Sys2Proof.Machine
end

section
/-! PROOFS. What moves leave as it is, what a reset of the part leaves, and the laws of time, banks, definitions and faults. -/

namespace Sys2Proof.Machine

open Sys2Proof

/-! ### What moves leave -/

/-- Counting pieces out of a unit changes the counts of units alone. -/
theorem countOut_eq (u : Option (Fin 8)) (n : Nat) (s : State) :
    ∃ v : Vector CustodyUnit 8, countOut u n s = { s with units := v } ∧
      ∀ w, ∃ k, v.get w = { s.units.get w with inFlight := k } := by
  cases u with
  | none => exact ⟨s.units, rfl, fun w => ⟨_, rfl⟩⟩
  | some u =>
    refine ⟨_, rfl, fun w => ?_⟩
    by_cases h : w = u
    · subst h; exact ⟨_, setAt_get_same _ _ _⟩
    · exact ⟨_, by rw [setAt_get_other _ _ h]⟩

/-- Counting pieces into a unit changes the counts of units alone. -/
theorem countIn_eq (u : Option (Fin 8)) (n : Nat) (s : State) :
    ∃ v : Vector CustodyUnit 8, countIn u n s = { s with units := v } ∧
      ∀ w, ∃ k, v.get w = { s.units.get w with inFlight := k } := by
  cases u with
  | none => exact ⟨s.units, rfl, fun w => ⟨_, rfl⟩⟩
  | some u =>
    refine ⟨_, rfl, fun w => ?_⟩
    by_cases h : w = u
    · subst h; exact ⟨_, setAt_get_same _ _ _⟩
    · exact ⟨_, by rw [setAt_get_other _ _ h]⟩

/-- The end of a piece changes records and the counts of units alone. -/
theorem endPiece_eq (ref : PieceRef) (st : PieceState) (s : State) :
    ∃ (l : List Request) (v : Vector CustodyUnit 8), endPiece ref st s = { s with requests := l, units := v } ∧
      ∀ w, ∃ k, v.get w = { s.units.get w with inFlight := k } := by
  unfold endPiece
  split
  · exact ⟨s.requests, s.units, rfl, fun w => ⟨_, rfl⟩⟩
  · split
    · obtain ⟨v, hv, hk⟩ := countOut_eq _ 1 (s.modRequest ref.req _)
      exact ⟨_, v, hv, hk⟩
    · exact ⟨s.requests, s.units, rfl, fun w => ⟨_, rfl⟩⟩

/-- What moves leave: time, banks and controls; a validation goes on or is aborted; definitions, rates and depths stay. -/
structure Steady (s t : State) : Prop where
  fields     : (t.gateTime, t.active, t.pendingBank, t.generation, t.controls, t.masks) =
    (s.gateTime, s.active, s.pendingBank, s.generation, s.controls, s.masks)
  commit     : t.commit = s.commit ∨ t.commit = none
  definition : ∀ u, (t.units.get u).definition = (s.units.get u).definition
  meter      : ∀ n, MeterStep (s.meters.get n) (t.meters.get n)

namespace Steady

theorem refl (s : State) : Steady s s := ⟨rfl, .inl rfl, fun _ => rfl, fun _ => ⟨rfl, rfl, id⟩⟩

theorem trans {s t u : State} (h : Steady s t) (g : Steady t u) : Steady s u where
  fields := g.fields.trans h.fields
  commit := by
    rcases g.commit with e | e
    · rw [e]; exact h.commit
    · exact .inr e
  definition v := (g.definition v).trans (h.definition v)
  meter n := ⟨(g.meter n).rate.trans (h.meter n).rate, (g.meter n).depth.trans (h.meter n).depth,
    fun hc => (g.meter n).credit ((h.meter n).credit hc)⟩

theorem gateTime {s t : State} (h : Steady s t) : t.gateTime = s.gateTime := congrArg (fun x => x.1) h.fields

theorem active {s t : State} (h : Steady s t) : t.active = s.active := congrArg (fun x => x.2.1) h.fields

theorem pendingBank {s t : State} (h : Steady s t) : t.pendingBank = s.pendingBank := congrArg (fun x => x.2.2.1) h.fields

theorem generation {s t : State} (h : Steady s t) : t.generation = s.generation := congrArg (fun x => x.2.2.2.1) h.fields

theorem controls {s t : State} (h : Steady s t) : t.controls = s.controls := congrArg (fun x => x.2.2.2.2.1) h.fields

theorem masks {s t : State} (h : Steady s t) : t.masks = s.masks := congrArg (fun x => x.2.2.2.2.2) h.fields

/-- A change outside of what is steady. -/
theorem of_units {s t : State} (hf : (t.gateTime, t.active, t.pendingBank, t.generation, t.controls, t.masks) =
    (s.gateTime, s.active, s.pendingBank, s.generation, s.controls, s.masks)) (hc : t.commit = s.commit)
    (hd : ∀ u, (t.units.get u).definition = (s.units.get u).definition) (hm : t.meters = s.meters) : Steady s t :=
  ⟨hf, .inl hc, hd, fun n => by rw [hm]; exact ⟨rfl, rfl, id⟩⟩

/-- A change of counts alone keeps every definition. -/
theorem definition_of_counts {v w : Vector CustodyUnit 8} (h : ∀ u, ∃ k, v.get u = { w.get u with inFlight := k }) (u : Fin 8) :
    (v.get u).definition = (w.get u).definition := by
  obtain ⟨k, hk⟩ := h u
  rw [hk]; rfl

theorem of_move {s t : State} (h : Move true s t) : Steady s t := by
  cases h with
  | unit u v _ hv =>
    refine of_units rfl rfl (fun w => ?_) rfl
    by_cases hw : w = u
    · subst hw; rw [setAt_get_same]; exact hv.definition
    · rw [setAt_get_other _ _ hw]
  | meter n v hv =>
    refine ⟨rfl, .inl rfl, fun _ => rfl, fun m => ?_⟩
    by_cases hm : m = n
    · subst hm; rw [setAt_get_same]; exact hv
    · rw [setAt_get_other _ _ hm]; exact ⟨rfl, rfl, id⟩
  | commit => exact ⟨rfl, .inr rfl, fun _ => rfl, fun _ => ⟨rfl, rfl, id⟩⟩
  | endPiece ref st _ =>
    obtain ⟨l, v, hv, hk⟩ := endPiece_eq ref st s
    rw [hv]
    exact of_units rfl rfl (definition_of_counts hk) rfl
  | enter r _ _ =>
    obtain ⟨v, hv, hk⟩ := countIn_eq r.unit r.pieces.length (s.setRequests (s.requests ++ [r]))
    rw [hv]
    exact of_units rfl rfl (definition_of_counts hk) rfl
  | port | init | supQ | ownQ | flags | score | domain | setPiece | record | release =>
    exact of_units rfl rfl (fun _ => rfl) rfl

end Steady

theorem Moves.steady {s t : State} (h : Moves true s t) : Steady s t :=
  h.related Steady.refl (fun _ _ _ => Steady.trans) (fun _ _ => Steady.of_move)

/-! ### A law kept along a path -/

/-- A law that moves, edits, arrivals and a reset of the part keep, and that does not read the queue of commands, is kept by every
step. -/
theorem step_keeps {P : State → Prop} (hq : ∀ s l, P s → P { s with pending := l }) (ha : ∀ p s, P s → P (arrive p s))
    (hm : ∀ s t, Moves true s t → P s → P t) (he : ∀ s t, Edit s t → P s → P t) (hr : ∀ cause s, P (resetPart cause s))
    {s t : State} (h : step s = .next t) (hs : P s) : P t := by
  cases step_path h with
  | arrives p => exact ha p s hs
  | runs l path =>
    cases path with
    | moves m => exact hm _ _ m (hq s l hs)
    | edit m e n => exact hm _ _ n (he _ _ e (hm _ _ m (hq s l hs)))
    | reset cause _ => exact hr cause _

/-- An arrival leaves everything but a port's ingress buffer and its sender's packets. -/
theorem arrive_steady (p : Port) (s : State) : Steady s (arrive p s) := by
  rcases arrive_cases p s with h | ⟨pkt, rest, -, -, h⟩
  · rw [h]; exact Steady.refl s
  · rw [h]; exact Steady.of_units rfl rfl (fun _ => rfl) rfl

@[simp] theorem replicate_get {α : Type} {n : Nat} (x : α) (i : Fin n) : (Vector.replicate n x).get i = x := by
  simp [Vector.get]

@[simp] theorem resetPart_unit (cause : ResetCause) (s : State) (u : Fin 8) :
    (resetPart cause s).units.get u = CustodyUnit.reset := replicate_get _ _

@[simp] theorem resetPart_active (cause : ResetCause) (s : State) (i : Fin 96) :
    (resetPart cause s).active.get i = Entry.reset := replicate_get _ _

@[simp] theorem resetPart_pendingBank (cause : ResetCause) (s : State) (i : Fin 96) :
    (resetPart cause s).pendingBank.get i = Entry.reset := replicate_get _ _

@[simp] theorem resetPart_meter (cause : ResetCause) (s : State) (n : Fin 16) :
    (resetPart cause s).meters.get n = Meter.reset := replicate_get _ _

/-! ### The cut -/

theorem cutPieces_steady (u : Fin 8) (s : State) : Steady s (cutPieces u s) := by
  have hm : Moves true s ((requestsInFlight s u).foldl cutRequest s) := Moves.foldl (fun t r => Moves.cutRequest t r) _ s
  refine hm.steady.trans (Steady.of_units rfl rfl (fun w => ?_) rfl)
  by_cases h : w = u
  · subst h; rw [cutPieces, State.modUnit_units, setAt_get_same]; rfl
  · rw [cutPieces, State.modUnit_units, setAt_get_other _ _ h]

/-! ### Gate time (R15, R152) -/

theorem State.TimeLaw.of_steady {s t : State} (h : Steady s t) (hs : s.TimeLaw) : t.TimeLaw := by
  obtain ⟨ht, hc⟩ := hs
  refine ⟨h.gateTime ▸ ht, fun c hcommit => ?_⟩
  rw [h.gateTime]
  rcases h.commit with e | e
  · exact hc c (e ▸ hcommit)
  · rw [e] at hcommit; cases hcommit

/-- Gate time and the commit are all that the law reads. -/
theorem State.TimeLaw.of_eq {s t : State} (ht : t.gateTime = s.gateTime) (hc : t.commit = s.commit) (hs : s.TimeLaw) : t.TimeLaw := by
  unfold State.TimeLaw; rw [ht, hc]; exact hs

theorem State.TimeLaw.of_edit {s t : State} (e : Edit s t) (hs : s.TimeLaw) : t.TimeLaw := by
  cases e with
  | time t hle hlast hc =>
    obtain ⟨ht, hcommit⟩ := hs
    refine ⟨hlast, fun c h => ?_⟩
    obtain ⟨hstart, hend⟩ := hcommit c h
    exact ⟨hstart.trans (hle ht), hc c h hend⟩
  | startCommit tag => exact ⟨hs.1, fun c h => by rw [← Option.some.inj h]; exact ⟨Nat.le_refl _, Nat.le_add_right _ _⟩⟩
  | swap hv hc => exact ⟨hs.1, fun c h => by cases h⟩
  | cut u => exact .of_steady (cutPieces_steady u s) hs
  | pin | clone | write | define | meter | control => exact .of_eq rfl rfl hs

theorem State.TimeLaw.resetPart (cause : ResetCause) (s : State) : (resetPart cause s).TimeLaw :=
  ⟨Nat.zero_le _, fun c h => by cases h⟩

/-- Settles O5: moves leave gate time and start no validation; the clock passes 400 µs over no running one. -/
theorem everyStepKeepsTimeLaw : Obligations.EveryStepKeepsTimeLaw := fun _ _ hs h =>
  step_keeps (fun _ _ h => h) (fun p s => .of_steady (arrive_steady p s))
    (fun _ _ m => .of_steady m.steady) (fun _ _ => .of_edit) State.TimeLaw.resetPart h hs

/-! ### The entries of the banks (R22, R23) -/

/-- An aligned address is the address rounded down to a multiple of 16 (R22). -/
theorem alignAddr_toNat (x : Addr) : (alignAddr x).toNat = x.toNat / 16 * 16 := by
  unfold alignAddr
  have h : x &&& 0xFFFFFFF0#32 = (x >>> 4) <<< 4 := by
    apply BitVec.eq_of_getLsbD_eq
    intro i hi
    simp only [BitVec.getLsbD_and, BitVec.getLsbD_shiftLeft, BitVec.getLsbD_ushiftRight]
    have h4 : (0xFFFFFFF0#32).getLsbD i = decide (4 ≤ i) := by
      have : ∀ j : Fin 32, (0xFFFFFFF0#32).getLsbD j.1 = decide (4 ≤ j.1) := by decide
      exact this ⟨i, hi⟩
    rw [h4]
    by_cases hle : 4 ≤ i
    · simp [hle, hi, show ¬ i < 4 by omega, show 4 + (i - 4) = i by omega]
    · simp [hle, show i < 4 by omega]
  rw [show (0xFFFFFFF0 : Addr) = 0xFFFFFFF0#32 from rfl, h, BitVec.toNat_shiftLeft, BitVec.toNat_ushiftRight, Nat.shiftRight_eq_div_pow,
    Nat.shiftLeft_eq]
  have := x.isLt
  omega

theorem alignAddr_mod (x : Addr) : (alignAddr x).toNat % 16 = 0 := by rw [alignAddr_toNat]; omega

theorem sizeBytes_eq (n : Size) : sizeBytes n = if n.toNat = 0 then 2 ^ 32 else 16 * n.toNat := by
  unfold sizeBytes
  have : n = 0 ↔ n.toNat = 0 := ⟨fun h => by rw [h]; rfl, fun h => BitVec.eq_of_toNat_eq (by simpa using h)⟩
  simp only [this]

/-- Where a size would pass 2^32 from an aligned base, the stored one ends there; any other is stored as it is (R22). -/
theorem limitSize_cases {base : Addr} (hb : base.toNat % 16 = 0) (size : Size) :
    (base.toNat + sizeBytes size ≤ 2 ^ 32 ∧ limitSize base size = size) ∨
    (2 ^ 32 < base.toNat + sizeBytes size ∧ base.toNat + sizeBytes (limitSize base size) = 2 ^ 32) := by
  unfold limitSize
  split
  · rename_i h
    refine .inr ⟨h, ?_⟩
    have hlt := base.isLt
    rw [sizeBytes_eq, BitVec.toNat_ofNat]
    split <;> omega
  · rename_i h
    exact .inl ⟨Nat.not_lt.mp h, rfl⟩

theorem limitSize_end {base : Addr} (hb : base.toNat % 16 = 0) (size : Size) :
    base.toNat + sizeBytes (limitSize base size) ≤ 2 ^ 32 := by
  rcases limitSize_cases hb size with ⟨h, e⟩ | ⟨-, e⟩
  · rw [e]; exact h
  · exact e.le

/-- What an image stores, field by field (R170). -/
theorem entryOfImage_some {image : List Byte} {pinned : Bool} {e : Entry} (h : entryOfImage image pinned = some e) :
    e.pinned = pinned ∧ e.base = alignAddr (BitVec.ofNat 32 (fieldAt image 7 4)) ∧
    e.offset = alignAddr (BitVec.ofNat 32 (fieldAt image 15 4)) ∧
    e.size = limitSize e.base (BitVec.ofNat 28 (fieldAt image 11 4)) := by
  unfold entryOfImage at h
  dsimp only at h
  split at h
  · rw [← Option.some.inj h]; exact ⟨rfl, rfl, rfl, rfl⟩
  · cases h

theorem entryOfImage_stored {image : List Byte} {pinned : Bool} {e : Entry} (h : entryOfImage image pinned = some e) : e.Stored := by
  obtain ⟨-, hb, ho, hs⟩ := entryOfImage_some h
  have hb16 : e.base.toNat % 16 = 0 := hb ▸ alignAddr_mod _
  exact ⟨hb16, ho ▸ alignAddr_mod _, hs ▸ limitSize_end hb16 _⟩

/-- A pin changes of an ACTIVE entry the pinned flag alone (R150). -/
theorem pinEntry_get (i j : Fin 96) (s : State) :
    (pinEntry i s).active.get j = { s.active.get j with pinned := (s.active.get j).pinned || decide (j = i) } := by
  simp only [pinEntry, State.setActive_active, setAt_get]
  split
  · rename_i h; subst h; simp
  · rename_i h; simp [h]

theorem State.EntryLaw.of_banks {s t : State} (ha : t.active = s.active) (hp : t.pendingBank = s.pendingBank) (hs : s.EntryLaw) :
    t.EntryLaw := by
  unfold State.EntryLaw; rw [ha, hp]; exact hs

theorem State.EntryLaw.of_edit {s t : State} (e : Edit s t) (hs : s.EntryLaw) : t.EntryLaw := by
  cases e with
  | pin i => exact fun j => ⟨by rw [pinEntry_get]; exact (hs j).1, (hs j).2⟩
  | clone => exact fun j => ⟨(hs j).1, (hs j).1⟩
  | write i image e he =>
    refine fun j => ⟨(hs j).1, ?_⟩
    rw [State.setPendingBank_pendingBank, setAt_get]
    split
    · exact entryOfImage_stored he
    · exact (hs j).2
  | swap => exact fun j => ⟨(hs j).2, (hs j).1⟩
  | cut u => exact .of_banks (cutPieces_steady u s).active (cutPieces_steady u s).pendingBank hs
  | time | startCommit | define | meter | control => exact .of_banks rfl rfl hs

theorem State.EntryLaw.resetPart (cause : ResetCause) (s : State) : (resetPart cause s).EntryLaw := by
  intro i
  rw [resetPart_active, resetPart_pendingBank]
  have h : Entry.reset.Stored := ⟨by decide, by decide, by decide⟩
  exact ⟨h, h⟩

/-! ### Pins (R150, R154) -/

theorem State.PinLaw.of_banks {s t : State} (ha : t.active = s.active) (hp : t.pendingBank = s.pendingBank) (hs : s.PinLaw) : t.PinLaw := by
  unfold State.PinLaw; rw [ha, hp]; exact hs

/-- A validation that finds no offender passes every entry, each with the meters counted up to it (R153). -/
theorem validateFrom_none {s : State} {l : List (Entry × Entry)} {i : Nat} {counted : List (Port × Fin 16)}
    (h : validateFrom s l i counted = none) : ∀ x ∈ l, ∃ k, entryFails s k x.1 x.2 = none := by
  induction l generalizing i counted with
  | nil => intro x hx; cases hx
  | cons y ys ih =>
    obtain ⟨e, act⟩ := y
    unfold validateFrom at h
    split at h
    · cases h
    · rename_i hf
      intro x hx
      rcases List.mem_cons.mp hx with rfl | hx
      · exact ⟨_, hf⟩
      · exact ih h x hx

/-- What a passed validation says of each PENDING entry (R153, R154). -/
theorem validate_none {s : State} (h : validate s = none) (i : Fin 96) :
    ∃ k, entryFails s k (s.pendingBank.get i) (s.active.get i) = none := by
  refine validateFrom_none h (s.pendingBank.get i, s.active.get i) (List.mem_of_getElem? (i := i.1) ?_)
  rw [List.getElem?_zip_eq_some]
  exact ⟨bank_getElem? _ _, bank_getElem? _ _⟩

/-- An entry that passes every check of the validation (R153). -/
theorem entryFails_none {s : State} {k : List (Port × Fin 16)} {e act : Entry} (h : entryFails s k e act = none) :
    (e.valid = true → e.selfTarget = false ∧ pastSpan s e = false ∧ namesStoppedMeter s e = false ∧
      namesUndefinedUnit s e = false ∧ reachesOtherUnit s e = false ∧ boundInQuarantine e = false) ∧
    (act.pinned = true → e = act) := by
  unfold entryFails at h
  split at h
  · cases h
  split at h
  · cases h
  split at h
  · cases h
  split at h
  · cases h
  split at h
  · cases h
  split at h
  · cases h
  split at h
  · cases h
  simp_all

/-- A passed validation leaves a pinned entry as it is (R154). -/
theorem pinned_of_validate {s : State} (h : validate s = none) {i : Fin 96} (hp : (s.active.get i).pinned = true) :
    s.pendingBank.get i = s.active.get i := by
  obtain ⟨k, hk⟩ := validate_none h i
  exact (entryFails_none hk).2 hp

theorem State.PinLaw.of_edit {s t : State} (e : Edit s t) (hs : s.PinLaw) : t.PinLaw := by
  cases e with
  | pin i =>
    intro j hj
    rw [pinEntry_get]
    exact Bool.or_eq_true_iff.mpr (.inl (hs j hj))
  | clone => exact fun j hj => hj
  | write i image e he =>
    intro j hj
    rw [State.setPendingBank_pendingBank, setAt_get] at hj
    split at hj
    · rename_i h
      subst h
      rw [(entryOfImage_some he).1] at hj
      exact hs j hj
    · exact hs j hj
  | swap hv => exact fun j hj => (pinned_of_validate hv hj).symm ▸ hj
  | cut u => exact .of_banks (cutPieces_steady u s).active (cutPieces_steady u s).pendingBank hs
  | time | startCommit | define | meter | control => exact .of_banks rfl rfl hs

theorem State.PinLaw.resetPart (cause : ResetCause) (s : State) : (resetPart cause s).PinLaw := fun _ h => h

/-- Settles O8: moves leave the banks, an entry is stored aligned and limited, and a swap finds pinned entries unchanged. -/
theorem everyStepKeepsBankLaws : Obligations.EveryStepKeepsBankLaws := fun _ _ h =>
  ⟨step_keeps (fun _ _ h => h) (fun p s => .of_banks (arrive_steady p s).active (arrive_steady p s).pendingBank)
    (fun _ _ m => .of_banks m.steady.active m.steady.pendingBank) (fun _ _ => .of_edit) State.EntryLaw.resetPart h,
   step_keeps (fun _ _ h => h) (fun p s => .of_banks (arrive_steady p s).active (arrive_steady p s).pendingBank)
    (fun _ _ m => .of_banks m.steady.active m.steady.pendingBank) (fun _ _ => .of_edit) State.PinLaw.resetPart h⟩

/-! ### The ACTIVE bank and the generation (R20, R150, R154, R156) -/

/-- What an edit can do to the ACTIVE bank and the generation: nothing but pins, or the exchange of the banks. -/
theorem Edit.active {s t : State} (e : Edit s t) :
    (t.generation = s.generation ∧ ∀ i, ∃ b, t.active.get i = { s.active.get i with pinned := (s.active.get i).pinned || b }) ∨
    (validate s = none ∧ s.commit ≠ none ∧ t = swapBanks s) := by
  have same {t : State} (hg : t.generation = s.generation) (ha : t.active = s.active) :
      t.generation = s.generation ∧ ∀ i, ∃ b, t.active.get i = { s.active.get i with pinned := (s.active.get i).pinned || b } :=
    ⟨hg, fun i => ⟨false, by rw [ha, Bool.or_false]⟩⟩
  cases e with
  | pin i => exact .inl ⟨rfl, fun j => ⟨_, pinEntry_get i j s⟩⟩
  | swap hv hc => exact .inr ⟨hv, hc, rfl⟩
  | cut u => exact .inl (same (cutPieces_steady u s).generation (cutPieces_steady u s).active)
  | time | clone | write | startCommit | define | meter | control => exact .inl (same rfl rfl)

/-- Settles O9: a pin changes nothing of a pinned entry, and a swap finds it in the PENDING bank as it is. -/
theorem pinnedEntriesKeepTheirContents : Obligations.PinnedEntriesKeepTheirContents := by
  intro s t i hp h
  cases step_path h with
  | arrives p => exact .inl (by rw [(arrive_steady p s).active])
  | runs l path =>
    cases path with
    | moves m => exact .inl (by rw [m.steady.active])
    | @edit a b _ m e n =>
      rw [show s.active = a.active from m.steady.active.symm] at hp ⊢
      rw [n.steady.active]
      rcases e.active with ⟨-, hpin⟩ | ⟨hv, -, rfl⟩
      · obtain ⟨k, hk⟩ := hpin i
        rw [hk, hp, Bool.true_or]
        exact .inl (by rw [← hp])
      · exact .inl (pinned_of_validate hv hp)
    | @reset a cause m => exact .inr ⟨cause, rfl⟩

/-- Settles O16: an edit pins entries or exchanges the banks of a running validation, and moves leave both. -/
theorem generationChangesOnlyAtCommit : Obligations.GenerationChangesOnlyAtCommit := by
  intro s t h
  cases step_path h with
  | arrives p => exact .inl ⟨(arrive_steady p s).generation, fun i => by rw [(arrive_steady p s).active]⟩
  | runs l path =>
    cases path with
    | moves m => exact .inl ⟨m.steady.generation, fun i => by rw [m.steady.active]⟩
    | @edit a b _ m e n =>
      rcases e.active with ⟨hg, hpin⟩ | ⟨-, hc, rfl⟩
      · refine .inl ⟨by rw [n.steady.generation, hg, m.steady.generation], fun i => ?_⟩
        obtain ⟨k, hk⟩ := hpin i
        rw [n.steady.active, hk, m.steady.active]
      · refine .inr (.inl ⟨?_, ?_, ?_, ?_, ?_⟩)
        · rw [n.steady.generation, show s.generation = a.generation from m.steady.generation.symm]; rfl
        · rcases m.steady.commit with e | e
          · rwa [show s.commit = a.commit from e.symm]
          · exact absurd e hc
        · rcases n.steady.commit with e | e <;> exact e
        · rw [n.steady.active, show s.pendingBank = a.pendingBank from m.steady.pendingBank.symm]; rfl
        · rw [n.steady.pendingBank, show s.active = a.active from m.steady.active.symm]; rfl
    | @reset a cause m => exact .inr (.inr ⟨⟨cause, rfl⟩, rfl⟩)

/-! ### The custody-gap law (R39, R44, R156) -/

/-- The law reads the ACTIVE bank but for pins, and the definitions. -/
theorem State.GapLaw.of_definitions {s t : State}
    (ha : ∀ i, ∃ b, t.active.get i = { s.active.get i with pinned := b })
    (hd : ∀ u, (t.units.get u).definition = (s.units.get u).definition) (hs : s.GapLaw) : t.GapLaw := by
  intro i u
  obtain ⟨b, hb⟩ := ha i
  have hp := congrArg UnitDefinition.port (hd u)
  have hst := congrArg UnitDefinition.start (hd u)
  have hsz := congrArg UnitDefinition.size (hd u)
  simp only [CustodyUnit.definition] at hp hst hsz
  rw [hb, hp, hst, hsz]
  exact hs i u

theorem State.GapLaw.of_steady {s t : State} (h : Steady s t) : s.GapLaw → t.GapLaw :=
  .of_definitions (fun _ => ⟨_, by rw [h.active]⟩) h.definition

theorem mem_allUnits : ∀ u : Fin 8, u ∈ allUnits := by decide

/-- A passed validation finds no entry that reaches into a unit it is not bound to (R153, check 5). -/
theorem State.GapLaw.swap {s : State} (hv : validate s = none) : (swapBanks s).GapLaw := by
  intro i u hvalid hport hx hy
  obtain ⟨k, hk⟩ := validate_none hv i
  obtain ⟨-, -, -, -, hreach, -⟩ := (entryFails_none hk).1 hvalid
  by_contra hne
  have hm : u ∈ allUnits := mem_allUnits u
  have := List.any_eq_false.mp hreach u hm
  have hgap : (s.unit u).overlaps (s.pendingBank.get i).target (s.pendingBank.get i).offset.toNat
      (sizeBytes (s.pendingBank.get i).size) = true := by
    simp only [CustodyUnit.overlaps, overlap, Bool.and_eq_true, decide_eq_true_eq]
    exact ⟨hport, hx, hy⟩
  rw [hgap] at this
  simp only [Bool.true_and, decide_eq_true_eq] at this
  exact this hne

/-- A definition that the custody-gap check passes lets no ACTIVE entry reach into its range (R39, R43). -/
theorem State.GapLaw.define {s : State} {u : Fin 8} {d : UnitDefinition}
    (hd : ∀ p, d.port = some p → custodyGap s u p d.start.toNat (sizeBytes d.size) = none) (hs : s.GapLaw) :
    (s.modUnit u (fun v => v.define d)).GapLaw := by
  intro i w hvalid
  rw [State.modUnit_units, setAt_get]
  split
  · rename_i h
    subst h
    intro hport hx hy
    have hnone := hd _ hport
    simp only [custodyGap, Option.map_eq_none_iff] at hnone
    have := findEntry_eq_none.mp hnone _ (List.mem_of_getElem? (bank_getElem? s.active i))
    by_contra hne
    have hvalid : (s.active.get i).valid = true := hvalid
    simp only [hvalid, overlap, Bool.true_and, Bool.and_eq_false_iff, decide_eq_false_iff_not] at this
    rcases this with (hno | hno | hno) | hno
    · exact hno rfl
    · exact hno hy
    · exact hno hx
    · exact hno hne
  · exact hs i w hvalid

theorem State.GapLaw.of_edit {s t : State} (e : Edit s t) (hs : s.GapLaw) : t.GapLaw := by
  cases e with
  | pin i => exact .of_definitions (fun j => ⟨_, pinEntry_get i j s⟩) (fun _ => rfl) hs
  | swap hv => exact .swap hv
  | define u image d _ _ hp => exact .define (fun p h => (hp p h).2) hs
  | cut u => exact .of_steady (cutPieces_steady u s) hs
  | time | clone | write | startCommit | meter | control => exact .of_definitions (fun _ => ⟨_, rfl⟩) (fun _ => rfl) hs

theorem State.GapLaw.resetPart (cause : ResetCause) (s : State) : (resetPart cause s).GapLaw := by
  intro i u _ hp
  rw [resetPart_unit] at hp
  cases hp

/-- Settles O10: both ways to bring an entry and a range together, the swap and a definition, check the gap. -/
theorem everyStepKeepsCustodyGapLaw : Obligations.EveryStepKeepsCustodyGapLaw := fun _ _ hs h =>
  step_keeps (fun _ _ h => h) (fun p s => .of_steady (arrive_steady p s))
    (fun _ _ m => .of_steady m.steady) (fun _ _ => .of_edit) State.GapLaw.resetPart h hs

/-! ### What a validation guarantees of the valid ACTIVE entries (R23, R87, R141, R153) -/

/-- The law reads the ACTIVE bank but for pins, and the rates. -/
theorem State.ActiveLaw.of_rates {s t : State} (ha : ∀ i, ∃ b, t.active.get i = { s.active.get i with pinned := b })
    (hm : ∀ n, (t.meters.get n).rate = (s.meters.get n).rate) (hs : s.ActiveLaw) : t.ActiveLaw := by
  intro i
  obtain ⟨b, hb⟩ := ha i
  rw [hb]
  intro hvalid
  obtain ⟨hself, hend, hrate, hbound⟩ := hs i hvalid
  exact ⟨hself, hend, fun n hn => by rw [hm]; exact hrate n hn, hbound⟩

theorem State.ActiveLaw.of_steady {s t : State} (h : Steady s t) : s.ActiveLaw → t.ActiveLaw :=
  .of_rates (fun _ => ⟨_, by rw [h.active]⟩) (fun n => (h.meter n).rate)

/-- A span is at most the whole of an address space (R18). -/
theorem spanBytes_le (c : PortConfig) : spanBytes c ≤ 2 ^ 32 := by
  unfold spanBytes
  have := c.span.isLt
  split <;> omega

/-- What the checks of the validation guarantee of a valid entry (R153, checks 1, 2, 3 and 6). -/
theorem State.ActiveLaw.swap {s : State} (hv : validate s = none) : (swapBanks s).ActiveLaw := by
  intro i hvalid
  obtain ⟨k, hk⟩ := validate_none hv i
  obtain ⟨hself, hspan, hmeter, -, -, hbound⟩ := (entryFails_none hk).1 hvalid
  refine ⟨fun d hd => ?_, ?_, fun n hn => ?_, fun hview => ?_⟩
  · have hd : (s.pendingBank.get i).target = d.port := hd
    rw [Entry.selfTarget, hd, Domain.port_domain] at hself
    exact hself
  · exact (Nat.not_lt.mp (decide_eq_false_iff_not.mp hspan)).trans (spanBytes_le _)
  · have hn : (s.pendingBank.get i).meter = some n := hn
    rw [namesStoppedMeter, hn] at hmeter
    exact decide_eq_false_iff_not.mp hmeter
  · have hview : (s.pendingBank.get i).view ≠ .normal := hview
    rw [boundInQuarantine, decide_eq_true hview, Bool.true_and, Option.isSome_eq_false_iff, Option.isNone_iff_eq_none] at hbound
    exact hbound

/-- A valid ACTIVE entry names its meter (R39). -/
theorem meterNamed_of_entry {s : State} {i : Fin 96} {n : Fin 16} (hv : (s.active.get i).valid = true)
    (hn : (s.active.get i).meter = some n) : meterNamed s n = true :=
  List.any_eq_true.mpr ⟨_, List.mem_of_getElem? (bank_getElem? s.active i), by rw [hv, hn]; simp⟩

theorem State.ActiveLaw.of_edit {s t : State} (e : Edit s t) (hs : s.ActiveLaw) : t.ActiveLaw := by
  cases e with
  | pin i => exact .of_rates (fun j => ⟨_, pinEntry_get i j s⟩) (fun _ => rfl) hs
  | swap hv => exact .swap hv
  | meter n t rate depth _ _ _ hnamed =>
    intro i hvalid
    obtain ⟨hself, hend, hrate, hbound⟩ := hs i hvalid
    refine ⟨hself, hend, fun m hm => ?_, hbound⟩
    rw [State.modMeter_meters, setAt_get]
    split
    · rename_i h
      subst h
      intro h0
      have := hnamed h0
      rw [meterNamed_of_entry (s := s) hvalid hm] at this
      cases this
    · exact hrate m hm
  | cut u => exact .of_steady (cutPieces_steady u s) hs
  | time | clone | write | startCommit | define | control => exact .of_rates (fun _ => ⟨_, rfl⟩) (fun _ => rfl) hs

theorem State.ActiveLaw.resetPart (cause : ResetCause) (s : State) : (resetPart cause s).ActiveLaw := by
  intro i h
  rw [resetPart_active] at h
  cases h

/-- Settles O11: a swap brings validated entries alone, and a rate becomes 0 only where no ACTIVE entry names the meter. -/
theorem everyStepKeepsActiveEntryLaw : Obligations.EveryStepKeepsActiveEntryLaw := fun _ _ hs h =>
  step_keeps (fun _ _ h => h) (fun p s => .of_steady (arrive_steady p s))
    (fun _ _ m => .of_steady m.steady) (fun _ _ => .of_edit) State.ActiveLaw.resetPart h hs

/-! ### Definitions of units (R42, R43) -/

/-- The law reads the definitions alone. -/
theorem State.DefinitionLaw.of_definitions {s t : State} (hd : ∀ u, (t.units.get u).definition = (s.units.get u).definition)
    (hs : s.DefinitionLaw) : t.DefinitionLaw := by
  have hport u : (t.units.get u).port = (s.units.get u).port := congrArg UnitDefinition.port (hd u)
  have hstart u : (t.units.get u).start = (s.units.get u).start := congrArg UnitDefinition.start (hd u)
  have hsize u : (t.units.get u).size = (s.units.get u).size := congrArg UnitDefinition.size (hd u)
  have hevents u : (t.units.get u).events = (s.units.get u).events := congrArg UnitDefinition.events (hd u)
  have hscript u : (t.units.get u).script = (s.units.get u).script := congrArg UnitDefinition.script (hd u)
  unfold State.DefinitionLaw
  simp only [hport, hstart, hsize, hevents, hscript]
  exact hs

/-- The steps that fill the bytes are as many as counted, each of 1 to 16 bytes (R43). -/
theorem parseSteps_some {n : Nat} {bytes : List Byte} {steps : List ScrubStep} (h : parseSteps n bytes = some steps) :
    steps.length = n ∧ ∀ st ∈ steps, 1 ≤ st.data.length ∧ st.data.length ≤ 16 := by
  induction n generalizing bytes steps with
  | zero =>
    cases bytes with
    | nil => rw [← Option.some.inj h]; simp
    | cons => cases h
  | succ n ih =>
    match bytes, h with
    | [], h => cases h
    | [_], h => cases h
    | [_, _], h => cases h
    | [_, _, _], h => cases h
    | [_, _, _, _], h => cases h
    | a0 :: a1 :: a2 :: a3 :: l :: rest, h =>
      unfold parseSteps at h
      split at h
      · rename_i hl
        obtain ⟨more, hmore, rfl⟩ := Option.map_eq_some_iff.mp h
        obtain ⟨hlen, hdata⟩ := ih hmore
        refine ⟨by simp [hlen], fun st hst => ?_⟩
        rcases List.mem_cons.mp hst with rfl | hst
        · simp only [List.length_take]; omega
        · exact hdata st hst
      · cases h

/-- A definition that an image gives is as R42 stores it. -/
theorem definitionOfImage_stored {image : List Byte} {d : UnitDefinition} (h : definitionOfImage image = some d) : d.Stored := by
  unfold definitionOfImage at h
  dsimp only at h
  split at h
  · rename_i port style script _ _ hscript
    rw [← Option.some.inj h]
    split at hscript
    · rename_i hcount
      obtain ⟨hlen, hdata⟩ := parseSteps_some hscript
      exact ⟨alignAddr_mod _, limitSize_end (alignAddr_mod _) _, by rw [hlen]; exact hcount, hdata⟩
    · cases hscript
  · cases h

/-- The checks of a definition, as R43 states them. -/
theorem definitionFits_iff {s : State} {u : Fin 8} {d : UnitDefinition} {p : Port} :
    definitionFits s u d p = true ↔ d.Fits s u p := by
  have hany (f : CustodyUnit → Bool) : anotherUnit s u f = false ↔ ∀ v : Fin 8, v ≠ u → f (s.units.get v) = false := by
    simp only [anotherUnit, List.any_eq_false, Bool.and_eq_true, decide_eq_true_eq, not_and, Bool.not_eq_true, State.unit]
    exact ⟨fun h v hv => h v (mem_allUnits v) hv, fun h v _ hv => h v hv⟩
  have himp {a b : Bool} : (!a || b) = true ↔ (a = true → b = true) := by cases a <;> simp
  simp only [definitionFits, UnitDefinition.Fits, Bool.and_eq_true, Bool.not_eq_true', himp, hany, List.all_eq_true,
    decide_eq_true_eq, CustodyUnit.overlaps, overlap, Bool.and_eq_false_iff, decide_eq_false_iff_not, and_assoc]
  refine and_congr (forall₂_congr fun v hv => ?_) (and_congr ?_ Iff.rfl)
  · constructor
    · rintro h hport ⟨hx, hy⟩
      rcases h with h | h | h
      · exact h hport
      · exact h hx
      · exact h hy
    · intro h
      by_cases hport : (s.units.get v).port = some p
      · rcases not_and_or.mp (h hport) with h | h
        · exact .inr (.inl h)
        · exact .inr (.inr h)
      · exact .inl hport
  · refine imp_congr_right fun _ => and_congr_right fun _ => forall₂_congr fun v hv => ?_
    constructor
    · rintro h hport
      rcases h with h | h
      · exact absurd hport h
      · exact h
    · intro h
      by_cases hport : (s.units.get v).port = some p
      · exact .inr (h hport)
      · exact .inl hport

/-- A stored definition that fits among the others keeps the law (R42, R43). -/
theorem State.DefinitionLaw.define {s : State} {u : Fin 8} {d : UnitDefinition} (hd : d.Stored)
    (hp : ∀ p, d.port = some p → d.Fits s u p) (hs : s.DefinitionLaw) : (s.modUnit u (fun v => v.define d)).DefinitionLaw := by
  obtain ⟨hstart, hend, hlen, hdata⟩ := hd
  obtain ⟨hscripts, hports, hpairs⟩ := hs
  rw [State.DefinitionLaw, State.modUnit_units]
  refine ⟨fun w => ?_, fun w p => ?_, fun v w p hne => ?_⟩
  · rw [setAt_get]
    split
    · exact ⟨hlen, hdata⟩
    · exact hscripts w
  · rw [setAt_get]
    split
    · intro hport
      obtain ⟨-, hevents, hsteps⟩ := hp p hport
      exact ⟨hstart, hend, fun he => (hevents he).1, hsteps⟩
    · exact hports w p
  · simp only [setAt_get]
    split
    · rename_i hv
      rw [if_neg (fun hw => hne (hv.trans hw.symm))]
      intro hport hw
      obtain ⟨hover, hevents, -⟩ := hp p hport
      have hwu : w ≠ u := fun hw => hne (hv.trans hw.symm)
      have := hover w hwu hw
      refine ⟨?_, fun ⟨h1, h2⟩ => ?_⟩
      · simp only [CustodyUnit.define]; omega
      · rw [(hevents h1).2 w hwu hw] at h2; cases h2
    · rename_i hv
      split
      · intro hport hw
        obtain ⟨hover, hevents, -⟩ := hp p hw
        have := hover v hv hport
        refine ⟨?_, fun ⟨h1, h2⟩ => ?_⟩
        · simp only [CustodyUnit.define]; omega
        · rw [(hevents h2).2 v hv hport] at h1; cases h1
      · exact hpairs v w p hne

theorem State.DefinitionLaw.of_edit {s t : State} (e : Edit s t) (hs : s.DefinitionLaw) : t.DefinitionLaw := by
  cases e with
  | define u image d hd _ hp =>
    exact .define (definitionOfImage_stored hd) (fun p h => definitionFits_iff.mp (hp p h).1) hs
  | cut u => exact .of_definitions (cutPieces_steady u s).definition hs
  | time | pin | clone | write | startCommit | swap | meter | control => exact .of_definitions (fun _ => rfl) hs

theorem State.DefinitionLaw.resetPart (cause : ResetCause) (s : State) : (resetPart cause s).DefinitionLaw := by
  unfold State.DefinitionLaw
  simp only [resetPart_unit]
  exact ⟨fun _ => ⟨Nat.zero_le _, fun st h => (List.not_mem_nil h).elim⟩, ⟨fun _ _ h => (Option.some_ne_none _ h.symm).elim,
    fun _ _ _ _ h => (Option.some_ne_none _ h.symm).elim⟩⟩

/-- Settles O12: a definition is stored as R42 states and only where it fits, and nothing else changes one. -/
theorem everyStepKeepsDefinitionLaw : Obligations.EveryStepKeepsDefinitionLaw := fun _ _ hs h =>
  step_keeps (fun _ _ h => h) (fun p s => .of_definitions (arrive_steady p s).definition)
    (fun _ _ m => .of_definitions m.steady.definition) (fun _ _ => .of_edit) State.DefinitionLaw.resetPart h hs

/-! ### Fault queues, scores and controls (R24, R124, R125, R129, R138, R140) -/

theorem State.QueueLaw.of_move {s t : State} (h : Move true s t) (hs : s.QueueLaw) : t.QueueLaw := by
  obtain ⟨hsup, happ, hrad⟩ := hs
  cases h with
  | supQ q hq => exact ⟨hq hsup, happ, hrad⟩
  | ownQ x q hq =>
    cases x with
    | app => exact ⟨hsup, hq happ, hrad⟩
    | rad => exact ⟨hsup, happ, hq hrad⟩
  | endPiece ref st _ =>
    obtain ⟨l, v, hv, -⟩ := endPiece_eq ref st s
    rw [hv]; exact ⟨hsup, happ, hrad⟩
  | enter r _ _ =>
    obtain ⟨v, hv, -⟩ := countIn_eq r.unit r.pieces.length (s.setRequests (s.requests ++ [r]))
    rw [hv]; exact ⟨hsup, happ, hrad⟩
  | port | init | unit | meter | flags | score | domain | commit | setPiece | record | release =>
    exact ⟨hsup, happ, hrad⟩

theorem State.ScoreLaw.of_move {s t : State} (h : Move true s t) (hs : s.ScoreLaw) : t.ScoreLaw := by
  obtain ⟨happ, hrad, hmode⟩ := hs
  cases h with
  | score x r hr =>
    cases x with
    | app => exact ⟨hr happ, hrad, hmode⟩
    | rad => exact ⟨happ, hr hrad, hmode⟩
  | domain d v hv =>
    refine ⟨happ, hrad, ?_⟩
    cases d with
    | pay =>
      rcases hv with hv | hv | hv
      · exact hv.trans hmode
      · exact hv
      · exact absurd rfl hv
    | app | rad => exact hmode
  | endPiece ref st _ =>
    obtain ⟨l, v, hv, -⟩ := endPiece_eq ref st s
    rw [hv]; exact ⟨happ, hrad, hmode⟩
  | enter r _ _ =>
    obtain ⟨v, hv, -⟩ := countIn_eq r.unit r.pieces.length (s.setRequests (s.requests ++ [r]))
    rw [hv]; exact ⟨happ, hrad, hmode⟩
  | port | init | unit | meter | supQ | ownQ | flags | commit | setPiece | record | release =>
    exact ⟨happ, hrad, hmode⟩

/-- The pieces of a cut end by moves; its count changes a unit alone. -/
theorem cutPieces_moves (u : Fin 8) (s : State) :
    ∃ (a : State) (v : CustodyUnit), Moves true s a ∧ cutPieces u s = { a with units := setAt a.units u v } ∧
      v.definition = (a.units.get u).definition ∧ v.parked = (a.units.get u).parked :=
  ⟨_, _, Moves.foldl (fun t r => Moves.cutRequest t r) _ s, rfl, rfl, rfl⟩

/-- An edit touches neither the fault queues nor the scores and modes, but that a cut makes moves first. -/
theorem Edit.faultUnit {s t : State} (e : Edit s t) :
    ∃ a, Moves true s a ∧ (t.supQ, t.ownQ, t.scores, t.domains) = (a.supQ, a.ownQ, a.scores, a.domains) := by
  cases e with
  | cut u =>
    obtain ⟨a, v, hm, he, -⟩ := cutPieces_moves u s
    exact ⟨a, hm, by rw [he]⟩
  | time | pin | clone | write | startCommit | swap | define | meter | control => exact ⟨s, Moves.refl s, rfl⟩

theorem State.QueueLaw.of_edit {s t : State} (e : Edit s t) (hs : s.QueueLaw) : t.QueueLaw := by
  obtain ⟨a, hm, he⟩ := e.faultUnit
  have hsup : t.supQ = a.supQ := congrArg (fun x => x.1) he
  have hown : t.ownQ = a.ownQ := congrArg (fun x => x.2.1) he
  unfold State.QueueLaw
  rw [hsup, hown]
  exact hm.keep (fun _ _ => .of_move) hs

theorem State.ScoreLaw.of_edit {s t : State} (e : Edit s t) (hs : s.ScoreLaw) : t.ScoreLaw := by
  obtain ⟨a, hm, he⟩ := e.faultUnit
  have hscores : t.scores = a.scores := congrArg (fun x => x.2.2.1) he
  have hdomains : t.domains = a.domains := congrArg (fun x => x.2.2.2) he
  unfold State.ScoreLaw
  rw [hscores, hdomains]
  exact hm.keep (fun _ _ => .of_move) hs

/-- The law reads the controls and the masks alone. -/
theorem State.ControlLaw.of_eq {s t : State} (hc : t.controls = s.controls) (hm : t.masks = s.masks) (hs : s.ControlLaw) :
    t.ControlLaw := by
  unfold State.ControlLaw; rw [hc, hm]; exact hs

theorem FaultClass.index_inj {a b : FaultClass} (h : a.index = b.index) : a = b := by
  revert h; cases a <;> cases b <;> decide

/-- What FAULT_CONTROL stores of a class, every other class as it was (R124, R125). -/
theorem storeControl_get (c k : FaultClass) (flags weight : Byte) (s : State) :
    (storeControl c flags weight s).controls.get k.index =
      (if k = c then ⟨flags.getLsbD 0, if c.chargeable then weight else 0⟩ else s.controls.get k.index) ∧
    (storeControl c flags weight s).masks.app.get k.index =
      (if k = c then flags.getLsbD 1 && c.delegable else s.masks.app.get k.index) ∧
    (storeControl c flags weight s).masks.rad.get k.index =
      (if k = c then flags.getLsbD 2 && c.delegable else s.masks.rad.get k.index) := by
  have hk : k.index = c.index ↔ k = c := ⟨FaultClass.index_inj, congrArg _⟩
  refine ⟨?_, ?_, ?_⟩
  · exact (setAt_get _ _ _ _).trans (by simp only [hk])
  · exact (setAt_get _ _ _ _).trans (by simp only [hk]; rfl)
  · exact (setAt_get _ _ _ _).trans (by simp only [hk]; rfl)

theorem State.ControlLaw.of_edit {s t : State} (e : Edit s t) (hs : s.ControlLaw) : t.ControlLaw := by
  cases e with
  | control c flags weight =>
    intro k
    obtain ⟨hc, happ, hrad⟩ := storeControl_get c k flags weight s
    rw [hc, happ, hrad]
    by_cases h : k = c
    · subst h
      simp only [if_true]
      exact ⟨fun hn => by simp [hn], fun hn => by simp [hn]⟩
    · simp only [if_neg h]
      exact hs k
  | cut u => exact .of_eq (cutPieces_steady u s).controls (cutPieces_steady u s).masks hs
  | time | pin | clone | write | startCommit | swap | define | meter => exact .of_eq rfl rfl hs

theorem State.ControlLaw.resetPart (cause : ResetCause) (s : State) : (resetPart cause s).ControlLaw := by
  intro c
  have happ : (Machine.resetPart cause s).masks.app.get c.index = false := replicate_get false c.index
  have hrad : (Machine.resetPart cause s).masks.rad.get c.index = false := replicate_get false c.index
  refine ⟨fun h => ?_, fun _ => ⟨happ, hrad⟩⟩
  revert h
  change c.chargeable = false → (resetControls.get c.index).weight = 0
  cases c <;> decide

/-- An arrival touches the ports and the wire alone. -/
theorem arrive_eq (p : Port) (s : State) : ∃ v w, arrive p s = { s with ports := v, wire := w } := by
  rcases arrive_cases p s with h | ⟨pkt, rest, -, -, h⟩
  · exact ⟨s.ports, s.wire, h⟩
  · exact ⟨_, _, h⟩

theorem State.QueueLaw.arrive (p : Port) (s : State) (hs : s.QueueLaw) : (arrive p s).QueueLaw := by
  obtain ⟨v, w, h⟩ := arrive_eq p s
  rw [h]; exact hs

theorem State.ScoreLaw.arrive (p : Port) (s : State) (hs : s.ScoreLaw) : (arrive p s).ScoreLaw := by
  obtain ⟨v, w, h⟩ := arrive_eq p s
  rw [h]; exact hs

theorem State.QueueLaw.resetPart (cause : ResetCause) (s : State) : (resetPart cause s).QueueLaw :=
  ⟨Nat.zero_le _, Nat.zero_le _, Nat.zero_le _⟩

theorem State.ScoreLaw.resetPart (cause : ResetCause) (s : State) : (resetPart cause s).ScoreLaw :=
  ⟨Nat.zero_le _, Nat.zero_le _, rfl⟩

/-- Settles O6: each move and edit keeps each of the three laws by itself. -/
theorem everyStepKeepsFaultUnitLaws : Obligations.EveryStepKeepsFaultUnitLaws := fun _ _ h =>
  ⟨step_keeps (fun _ _ h => h) State.QueueLaw.arrive
    (fun _ _ m => m.keep (fun _ _ => .of_move)) (fun _ _ => .of_edit) State.QueueLaw.resetPart h,
   step_keeps (fun _ _ h => h) State.ScoreLaw.arrive
    (fun _ _ m => m.keep (fun _ _ => .of_move)) (fun _ _ => .of_edit) State.ScoreLaw.resetPart h,
   step_keeps (fun _ _ h => h) (fun p s => .of_eq (arrive_steady p s).controls (arrive_steady p s).masks)
    (fun _ _ m => .of_eq m.steady.controls m.steady.masks) (fun _ _ => .of_edit) State.ControlLaw.resetPart h⟩

/-! ### The outside (log entries 1 and 13) -/

/-- Moves touch neither the queue of commands nor the packets on the wires. -/
theorem Move.outside {s t : State} (h : Move true s t) : (t.pending, t.wire) = (s.pending, s.wire) := by
  cases h with
  | endPiece ref st _ =>
    obtain ⟨l, v, hv, -⟩ := endPiece_eq ref st s
    rw [hv]
  | enter r _ _ =>
    obtain ⟨v, hv, -⟩ := countIn_eq r.unit r.pieces.length (s.setRequests (s.requests ++ [r]))
    rw [hv]; rfl
  | port | init | unit | meter | supQ | ownQ | flags | score | domain | commit | setPiece | record | release => rfl

theorem Moves.outside {s t : State} (h : Moves true s t) : (t.pending, t.wire) = (s.pending, s.wire) :=
  h.related (R := fun s t => (t.pending, t.wire) = (s.pending, s.wire)) (fun _ => rfl) (fun _ _ _ h g => g.trans h)
    (fun _ _ => Move.outside)

theorem Edit.outside {s t : State} (e : Edit s t) : (t.pending, t.wire) = (s.pending, s.wire) := by
  cases e with
  | cut u =>
    obtain ⟨a, v, hm, he, -⟩ := cutPieces_moves u s
    rw [he]; exact hm.outside
  | time | pin | clone | write | startCommit | swap | define | meter | control => rfl

theorem Path.outside {s t : State} (h : Path s t) : (t.pending, t.wire) = (s.pending, s.wire) := by
  cases h with
  | moves m => exact m.outside
  | edit m e n => exact n.outside.trans (e.outside.trans m.outside)
  | reset cause m => exact m.outside

/-- Settles O3: a command is a path, and no path touches what stands outside. -/
theorem everyCommandRuns : Obligations.EveryCommandRuns := by
  intro c s
  obtain ⟨t, ht, path⟩ := exec_path c s
  exact ⟨t, ht, congrArg Prod.fst path.outside, congrArg Prod.snd path.outside⟩

end Sys2Proof.Machine
end

section
/-! PROOFS. The step and its clock, the split of a request and the cost of its pieces, refill and decay (R15, R58, R80, R81, R139). -/

namespace Sys2Proof.Machine

open Sys2Proof

/-! ### The step -/

/-- Settles O1: the queue alone decides which command a step runs. -/
theorem stepTakesFrontCommand : Obligations.StepTakesFrontCommand := by
  intro s c rest h
  simp only [step, h]

theorem mem_allPorts (p : Port) : p ∈ allPorts := by cases p <;> decide

/-- The ports are listed by their indices. -/
theorem allPorts_split (p : Port) : ∃ before after, allPorts = before ++ p :: after ∧ ∀ q ∈ before, q.index < p.index := by
  cases p
  · exact ⟨[], [.P, .M, .K, .D, .C, .S], rfl, by decide⟩
  · exact ⟨[.A], [.M, .K, .D, .C, .S], rfl, by decide⟩
  · exact ⟨[.A, .P], [.K, .D, .C, .S], rfl, by decide⟩
  · exact ⟨[.A, .P, .M], [.D, .C, .S], rfl, by decide⟩
  · exact ⟨[.A, .P, .M, .K], [.C, .S], rfl, by decide⟩
  · exact ⟨[.A, .P, .M, .K, .D], [.S], rfl, by decide⟩
  · exact ⟨[.A, .P, .M, .K, .D, .C], [], rfl, by decide⟩

/-- The first port at which a packet can arrive heads the arrivals. -/
theorem arrivals_eq_cons {s : State} {p : Port} (hp : canArrive s p = true)
    (hq : ∀ q : Port, q.index < p.index → canArrive s q = false) : ∃ rest, arrivals s = p :: rest := by
  obtain ⟨before, after, hall, hlt⟩ := allPorts_split p
  refine ⟨after.filter (fun q => canArrive s q), ?_⟩
  have hnone : before.filter (fun q => canArrive s q) = [] :=
    List.filter_eq_nil_iff.mpr (fun q hm => by simp [hq q (hlt q hm)])
  rw [arrivals, hall, List.filter_append, hnone, List.nil_append, List.filter_cons_of_pos hp]

/-- A packet that can arrive is held last in the ingress buffer. -/
theorem arrive_eq_of_wire {s : State} {p : Port} {pkt : Packet} {rest : List Packet} (hp : canArrive s p = true)
    (hw : s.wire.get p = pkt :: rest) :
    arrive p s = { s with
      ports := s.ports.set p { s.ports.get p with ingress := (s.ports.get p).ingress ++ [pkt] }, wire := s.wire.set p rest } := by
  simp only [arrive, hw, if_pos hp]
  rfl

/-- Settles O2: arrivals come before what is due, and the clock goes on where nothing is due. -/
theorem idleStepDoesWhatIsDue : Obligations.IdleStepDoesWhatIsDue := by
  intro s hs arrives
  have hcan (p : Port) : canArrive s p = true ↔ ∃ pkt rest, arrives p pkt rest := by
    rw [canArrive_iff]
    constructor
    · rintro ⟨hup, hlen, hw⟩
      obtain ⟨pkt, rest, hw⟩ := List.exists_cons_of_ne_nil hw
      exact ⟨pkt, rest, hup, hlen, hw⟩
    · rintro ⟨pkt, rest, hup, hlen, hw⟩
      exact ⟨hup, hlen, by rw [hw]; exact List.cons_ne_nil _ _⟩
  have hstep : step s = idle s := by simp only [step, hs]
  rw [hstep]
  refine ⟨fun p pkt rest hp hfirst => ?_, fun hnone => ⟨fun c rest hdue => ?_, fun hdue => ?_⟩⟩
  · have hpc := (hcan p).mpr ⟨pkt, rest, hp⟩
    obtain ⟨more, harr⟩ := arrivals_eq_cons hpc (fun q hq => by
      rw [← Bool.not_eq_true, hcan]
      rintro ⟨x, xs, h⟩
      exact hfirst q hq x xs h)
    simp only [idle, harr]
    exact congrArg _ (arrive_eq_of_wire hpc hp.2.2)
  all_goals
    have harr : arrivals s = [] := List.filter_eq_nil_iff.mpr (fun p _ => by
      rw [hcan]
      rintro ⟨x, xs, h⟩
      exact hnone p x xs h)
    simp only [idle, harr, hdue]
  rfl

/-- Settles O30: the passage is whole exactly where nothing falls due on the way. -/
theorem gateTimeHoldsAtLargestValue : Obligations.GateTimeHoldsAtLargestValue := by
  refine fun s => ⟨fun h => ?_, fun h => ?_⟩
  · exact congrArg _ (if_pos h)
  · exact congrArg _ (if_neg (by rw [show Config.lastTime = 2 ^ 48 - 1 from rfl, h]; exact Bool.false_ne_true))

/-! ### The split (R58) -/

theorem Burst.bytes_pos (b : Burst) : 0 < b.bytes := by cases b <;> decide

/-- The first piece of a split reaches to the end of its burst or of the request, and the rest is split from there. -/
theorem splitFrom_succ (b : Nat) (st : PieceState) (fuel num t len : Nat) (h : 1 ≤ len) :
    splitFrom b st (fuel + 1) num t len =
      ⟨num, BitVec.ofNat 32 t, min len (b - t % b), st, none, none⟩ ::
        splitFrom b st fuel (num + 1) (t + min len (b - t % b)) (len - min len (b - t % b)) := by
  rw [splitFrom, if_neg (by omega)]

theorem splitFrom_zero (b : Nat) (st : PieceState) (fuel num t : Nat) : splitFrom b st fuel num t 0 = [] := by
  cases fuel <;> simp [splitFrom]

/-- What is left after the first piece starts at a burst boundary. -/
theorem split_rest_aligned {b t len : Nat} (hb : 0 < b) (h : b - t % b < len) : (t + min len (b - t % b)) % b = 0 := by
  have hlt := Nat.mod_lt t hb
  rw [Nat.min_eq_right (Nat.le_of_lt h)]
  have : t + (b - t % b) = b * (t / b + 1) := by
    have := Nat.div_add_mod t b
    rw [Nat.mul_add, Nat.mul_one]; omega
  rw [this, Nat.mul_mod_right]

/-- A split has as many pieces as bursts are touched (R58). -/
theorem splitFrom_length {b : Nat} (hb : 0 < b) (st : PieceState) (fuel num t len : Nat) (h : 1 ≤ len) (hf : len ≤ fuel) :
    (splitFrom b st fuel num t len).length = (t % b + len + (b - 1)) / b := by
  induction fuel generalizing num t len with
  | zero => omega
  | succ fuel ih =>
    have hlt := Nat.mod_lt t hb
    rw [splitFrom_succ b st fuel num t len h, List.length_cons]
    by_cases hle : len ≤ b - t % b
    · rw [Nat.min_eq_left hle, Nat.sub_self, splitFrom_zero]
      exact (Nat.div_eq_of_lt_le (k := 1) (by omega) (by omega)).symm
    · rw [ih _ _ _ (by omega) (by omega), split_rest_aligned hb (Nat.lt_of_not_le hle), Nat.min_eq_right (by omega)]
      rw [show t % b + len + (b - 1) = 0 + (len - (b - t % b)) + (b - 1) + b by omega, Nat.add_div_right _ hb]

/-- Every piece of a split has at least one byte and at most a burst. -/
theorem splitFrom_len_bounds {b : Nat} (hb : 0 < b) (st : PieceState) (fuel num t len : Nat) :
    ∀ c ∈ splitFrom b st fuel num t len, 1 ≤ c.len ∧ c.len ≤ b := by
  induction fuel generalizing num t len with
  | zero => intro c hc; cases hc
  | succ fuel ih =>
    have hlt := Nat.mod_lt t hb
    rcases Nat.eq_zero_or_pos len with rfl | h
    · rw [splitFrom_zero]; intro c hc; cases hc
    · rw [splitFrom_succ b st fuel num t len h]
      intro c hc
      rcases List.mem_cons.mp hc with rfl | hc
      · dsimp only; omega
      · exact ih _ _ _ c hc

/-- The lengths of the pieces are the length of the request in sum. -/
theorem splitFrom_sum {b : Nat} (hb : 0 < b) (st : PieceState) (fuel num t len : Nat) (hf : len ≤ fuel) :
    ((splitFrom b st fuel num t len).map (fun c => c.len)).sum = len := by
  induction fuel generalizing num t len with
  | zero => simp [splitFrom]; omega
  | succ fuel ih =>
    have hlt := Nat.mod_lt t hb
    rcases Nat.eq_zero_or_pos len with rfl | h
    · rw [splitFrom_zero]; rfl
    · rw [splitFrom_succ b st fuel num t len h, List.map_cons, List.sum_cons, ih _ _ _ (by omega)]
      dsimp only; omega

/-- The first piece of a split starts where the request does, and stays within its burst. -/
theorem splitFrom_head {b : Nat} {st : PieceState} {fuel num t len : Nat} {c : Piece}
    (hc : (splitFrom b st fuel num t len)[0]? = some c) :
    1 ≤ len ∧ c = ⟨num, BitVec.ofNat 32 t, min len (b - t % b), st, none, none⟩ := by
  cases fuel with
  | zero => cases hc
  | succ fuel =>
    rcases Nat.eq_zero_or_pos len with rfl | h
    · rw [splitFrom_zero] at hc; cases hc
    · rw [splitFrom_succ b st fuel num t len h] at hc
      exact ⟨h, (Option.some.inj hc).symm⟩

/-- Each piece has the next number, lies in one burst, and the piece behind it starts where it ends, at a burst boundary (R58). -/
theorem splitFrom_getElem {b : Nat} (hb : 0 < b) {st : PieceState} {fuel num t len i : Nat} {c : Piece} (ht : t + len ≤ 2 ^ 32)
    (hc : (splitFrom b st fuel num t len)[i]? = some c) :
    c.num = num + i ∧ c.addr.toNat % b + c.len ≤ b ∧
    ∀ c', (splitFrom b st fuel num t len)[i + 1]? = some c' → c'.addr.toNat = c.addr.toNat + c.len ∧ c'.addr.toNat % b = 0 := by
  induction fuel generalizing num t len i with
  | zero => cases hc
  | succ fuel ih =>
    have hlt := Nat.mod_lt t hb
    rcases Nat.eq_zero_or_pos len with rfl | h
    · rw [splitFrom_zero] at hc; cases hc
    rw [splitFrom_succ b st fuel num t len h] at hc ⊢
    cases i with
    | zero =>
      rw [← show _ = c from Option.some.inj hc]
      have haddr : (BitVec.ofNat 32 t).toNat = t := by rw [BitVec.toNat_ofNat, Nat.mod_eq_of_lt (by omega)]
      refine ⟨rfl, by rw [haddr]; dsimp only; omega, fun c' hc' => ?_⟩
      obtain ⟨hpos, rfl⟩ := splitFrom_head (by simpa using hc')
      have : (BitVec.ofNat 32 (t + min len (b - t % b))).toNat = t + min len (b - t % b) := by
        rw [BitVec.toNat_ofNat, Nat.mod_eq_of_lt (by omega)]
      dsimp only
      rw [this, haddr]
      exact ⟨rfl, split_rest_aligned hb (by omega)⟩
    | succ i =>
      obtain ⟨hnum, hburst, hnext⟩ := ih (num := num + 1) (t := t + min len (b - t % b)) (len := len - min len (b - t % b))
        (by omega) (by simpa using hc)
      exact ⟨by omega, hburst, fun c' hc' => hnext c' (by simpa using hc')⟩

/-- Settles O18: the split, piece by piece, for every burst. -/
theorem splitCutsAtBurstBoundaries : Obligations.SplitCutsAtBurstBoundaries := by
  intro b t len st h1 h256 hend ps
  have hlen : ps.length = (t.toNat % b.bytes + len + (b.bytes - 1)) / b.bytes :=
    splitFrom_length b.bytes_pos st len 1 t.toNat len h1 (Nat.le_refl _)
  refine ⟨hlen, ?_, splitFrom_sum b.bytes_pos st len 1 t.toNat len (Nat.le_refl _), ?_, fun i c hc => ?_⟩
  · rw [hlen]
    cases b <;> simp only [Burst.bytes] <;> omega
  · obtain ⟨fuel, rfl⟩ := Nat.exists_eq_succ_of_ne_zero (show len ≠ 0 by omega)
    simp only [ps, splitRequest, splitFrom_succ _ _ _ _ _ _ h1]
    simp
  · obtain ⟨hnum, hburst, hnext⟩ := splitFrom_getElem b.bytes_pos hend hc
    have hm := List.mem_of_getElem? hc
    exact ⟨by omega, (Moves.splitFrom_state _ _ _ _ _ _ c hm).1, (splitFrom_len_bounds b.bytes_pos _ _ _ _ _ c hm).1, hburst, hnext⟩

/-! ### Costs (R80) -/

/-- Where every piece costs the same, the costs are their number times it. -/
theorem sum_cost_eq {l : List Piece} {k : Nat} (h : ∀ c ∈ l, pieceCost c.len = k) :
    (l.map (fun c => pieceCost c.len)).sum = l.length * k := by
  rw [List.map_congr_left h, List.map_const', List.sum_replicate, smul_eq_mul]

/-- Each piece of a split into bursts of 16 bytes costs 2. -/
theorem sum_cost_b16 (t : Addr) :
    ((splitRequest .b16 t 256 .charging).map (fun c => pieceCost c.len)).sum = (t.toNat % 16 + 256 + 15) / 16 * 2 := by
  rw [sum_cost_eq (k := 2) (fun c hc => ?_)]
  · rw [splitRequest, splitFrom_length Burst.b16.bytes_pos _ _ _ _ _ (by omega) (Nat.le_refl _)]
    rfl
  · obtain ⟨hlo, hhi⟩ := splitFrom_len_bounds Burst.b16.bytes_pos _ _ _ _ _ c hc
    have hhi : c.len ≤ 16 := hhi
    unfold pieceCost; omega

/-- Settles O17: the cost rounds up to blocks of 16 bytes, and the three READs are cut as O18 says. -/
theorem pieceCostIsHeaderPlusBlocks : Obligations.PieceCostIsHeaderPlusBlocks := by
  refine ⟨fun n h1 h256 => ?_, fun t ht => ?_, fun t ht => ?_, fun t ht => ?_⟩
  · unfold pieceCost
    refine ⟨?_, by omega, by omega⟩
    split <;> omega
  · have hone : splitRequest .b256 t 256 .charging = [⟨1, BitVec.ofNat 32 t.toNat, 256, .charging, none, none⟩] := by
      rw [splitRequest, splitFrom_succ _ _ _ _ _ _ (by omega)]
      simp only [Burst.bytes, ht]
      rfl
    rw [hone, List.map_singleton, List.sum_singleton]
    exact (by decide : pieceCost 256 = 17)
  · rw [sum_cost_b16, ht]
  · rw [sum_cost_b16]; omega

/-! ### Refill and decay (R81, R139) -/

/-- Settles O19: what accrues over two intervals accrues over both, and the limit is the same. -/
theorem refillIsIndependentOfItsMoments : Obligations.RefillIsIndependentOfItsMoments := by
  intro v t1 t2 hc h1 h2
  have hsplit : v.rate * (t2 - v.last) = v.rate * (t1 - v.last) + v.rate * (t2 - t1) := by
    rw [← Nat.mul_add]; congr 1; omega
  refine ⟨rfl, ?_, ?_⟩
  · simp only [Meter.refill, Meter.refilled]; omega
  · simp only [Meter.refill, Meter.refilled, hsplit]
    congr 1; omega

theorem TimeCode.duration_pos {c : TimeCode} (h : c.value ≠ 0) : 0 < c.duration := by
  refine Nat.mul_pos (Nat.pos_of_ne_zero (fun h0 => h (Fin.ext h0))) ?_
  unfold scaleUnit
  split
  · decide
  · split
    · decide
    · split <;> decide

theorem ScoreRecord.decay_of_stopped {r : ScoreRecord} (h : r.interval.value = 0) (t : Nat) : r.decay t = r := if_pos h

theorem ScoreRecord.decay_of_running {r : ScoreRecord} (h : r.interval.value ≠ 0) (t : Nat) :
    r.decay t = { r with
      score := r.score - (t - r.lastDecay) / r.interval.duration * r.decayAmount.toNat
      lastDecay := r.lastDecay + (t - r.lastDecay) / r.interval.duration * r.interval.duration } := if_neg h

/-- The whole intervals up to `t2` are those up to `t1` and those completed since (R139). -/
theorem decay_intervals {d last t1 t2 : Nat} (hd : 0 < d) (h1 : last ≤ t1) (h2 : t1 ≤ t2) :
    (t1 - last) / d + (t2 - (last + (t1 - last) / d * d)) / d = (t2 - last) / d := by
  have hle : (t1 - last) / d * d ≤ t2 - last := (Nat.div_mul_le_self _ _).trans (by omega)
  rw [← Nat.sub_sub, Nat.add_comm, ← Nat.add_mul_div_right _ _ hd, Nat.sub_add_cancel hle]

/-- Settles O20: decay counts whole intervals, which add up over any moments. -/
theorem decayIsIndependentOfItsMoments : Obligations.DecayIsIndependentOfItsMoments := by
  intro r t1 t2 h1 h2
  refine ⟨fun h => ScoreRecord.decay_of_stopped h t1, fun h => ⟨ScoreRecord.decay_of_running h t1, ?_, ?_⟩, ?_⟩
  · rw [ScoreRecord.decay_of_running h]
    have := Nat.div_mul_le_self (t1 - r.lastDecay) r.interval.duration
    dsimp only; omega
  · rw [ScoreRecord.decay_of_running h]
    have := Nat.lt_div_mul_add (TimeCode.duration_pos h) (a := t1 - r.lastDecay)
    dsimp only; omega
  · by_cases h : r.interval.value = 0
    · rw [ScoreRecord.decay_of_stopped h t1]
    · have hn := decay_intervals (TimeCode.duration_pos h) h1 h2
      have hagain : (r.decay t1).interval.value ≠ 0 := by rw [ScoreRecord.decay_of_running h]; exact h
      rw [ScoreRecord.decay_of_running hagain t2, ScoreRecord.decay_of_running h t1, ScoreRecord.decay_of_running h t2]
      dsimp only
      rw [← hn, Nat.add_mul, Nat.add_mul, Nat.sub_sub, Nat.add_assoc]

end Sys2Proof.Machine
end

section
/-! PROOFS. Images: the bytes of entries and of the packets that the part sends, and that they read back (R22, R168 to R170). -/

namespace Sys2Proof.Machine

open Sys2Proof

/-! ### Byte fields (R168) -/

/-- The bytes of a field spell it, up to what the field holds. -/
theorem leValue_leBytes (n v : Nat) : leValue (leBytes n v) = v % 256 ^ n := by
  induction n generalizing v with
  | zero => simp [leBytes, leValue, Nat.mod_one]
  | succ n ih =>
    have h8 : 2 ^ 8 = 256 := rfl
    rw [leBytes, leValue, ih, BitVec.toNat_ofNat, h8, Nat.pow_succ', Nat.mod_mul]

theorem leBytes_length (n v : Nat) : (leBytes n v).length = n := by
  induction n generalizing v with
  | zero => rfl
  | succ n ih => rw [leBytes, List.length_cons, ih]

/-- The field behind as many bytes as its offset says, whatever follows. -/
theorem fieldAt_append {pre field post : List Byte} {off n : Nat} (hp : pre.length = off) (hf : field.length = n) :
    fieldAt (pre ++ field ++ post) off n = leValue field := by
  unfold fieldAt
  rw [List.append_assoc, List.drop_append_of_le_length (by omega), List.drop_of_length_le (by omega), List.nil_append,
    List.take_append_of_le_length (by omega), List.take_of_length_le (by omega)]

/-! ### Entry images (R22, R148, R170) -/

/-- The bytes of an entry image before its three fields. -/
def Entry.head (index : Nat) (e : Entry) : List Byte :=
  [BitVec.ofNat 8 index,
   BitVec.ofNat 8 (flagByte [e.valid, e.pinned] + 4 * e.view.code + 16 * e.style.code),
   BitVec.ofNat 8 (flagByte [e.domains.app, e.domains.pay, e.domains.rad]),
   BitVec.ofNat 8 (flagByte [e.kinds.read, e.kinds.write, e.kinds.post]),
   e.target.byte, optByte e.meter, optByte e.unit]

theorem Entry.image_eq (index : Nat) (e : Entry) :
    e.image index = e.head index ++ leBytes 4 e.base.toNat ++ leBytes 4 e.size.toNat ++ leBytes 4 e.offset.toNat := rfl

/-- The fields of an entry image are base, size and offset (R170). -/
theorem Entry.image_fields (index : Nat) (e : Entry) :
    fieldAt (e.image index) 7 4 = e.base.toNat ∧ fieldAt (e.image index) 11 4 = e.size.toNat ∧
    fieldAt (e.image index) 15 4 = e.offset.toNat := by
  have hb := e.base.isLt
  have hs := e.size.isLt
  have ho := e.offset.isLt
  have h4 (v : Nat) (hv : v < 2 ^ 32) : leValue (leBytes 4 v) = v := by rw [leValue_leBytes]; omega
  refine ⟨?_, ?_, ?_⟩
  · rw [Entry.image_eq, List.append_assoc, fieldAt_append (off := 7) rfl (leBytes_length _ _), h4 _ hb]
  · rw [Entry.image_eq, fieldAt_append (by simp [Entry.head, leBytes_length]) (leBytes_length _ _), h4 _ (by omega)]
  · rw [Entry.image_eq, ← List.append_nil (_ ++ leBytes 4 e.offset.toNat),
      fieldAt_append (by simp [Entry.head, leBytes_length]) (leBytes_length _ _), h4 _ ho]

theorem portOfCode_byte (p : Port) : portOfCode p.byte = some p := by cases p <;> decide

theorem optIndexOf_optByte16 (m : Option (Fin 16)) : optIndexOf 16 (optByte m) = some m := by
  cases m with
  | none => rfl
  | some i => revert i; decide

theorem optIndexOf_optByte8 (u : Option (Fin 8)) : optIndexOf 8 (optByte u) = some u := by
  cases u with
  | none => rfl
  | some i => revert i; decide

/-- The flags byte of an image spells the flags, the view and the style (R170). -/
theorem flags_read (valid pinned : Bool) (view : View) (style : Style) :
    let b : Byte := BitVec.ofNat 8 (flagByte [valid, pinned] + 4 * view.code + 16 * style.code)
    b.getLsbD 0 = valid ∧ viewOfCode (b.toNat / 4 % 4) = view ∧ styleOfCode (b.toNat / 16 % 4) = some style := by
  cases valid <;> cases pinned <;> cases view <;> cases style <;> decide

/-- A byte of three flags spells them. -/
theorem flagByte_read3 (x y z : Bool) :
    let b : Byte := BitVec.ofNat 8 (flagByte [x, y, z])
    b.getLsbD 0 = x ∧ b.getLsbD 1 = y ∧ b.getLsbD 2 = z := by
  cases x <;> cases y <;> cases z <;> decide

/-- An address that is aligned is its own alignment. -/
theorem alignAddr_of_mod {x : Addr} (h : x.toNat % 16 = 0) : alignAddr x = x :=
  BitVec.eq_of_toNat_eq (by rw [alignAddr_toNat]; omega)

/-- A size that fits is stored as it is. -/
theorem limitSize_of_le {base : Addr} {size : Size} (h : base.toNat + sizeBytes size ≤ 2 ^ 32) : limitSize base size = size :=
  if_neg (Nat.not_lt.mpr h)

/-- A stored entry is read back from its own image. -/
theorem entryOfImage_image (index : Nat) {e : Entry} (h : e.Stored) : entryOfImage (e.image index) e.pinned = some e := by
  obtain ⟨hb, ho, hend⟩ := h
  obtain ⟨hbase, hsize, hoffset⟩ := Entry.image_fields index e
  obtain ⟨hvalid, hview, hstyle⟩ := flags_read e.valid e.pinned e.view e.style
  obtain ⟨happ, hpay, hrad⟩ := flagByte_read3 e.domains.app e.domains.pay e.domains.rad
  obtain ⟨hread, hwrite, hpost⟩ := flagByte_read3 e.kinds.read e.kinds.write e.kinds.post
  have h1 : byteAt (e.image index) 1 = BitVec.ofNat 8 (flagByte [e.valid, e.pinned] + 4 * e.view.code + 16 * e.style.code) := rfl
  have h2 : byteAt (e.image index) 2 = BitVec.ofNat 8 (flagByte [e.domains.app, e.domains.pay, e.domains.rad]) := rfl
  have h3 : byteAt (e.image index) 3 = BitVec.ofNat 8 (flagByte [e.kinds.read, e.kinds.write, e.kinds.post]) := rfl
  have h4 : byteAt (e.image index) 4 = e.target.byte := rfl
  have h5 : byteAt (e.image index) 5 = optByte e.meter := rfl
  have h6 : byteAt (e.image index) 6 = optByte e.unit := rfl
  simp only [entryOfImage, h1, h2, h3, h4, h5, h6, portOfCode_byte, optIndexOf_optByte16, optIndexOf_optByte8, hstyle, hvalid, hview,
    happ, hpay, hrad, hread, hwrite, hpost, hbase, hsize, hoffset, BitVec.ofNat_toNat, BitVec.setWidth_eq, alignAddr_of_mod hb,
    alignAddr_of_mod ho, limitSize_of_le hend]

/-- A four-byte field fits an address. -/
theorem fieldAt_lt (image : List Byte) (off n : Nat) : fieldAt image off n < 256 ^ n := by
  have h (l : List Byte) : leValue l < 256 ^ l.length := by
    induction l with
    | nil => simp [leValue]
    | cons b bs ih =>
      have := b.isLt
      rw [leValue, List.length_cons, Nat.pow_succ]
      omega
  refine (h _).trans_le (Nat.pow_le_pow_right (by omega) ?_)
  rw [List.length_take]
  exact Nat.min_le_left _ _

/-- Settles O21: a stored entry has aligned addresses and a size that fits, so that storing its image changes nothing. -/
theorem entryImageReadsBack : Obligations.EntryImageReadsBack := by
  refine ⟨fun i e he => ⟨?_, rfl, entryOfImage_image i.1 he⟩, fun image pinned e he => ?_⟩
  · simp [Entry.image_eq, Entry.head, leBytes_length]
  · obtain ⟨hpinned, hbase, hoffset, hsize⟩ := entryOfImage_some he
    have hb16 : e.base.toNat % 16 = 0 := hbase ▸ alignAddr_mod _
    have hfield (off : Nat) : (BitVec.ofNat 32 (fieldAt image off 4)).toNat = fieldAt image off 4 := by
      have := fieldAt_lt image off 4
      rw [BitVec.toNat_ofNat]; omega
    refine ⟨entryOfImage_stored he, hpinned, ?_, ?_, fun hle => ?_, fun hlt => ?_⟩
    · rw [hbase, alignAddr_toNat, hfield]
    · rw [hoffset, alignAddr_toNat, hfield]
    · rw [hsize]; exact limitSize_of_le hle
    · rcases limitSize_cases hb16 (BitVec.ofNat 28 (fieldAt image 11 4)) with ⟨hle, -⟩ | ⟨-, hend⟩
      · omega
      · rw [hsize]; exact hend

/-! ### Packets that leave (R168, R169) -/

/-- The four bytes of an address spell it. -/
theorem addrOfBytes_leBytes (a : Addr) :
    leBytes 4 a.toNat = [a.extractLsb' 0 8, a.extractLsb' 8 8, a.extractLsb' 16 8, a.extractLsb' 24 8] ∧
    addrOfBytes (a.extractLsb' 0 8) (a.extractLsb' 8 8) (a.extractLsb' 16 8) (a.extractLsb' 24 8) = a := by
  refine ⟨?_, ?_⟩
  · simp only [leBytes, List.cons.injEq, and_true]
    have hbyte (v k : Nat) (h : a.toNat / 2 ^ k = v) : BitVec.ofNat 8 v = a.extractLsb' k 8 :=
      BitVec.eq_of_toNat_eq (by rw [BitVec.toNat_ofNat, BitVec.extractLsb'_toNat, Nat.shiftRight_eq_div_pow, h])
    exact ⟨hbyte _ 0 (by omega), hbyte _ 8 (by omega), hbyte _ 16 (by omega), hbyte _ 24 (by omega)⟩
  · unfold addrOfBytes
    apply BitVec.eq_of_getLsbD_eq
    intro i hi
    simp only [BitVec.getLsbD_append, BitVec.getLsbD_extractLsb']
    by_cases h0 : i < 8
    · simp [h0]
    by_cases h1 : i < 16
    · simp [h0, show i - 8 < 8 by omega, show 8 + (i - 8) = i by omega]
    by_cases h2 : i < 24
    · simp [h0, show ¬ i - 8 < 8 by omega, show i - 8 - 8 < 8 by omega, show 16 + (i - 8 - 8) = i by omega]
    · simp [h0, show ¬ i - 8 < 8 by omega, show ¬ i - 8 - 8 < 8 by omega, show 24 + (i - 8 - 8 - 8) = i by omega, hi]
      intro h; omega

/-- A piece or scrub step is read back from its bytes. -/
theorem decode_request (tag : Fin 16) (kind : Kind) (addr : Addr) (code : Byte) (payload : List Byte) :
    decodePacket (OutPacket.request tag kind addr code payload).bytes =
      some (.request kind (Fin.ofNat 32 tag.1) code addr payload) := by
  obtain ⟨hbytes, haddr⟩ := addrOfBytes_leBytes addr
  have htag : tag5 (BitVec.ofNat 8 tag.1) = Fin.ofNat 32 tag.1 := by revert tag; decide
  have h : decodeRequest kind ([BitVec.ofNat 8 tag.1, code] ++ leBytes 4 addr.toNat ++ payload) =
      some (.request kind (Fin.ofNat 32 tag.1) code addr payload) := by
    rw [hbytes]
    simp only [List.cons_append, List.nil_append, decodeRequest, haddr, htag]
  cases kind <;> exact h

/-- A COMPLETION under a target tag is read back from its bytes. -/
theorem decode_completion (tag : Fin 16) (st : AnswerStatus) (data : List Byte) :
    decodePacket (OutPacket.completion (Fin.ofNat 32 tag.1) st data).bytes =
      some (.completion tag st.code (!data.isEmpty) (BitVec.ofNat 8 data.length) data) := by
  have htag : tag4 (BitVec.ofNat 8 (Fin.ofNat 32 tag.1).1) = tag := by revert tag; decide
  have hmark : (boolByte (!data.isEmpty)).getLsbD 0 = !data.isEmpty := by cases data.isEmpty <;> decide
  change some (Packet.completion (tag4 (BitVec.ofNat 8 (Fin.ofNat 32 tag.1).1)) st.code ((boolByte (!data.isEmpty)).getLsbD 0)
    (codeOfLength data.length) data) = _
  rw [htag, hmark]
  rfl

theorem decode_event (source code : Byte) (gap : Bool) (payload : List Byte) :
    decodePacket (OutPacket.event source code gap payload).bytes =
      some (.event source code gap (BitVec.ofNat 8 payload.length) payload) := by
  have hmark : (boolByte gap).getLsbD 0 = gap := by cases gap <;> decide
  change some (Packet.event source code ((boolByte gap).getLsbD 0) (BitVec.ofNat 8 payload.length) payload) = _
  rw [hmark]

/-- Settles O22: each packet's bytes are its kind code and fields, in the order in which they are read. -/
theorem sentPacketsReadBack : Obligations.SentPacketsReadBack := by
  refine ⟨decode_request, decode_event, decode_completion, fun tag st data => ?_, fun tag st result => rfl, fun kind => ?_⟩
  · cases data <;> cases st <;> rfl
  · cases kind <;> rfl

end Sys2Proof.Machine
end

section
/-! PROOFS. Where a record goes, and the places of the gate events (R120, R121, R125 to R131). -/

namespace Sys2Proof.Machine

open Sys2Proof

/-! ### Records (R125 to R129, R131) -/

/-- The scored domain that a domain is has that domain back. -/
theorem scoredOf_eq_some {d : Domain} {x : Scored} : scoredOf d = some x ↔ d = x.domain := by
  cases d <;> cases x <;> decide

/-- A fault goes to no own queue exactly where no mask of its domain holds its class (R125). -/
theorem delegatedTo_eq_none {s : State} {e : FaultEvent}
    (h : ∀ x : Scored, e.dom = some x.domain → (s.masks.get x).get e.cls.index = false) : delegatedTo s e = none := by
  unfold delegatedTo
  split
  · rename_i x hx
    obtain ⟨d, hd, hdx⟩ := Option.bind_eq_some_iff.mp hx
    rw [scoredOf_eq_some] at hdx
    subst hdx
    have : s.delegated x e.cls = false := h x hd
    rw [this]
    rfl
  · rfl

/-- A fault of a scored domain whose mask holds the class goes to its own queue (R125). -/
theorem delegatedTo_eq_some {s : State} {e : FaultEvent} {x : Scored} (hd : e.dom = some x.domain)
    (h : (s.masks.get x).get e.cls.index = true) : delegatedTo s e = some x := by
  have : s.delegated x e.cls = true := h
  simp only [delegatedTo, hd, Option.bind_some, scoredOf_domain, this, if_true]

theorem FaultQueue.put_full {α : Type} {n : Nat} {mk : Half → α} {q : FaultQueue α} (h : n ≤ q.records.length) :
    q.put n mk = { q with overrun := true } := if_neg (Nat.not_lt.mpr h)

theorem FaultQueue.put_room {α : Type} {n : Nat} {mk : Half → α} {q : FaultQueue α} (h : q.records.length < n) :
    q.put n mk = { q with records := q.records ++ [mk q.counter], counter := q.counter + 1 } := if_pos h

/-- A queue that held records before has its reader told already (R131). -/
theorem afterPlacing_of_filled {d : Domain} {n : Nat} {s : State} (h : n ≠ 0) : afterPlacing d n s = s :=
  if_neg (fun hc => h hc.1)

/-- The supervisor queue is read through P's port. -/
theorem afterPlacing_pay (l : List FullRecord) (s : State) :
    afterPlacing .pay l.length s =
      if l = [] ∧ s.supQ.armed = true ∧ (s.port .P).link = .up then
        handFaultNotice .pay { s with supQ := { s.supQ with armed := false } }
      else s := by
  simp only [afterPlacing, List.length_eq_zero_iff, noticeArmed, State.isUp_iff]
  rfl

/-- An own queue is read through its domain's port. -/
theorem afterPlacing_scored (x : Scored) (l : List ReducedRecord) (s : State) :
    afterPlacing x.domain l.length s =
      if l = [] ∧ (s.ownQ.get x).armed = true ∧ (s.port x.domain.port).link = .up then
        handFaultNotice x.domain { s with ownQ := s.ownQ.set x { s.ownQ.get x with armed := false } }
      else s := by
  simp only [afterPlacing, List.length_eq_zero_iff, State.isUp_iff]
  cases x <;> rfl

/-- The reduced record of a fault: the access classes are written as one (R128). -/
theorem reduced_eq (e : FaultEvent) (n : Half) (t : Nat) :
    e.reduced n t =
      ⟨n, t, if e.cls = .noWindow ∨ e.cls = .kind ∨ e.cls = .bounds ∨ e.cls = .custody then 0x10 else e.cls.code, e.srcPort, e.tag,
        e.kind, e.addr, e.len⟩ := by
  have hcode : e.cls.reducedCode =
      if e.cls = .noWindow ∨ e.cls = .kind ∨ e.cls = .bounds ∨ e.cls = .custody then 0x10 else e.cls.code := by
    cases e.cls <;> rfl
  rw [FaultEvent.reduced, hcode]

/-- Settles O23: the mask of the fault's domain decides the queue, and the queue's fill what it does. -/
theorem recordIsPlacedInItsQueue : Obligations.RecordIsPlacedInItsQueue := by
  refine ⟨fun e s h => ?_, fun e s h hmask => ⟨fun hfull => ?_, fun hroom => ?_⟩,
    fun e x s h hd hmask _ => ?_⟩
  · exact if_neg (Bool.eq_false_iff.mp h)
  · have hfill : queueFill s .pay ≠ 0 := fun h0 => by
      have : s.supQ.records.length = 0 := h0
      omega
    simp only [recordFault, h, if_true, delegatedTo_eq_none hmask, FaultQueue.put_full (n := Config.supervisorPlaces) hfull,
      afterPlacing_of_filled hfill]
    rfl
  · simp only [recordFault, h, if_true, delegatedTo_eq_none hmask, FaultQueue.put_room (n := Config.supervisorPlaces) hroom]
    exact afterPlacing_pay s.supQ.records _
  intro reduced
  refine ⟨fun hfull => ?_, fun hroom => ?_⟩
  · have hfill : queueFill s x.domain ≠ 0 := fun h0 => by
      have : (s.ownQ.get x).records.length = 0 := by cases x <;> exact h0
      omega
    simp only [recordFault, h, if_true, delegatedTo_eq_some hd hmask, FaultQueue.put_full (n := Config.ownPlaces) hfull,
      afterPlacing_of_filled hfill]
    rfl
  · have hfill : queueFill s x.domain = (s.ownQ.get x).records.length := by cases x <;> rfl
    simp only [recordFault, h, if_true, delegatedTo_eq_some hd hmask, FaultQueue.put_room (n := Config.ownPlaces) hroom,
      reduced_eq, hfill, afterPlacing_scored, State.setOwnQ_ownQ, PerScored.get_set_same, PerScored.set_set]
    rfl

/-! ### Gate events (R120, R121) -/

/-- Settles O24: the place of a gate event decides whether it is placed, absorbed or held. -/
theorem gateEventsHaveOnePlace : Obligations.GateEventsHaveOnePlace := by
  refine fun d s => ⟨fun hup => ⟨fun he => ?_, fun hw => ?_, fun he => ?_, fun hw => ?_⟩,
    fun hdown => ⟨?_, fun he => ?_, fun hh => ?_⟩⟩
  · rw [handFaultNotice_up hup]
    exact if_pos he
  · exact if_neg (fun h => by rw [hw] at h; cases h.2)
  · have hu : s.isUp d.port = true := (s.isUp_iff _).mpr hup
    simp only [handCustodyNotice, he, hu, if_true, placeOut_up (show (s.ports.get d.port).link = .up from hup)]
    rfl
  · simp only [handCustodyNotice, hw]
  · exact if_neg (fun h => hdown ((s.isUp_iff _).mp h.1))
  · have hu : s.isUp d.port = false := (s.isUp_eq_false _).mpr hdown
    simp only [handCustodyNotice, he, hu, Bool.false_eq_true, if_false]
    rfl
  · simp only [handCustodyNotice, hh]

/-! ### Resets of the part (R14, R167) -/

/-- Every part has its reset value (R14, R18, R21, R24, R41, R62, R64, R79, R94, R114, R124, R129, R135, R138, R151, R158, R167). -/
theorem resetPart_fresh (cause : ResetCause) (s : State) : (resetPart cause s).Fresh cause := by
  refine ⟨rfl, rfl, rfl, rfl, rfl, fun p => ?_, fun d => ?_, fun i => ?_, fun u => ?_, fun n => ?_, fun c => ?_, rfl, fun x => ?_⟩
  · cases p <;> rfl
  · cases d <;> exact ⟨rfl, rfl, rfl⟩
  · rw [resetPart_active, resetPart_pendingBank]
    exact ⟨rfl, rfl⟩
  · exact resetPart_unit cause s u
  · exact resetPart_meter cause s n
  · refine ⟨?_, replicate_get false c.index, replicate_get false c.index⟩
    change resetControls.get c.index = _
    cases c <;> rfl
  · cases x <;> exact ⟨rfl, rfl⟩

/-- Settles O26: the three causes lead to one reset of the part, and GATE_RESET has no reply. -/
theorem partResetLeavesResetValues : Obligations.PartResetLeavesResetValues := by
  refine ⟨fun s => ⟨_, rfl, resetPart_fresh _ s, rfl, rfl⟩, fun s => ⟨_, rfl, resetPart_fresh _ s, rfl, rfl⟩,
    fun m s s1 h hm => ⟨resetPart .command (withCommand .pay m 0x52 none s1), ?_, resetPart_fresh _ _, ?_, ?_⟩⟩
  · have := takeCommand_permitted (permitted := onlyP)
      (body := fun d t => match m.params with | [] => resetPart .command t | _ :: _ => badParameter d m t) h rfl
    rw [hm] at this
    simp only [exec, execGateReset, hm]
    exact congrArg _ this
  · obtain ⟨_, rfl⟩ := h.1.spec; rfl
  · obtain ⟨_, rfl⟩ := h.1.spec; rfl

end Sys2Proof.Machine
end

section
/-! PROOFS. The laws of the tracker, the units, the meters and the ports after a reset of the part (R14). -/

namespace Sys2Proof.Machine

open Sys2Proof

/-! ### After a reset -/

/-- Every port is DOWN with nothing in it (R11, R14). -/
theorem resetPart_port (cause : ResetCause) (s : State) (p : Port) :
    ∃ burst route, (resetPart cause s).ports.get p = PortState.reset burst route := by
  cases p <;> exact ⟨_, _, rfl⟩

theorem resetPart_init (cause : ResetCause) (s : State) (d : Domain) : (resetPart cause s).inits.get d = InitState.reset := by
  cases d <;> rfl

@[simp] theorem resetPart_requests (cause : ResetCause) (s : State) : (resetPart cause s).requests = [] := rfl

theorem State.MeterLaw.resetPart (cause : ResetCause) (s : State) : (resetPart cause s).MeterLaw := by
  intro n
  rw [resetPart_meter]
  exact ⟨by decide, by decide, by decide, by decide⟩

theorem State.CustodyLaw.resetPart (cause : ResetCause) (s : State) : (resetPart cause s).CustodyLaw := by
  intro u
  rw [resetPart_unit]
  exact ⟨Nat.zero_le _, Nat.zero_le _, fun k hk => (List.not_mem_nil hk).elim, fun _ _ => rfl, fun _ => rfl,
    fun _ => ⟨rfl, rfl⟩, fun h => (Bool.false_ne_true h).elim⟩

theorem State.CountLaw.resetPart (cause : ResetCause) (s : State) : (resetPart cause s).CountLaw := by
  refine ⟨List.nodup_nil, fun r hr => (List.not_mem_nil hr).elim, fun u => ?_⟩
  rw [resetPart_unit]
  rfl

theorem State.HolderLaw.resetPart (cause : ResetCause) (s : State) : (resetPart cause s).HolderLaw := by
  intro u h
  rw [resetPart_unit]
  exact ⟨fun hs => (by cases hs), fun t hs => (by cases hs)⟩

theorem State.EventLaw.resetPart (cause : ResetCause) (s : State) : (resetPart cause s).EventLaw := by
  intro d
  rw [resetPart_init]
  exact Nat.zero_le _

theorem State.TagLaw.resetPart (cause : ResetCause) (s : State) : (resetPart cause s).TagLaw := by
  intro d
  rw [resetPart_init]
  exact ⟨List.nodup_nil, List.nodup_nil⟩

theorem State.IngressLaw.resetPart (cause : ResetCause) (s : State) : (resetPart cause s).IngressLaw := by
  intro p
  obtain ⟨_, _, h⟩ := resetPart_port cause s p
  rw [h]
  exact ⟨Nat.zero_le _, fun _ => rfl⟩

theorem State.ParkedLaw.resetPart (cause : ResetCause) (s : State) : (resetPart cause s).ParkedLaw := by
  intro u k hk
  rw [resetPart_unit] at hk
  exact (List.not_mem_nil hk).elim

theorem State.WaitingLaw.resetPart (cause : ResetCause) (s : State) : (resetPart cause s).WaitingLaw := by
  refine ⟨fun n => ?_, fun r hr => (List.not_mem_nil hr).elim, fun u k hk => ?_⟩
  · rw [resetPart_meter]
    exact ⟨List.nodup_nil, fun id hid => (List.not_mem_nil hid).elim⟩
  · rw [resetPart_unit] at hk
    exact (List.not_mem_nil hk).elim

theorem State.TargetLaw.resetPart (cause : ResetCause) (s : State) : (resetPart cause s).TargetLaw := by
  refine ⟨fun p d => ?_, fun r hr => (List.not_mem_nil hr).elim, fun p t ref h => ?_, fun p => ?_⟩
  all_goals obtain ⟨_, _, hp⟩ := resetPart_port cause s p
  · rw [hp]
    cases d <;> exact ⟨List.nodup_nil, fun ref href => (List.not_mem_nil href).elim⟩
  · rw [hp, PortState.reset, replicate_get] at h
    cases h
  · rw [hp]
    exact ⟨List.nodup_nil, fun t ht => (List.not_mem_nil ht).elim⟩

/-- No tag is owed after a reset. -/
theorem resetPart_tagsOwed (cause : ResetCause) (s : State) (d : Domain) : (resetPart cause s).tagsOwed d = [] := by
  have hparked : (resetPart cause s).units.toList.flatMap (fun v => v.parked) = [] := by
    change (Vector.replicate 8 CustodyUnit.reset).toList.flatMap (fun v => v.parked) = []
    rw [List.flatMap_eq_nil_iff]
    intro v hv
    rw [Vector.toList_replicate] at hv
    rw [List.eq_of_mem_replicate hv]
    rfl
  unfold State.tagsOwed
  rw [hparked]
  cases d <;> rfl

theorem State.OutboundLaw.resetPart (cause : ResetCause) (s : State) : (resetPart cause s).OutboundLaw := by
  refine ⟨fun p _ => ?_, fun p _ pkt hpkt => ?_, fun d => ?_⟩
  · obtain ⟨_, _, hp⟩ := resetPart_port cause s p
    rw [hp]; rfl
  · obtain ⟨_, _, hp⟩ := resetPart_port cause s p
    rw [hp] at hpkt
    exact (List.not_mem_nil hpkt).elim
  · obtain ⟨_, _, hp⟩ := resetPart_port cause s d.port
    rw [resetPart_tagsOwed, resetPart_init, hp]
    exact ⟨rfl, rfl, rfl, List.nodup_nil, fun t ht => (List.not_mem_nil ht).elim, List.nodup_nil,
      fun t ht => (List.not_mem_nil ht).elim⟩

theorem State.PlacesLaw.resetPart (cause : ResetCause) (s : State) : (resetPart cause s).PlacesLaw := by
  refine ⟨fun p => ?_, fun d => ?_⟩
  · obtain ⟨_, _, hp⟩ := resetPart_port cause s p
    rw [hp]
    exact ⟨Nat.zero_le _, fun _ => Nat.zero_le _⟩
  · obtain ⟨_, _, hp⟩ := resetPart_port cause s d.port
    rw [hp]
    exact ⟨Nat.zero_le _, Nat.zero_le _⟩

/-- Settles O4: the state after power-on is one after a reset of the part. -/
theorem resetStateKeepsTheLaws : Obligations.ResetStateKeepsTheLaws :=
  have h {P : State → Prop} (hp : ∀ cause s, P (resetPart cause s)) : P State.reset := hp .powerOn State.reset
  ⟨h State.TimeLaw.resetPart, h State.QueueLaw.resetPart, h State.ScoreLaw.resetPart, h State.ControlLaw.resetPart,
    h State.MeterLaw.resetPart, h State.EntryLaw.resetPart, h State.PinLaw.resetPart, h State.GapLaw.resetPart,
    h State.ActiveLaw.resetPart, h State.DefinitionLaw.resetPart, h State.CustodyLaw.resetPart, h State.CountLaw.resetPart,
    h State.HolderLaw.resetPart, h State.EventLaw.resetPart, h State.TagLaw.resetPart, h State.IngressLaw.resetPart,
    h State.WaitingLaw.resetPart, h State.ParkedLaw.resetPart, h State.TargetLaw.resetPart, h State.OutboundLaw.resetPart,
    h State.PlacesLaw.resetPart⟩

end Sys2Proof.Machine
end

section
/-! PROOFS. The commands of the management engine on flags, controls, scores and banks (R134 to R158, R164, R175). -/

namespace Sys2Proof.Machine

open Sys2Proof

/-! ### Commands of P -/

/-- A command that P alone may issue goes to its own part. -/
theorem takeCommand_P {code : Byte} {m : MgmtPacket} {body : Domain → State → State} {s s1 : State}
    (h : CommandArrives .pay code m s s1) :
    takeCommand .P code m onlyP body s = body .pay (withCommand .pay m code none s1) := takeCommand_permitted (d := .pay) h rfl

/-- A command just taken leaves its port UP, whatever its own part changes beside the ports. -/
theorem CommandArrives.up {d : Domain} {code : Byte} {m : MgmtPacket} {s s1 t : State} (h : CommandArrives d code m s s1)
    (ht : t.ports = s1.ports) : (t.ports.get d.port).link = .up := by rw [ht]; exact h.1.up

/-- The reply to a command just taken, placed after changes beside the ports. -/
theorem reply_of_ports {d : Domain} {code : Byte} {m : MgmtPacket} {s s1 t : State} (h : CommandArrives d code m s s1)
    (ht : t.ports = s1.ports) (st : ReplyStatus) (res : List Byte) :
    reply d m.tag st res t = withOut d.port [.reply m.tag st res] t := reply_up (h.up ht)

/-! ### Codes (R169, R175) -/

@[simp] theorem domainOfCode_code (d : Domain) : domainOfCode d.code = some d := by cases d <;> rfl

@[simp] theorem classOfCode_code (c : FaultClass) : classOfCode c.code = some c := by cases c <;> rfl

@[simp] theorem domainStyleOfCode_code (v : DomainStyle) : domainStyleOfCode v.code = some v := by cases v <;> rfl

@[simp] theorem scoredOfCode_code (x : Scored) : scoredOfCode x.domain.code = some x := by cases x <;> rfl

@[simp] theorem portOfCode_code (p : Port) : portOfCode p.byte = some p := portOfCode_byte p

/-- An index below `n` is read from its byte. -/
theorem indexOf_ofNat {n : Nat} (hn : n ≤ 256) (i : Fin n) : indexOf n (BitVec.ofNat 8 i.1) = some i := by
  have hi := i.isLt
  have h : (BitVec.ofNat 8 i.1).toNat = i.1 := by rw [BitVec.toNat_ofNat]; omega
  unfold indexOf
  rw [dif_pos (by omega)]
  exact congrArg some (Fin.ext h)

/-- The time code stored for a field: the scales 4 to 7 become 3 (R16). -/
theorem timeCodeOfField_eq (v : Nat) : timeCodeOfField v = ⟨Fin.ofNat 1024 v, Fin.ofNat 4 (min 3 (v / 1024 % 8))⟩ := by
  have h : ∀ k : Fin 8, (if k.1 = 0 then 0 else if k.1 = 1 then 1 else if k.1 = 2 then 2 else 3 : Fin 4) = Fin.ofNat 4 (min 3 k.1) := by
    decide
  exact congrArg (TimeCode.mk _) (h ⟨v / 1024 % 8, Nat.mod_lt _ (by decide)⟩)

/-- A field that fits its bytes is read back. -/
theorem leValue_leBytes_of_lt {n v : Nat} (h : v < 256 ^ n) : leValue (leBytes n v) = v := by
  rw [leValue_leBytes, Nat.mod_eq_of_lt h]

theorem leValue_half (v : Half) : leValue (leBytes 2 v.toNat) = v.toNat := leValue_leBytes_of_lt v.isLt

/-! ### Flags and controls (R124, R125, R134 to R136, R164) -/

/-- A domain's own flags may be asked for on its port, and any on P's (R159). -/
theorem ownDomain_code {d x : Domain} {m : MgmtPacket} (h : d = .pay ∨ d = x) (hm : m.params = [x.code]) :
    ownDomain m d = true := by
  unfold ownDomain
  rcases h with rfl | rfl
  · rfl
  · cases d <;> simp [hm]

/-- The flags byte is the sum of the bits of the flags (R175). -/
theorem Sticky.byte_eq (f : Sticky) :
    f.byte = BitVec.ofNat 8 ((if f.denied then 1 else 0) + (if f.masked then 2 else 0) + (if f.throttled then 4 else 0) +
      (if f.clamped then 8 else 0) + (if f.cut then 16 else 0) + (if f.timeout then 32 else 0)) := by
  obtain ⟨a, b, c, d, e, g⟩ := f
  revert a b c d e g
  decide

/-- FAULT_CONTROL reports a class by its control and masks (R134, R175). -/
theorem controlResult_eq (s : State) (c : FaultClass) {v : FaultControl} {app rad : Bool} (hv : s.controls.get c.index = v)
    (happ : s.masks.app.get c.index = app) (hrad : s.masks.rad.get c.index = rad) :
    controlResult s c =
      [c.code, BitVec.ofNat 8 ((if v.record then 1 else 0) + (if app then 2 else 0) + (if rad then 4 else 0)), v.weight] := by
  have hb (x y z : Bool) : BitVec.ofNat 8 (flagByte [x, y, z]) =
      BitVec.ofNat 8 ((if x then 1 else 0) + (if y then 2 else 0) + (if z then 4 else 0)) := by
    cases x <;> cases y <;> cases z <;> rfl
  subst hv happ hrad
  exact congrArg (fun b => [c.code, b, (s.controls.get c.index).weight]) (hb _ _ _)

/-- Settles O53: each command reads or writes one record, beside the ports, and reports it. -/
theorem flagAndControlCommands : Obligations.FlagAndControlCommands := by
  refine ⟨fun d x m s s1 h hd hm => ?_, fun c m s s1 h => ?_, fun x style fill m s s1 h hm => ?_⟩
  · intro f bit
    have hf : s1.flags = s.flags := by obtain ⟨_, rfl⟩ := h.1.spec; rfl
    simp only [exec, execFlagsTake, takeCommand_permitted h (ownDomain_code hd hm), hm, domainOfCode_code,
      reply_of_ports h (t := (withCommand d m 0x04 none s1).modFlags x _) rfl, Sticky.byte_eq]
    simp only [f, bit, ← hf]
    rfl
  · intro report
    have hc : s1.controls = s.controls := by obtain ⟨_, rfl⟩ := h.1.spec; rfl
    have hk : s1.masks = s.masks := by obtain ⟨_, rfl⟩ := h.1.spec; rfl
    refine ⟨fun hm => ?_, fun flags weight hm => ?_⟩
    · simp only [exec, execFaultControl, takeCommand_P h, hm, classOfCode_code,
        controlResult_eq (withCommand .pay m 0x40 none s1) c rfl rfl rfl, ← hc, ← hk]
      exact congrArg _ (reply_answered h)
    · intro v app rad
      obtain ⟨hv, happ, hrad⟩ := storeControl_get c c flags weight (withCommand .pay m 0x40 none s1)
      simp only [if_true] at hv happ hrad
      simp only [exec, execFaultControl, takeCommand_P h, hm, classOfCode_code, controlResult_eq _ c hv happ hrad,
        reply_of_ports h (t := storeControl c flags weight (withCommand .pay m 0x40 none s1)) rfl]
      simp only [report, v, app, rad, ← hc, ← hk, Bool.and_comm c.delegable]
      rfl
  · have hx : s1.domains = s.domains := by obtain ⟨_, rfl⟩ := h.1.spec; rfl
    simp only [exec, execDomainSet, takeCommand_P h, hm, domainOfCode_code, domainStyleOfCode_code,
      reply_of_ports h (t := (withCommand .pay m 0x44 none s1).modDomain x _) rfl, ← hx]
    rfl

/-! ### Scores (R138, R139, R142 to R145) -/

/-- What SCORE_READ leaves of a record (R143). -/
theorem ScoreRecord.readNow_eq (r : ScoreRecord) (t : Nat) :
    r.readNow t = { r.decay t with
      armed := if (r.decay t).advisory ≠ 0 ∧ (r.decay t).score < (r.decay t).advisory.toNat then true else (r.decay t).armed } := by
  unfold ScoreRecord.readNow
  dsimp only
  split <;> rfl

/-- The parameters of SCORE_CONTROL, field by field (R175). -/
theorem scoreControl_fields {x : Scored} {advisory quarantine : Half} {amount : Byte} {interval : Fin 65536} {ps : List Byte}
    (h : ps = [x.domain.code] ++ leBytes 2 advisory.toNat ++ leBytes 2 quarantine.toNat ++ [amount] ++ leBytes 2 interval.1) :
    ps.length = 8 ∧ byteAt ps 0 = x.domain.code ∧ BitVec.ofNat 16 (fieldAt ps 1 2) = advisory ∧
    BitVec.ofNat 16 (fieldAt ps 3 2) = quarantine ∧ byteAt ps 5 = amount ∧ fieldAt ps 6 2 = interval.1 := by
  subst h
  refine ⟨rfl, rfl, ?_, ?_, rfl, ?_⟩
  · exact (congrArg (BitVec.ofNat 16) (leValue_half advisory)).trans (BitVec.ofNat_toNat _ _)
  · exact (congrArg (BitVec.ofNat 16) (leValue_half quarantine)).trans (BitVec.ofNat_toNat _ _)
  · exact leValue_leBytes_of_lt (n := 2) interval.isLt

/-- Settles O54: a record decays under its old values, takes the new ones, and is reported as stored. -/
theorem scoreCommands : Obligations.ScoreCommands := by
  intro x m s s1 r mode times
  have hmode (v : Mode) : v.code = mode v := by cases v <;> rfl
  have hbool (b : Bool) : boolByte b = if b then 1 else 0 := rfl
  refine ⟨fun d h hd hm ht hl => ?_, fun advisory quarantine amount interval h hm => ?_, fun h hm => ?_, fun h hm => ?_⟩
  · intro armed
    have hs : s1.scores = s.scores := by obtain ⟨_, rfl⟩ := h.1.spec; rfl
    have hg : s1.gateTime = s.gateTime := h.1.gateTime
    have hx : s1.domains = s.domains := by obtain ⟨_, rfl⟩ := h.1.spec; rfl
    have hr : (s1.scores.get x).readNow s1.gateTime = { r with armed := armed } := by
      rw [ScoreRecord.readNow_eq, hs, hg]
    have hread : ((withCommand d m 0x05 none s1).modScore x (fun v => v.readNow (withCommand d m 0x05 none s1).gateTime)) =
        { withCommand d m 0x05 none s1 with scores := s.scores.set x { r with armed := armed } } := by
      rw [← hr, ← hs]; rfl
    simp only [exec, execScoreRead, takeCommand_permitted h (ownDomain_code hd hm), hm, scoredOfCode_code, hread,
      reply_of_ports h (t := { withCommand d m 0x05 none s1 with scores := _ }) rfl, scoreReadResult, PerScored.get_set_same]
    have hlt : timeBytes r.lastDecay = leBytes 6 r.lastDecay := timeBytes_of_le hl
    have hgt : timeBytes s.gateTime = leBytes 6 s.gateTime := timeBytes_of_le ht
    have h1 : (State.domain { withCommand d m 0x05 none s1 with scores := s.scores.set x { r with armed := armed } } x.domain).mode =
      (s.domains.get x.domain).mode := by rw [← hx]; rfl
    have h2 : timeBytes (withCommand d m 0x05 none s1).gateTime = leBytes 6 s.gateTime := hgt ▸ congrArg timeBytes hg
    rw [h1, h2, hlt, hmode, hbool]
    rfl
  · intro v
    obtain ⟨hlen, hcode, hadv, hquar, hamount, hint⟩ := scoreControl_fields hm
    have hs : s1.scores = s.scores := by obtain ⟨_, rfl⟩ := h.1.spec; rfl
    have hg : s1.gateTime = s.gateTime := h.1.gateTime
    have hx : s1.domains = s.domains := by obtain ⟨_, rfl⟩ := h.1.spec; rfl
    have hv : (s1.scores.get x).configure s1.gateTime advisory quarantine amount (timeCodeOfField interval.1) = v := by
      rw [hs, hg, timeCodeOfField_eq]; rfl
    have hstore : (withCommand .pay m 0x41 none s1).modScore x (fun r => r.configure (withCommand .pay m 0x41 none s1).gateTime
        advisory quarantine amount (timeCodeOfField interval.1)) =
        { withCommand .pay m 0x41 none s1 with scores := s.scores.set x v } := by
      rw [← hv, ← hs]; rfl
    simp only [exec, execScoreControl, takeCommand_P h, hlen, if_true, hcode, scoredOfCode_code, hadv, hquar, hamount, hint, hstore,
      reply_of_ports h (t := { withCommand .pay m 0x41 none s1 with scores := _ }) rfl, scoreControlResult, PerScored.get_set_same]
    have h1 : (State.domain { withCommand .pay m 0x41 none s1 with scores := s.scores.set x v } x.domain).mode =
      (s.domains.get x.domain).mode := by rw [← hx]; rfl
    rw [h1, hmode]
    rfl
  · have hs : s1.scores = s.scores := by obtain ⟨_, rfl⟩ := h.1.spec; rfl
    have hg : s1.gateTime = s.gateTime := h.1.gateTime
    have hx : s1.domains = s.domains := by obtain ⟨_, rfl⟩ := h.1.spec; rfl
    have hres : modeResult (pardonDomain x (withCommand .pay m 0x42 none s1)) x = [x.domain.code, 0, 0, 0] := by
      simp [modeResult, pardonDomain, State.domain, Mode.code, leBytes]
    simp only [exec, execPardon, takeCommand_P h, hm, scoredOfCode_code, hres,
      reply_of_ports h (t := pardonDomain x (withCommand .pay m 0x42 none s1)) rfl, ← hs, ← hg, ← hx]
    rfl
  · have hs : s1.scores = s.scores := by obtain ⟨_, rfl⟩ := h.1.spec; rfl
    have hx : s1.domains = s.domains := by obtain ⟨_, rfl⟩ := h.1.spec; rfl
    have hres : modeResult (quarantineDomain x (withCommand .pay m 0x43 none s1)) x =
        [x.domain.code, 1] ++ leBytes 2 (s1.scores.get x).score := by
      simp [modeResult, quarantineDomain, State.domain, Mode.code, withCommand]
    simp only [exec, execQuarantine, takeCommand_P h, hm, scoredOfCode_code, hres,
      reply_of_ports h (t := quarantineDomain x (withCommand .pay m 0x43 none s1)) rfl, ← hs, ← hx]
    rfl

/-! ### Banks (R20, R147 to R150, R157) -/

/-- An abort of the validation leaves the links. -/
theorem abortCommit_link (s : State) (p : Port) : ((abortCommit s).ports.get p).link = (s.ports.get p).link := by
  unfold abortCommit
  split
  · exact (Quiet.endCommand _ _ _ (s.setCommit none)).link p
  · rfl

/-- The reply of a command that has aborted a validation, placed after changes beside the ports. -/
theorem reply_of_aborted {d : Domain} {code : Byte} {m : MgmtPacket} {s s1 t : State} (h : CommandArrives d code m s s1)
    (ht : t.ports = (abortCommit (withCommand d m code none s1)).ports) (st : ReplyStatus) (res : List Byte) :
    reply d m.tag st res t = withOut d.port [.reply m.tag st res] t :=
  reply_up (by rw [ht, abortCommit_link]; exact h.1.up)

/-- The pinned flag is no part of what an image decides. -/
theorem entryOfImage_pinned {image : List Byte} {p : Bool} {e : Entry} (h : entryOfImage image p = some e) (q : Bool) :
    entryOfImage image q = some { e with pinned := q } := by
  unfold entryOfImage at h ⊢
  dsimp only at h ⊢
  split at h
  · rw [← Option.some.inj h]
  · cases h

/-- Settles O55: each command on a bank reads or stores one bank, and reports. -/
theorem bankCommands : Obligations.BankCommands := by
  intro m s s1
  refine ⟨fun h hm => ?_, fun i e h he hm => ?_, fun i h => ⟨fun hm => ?_, fun hm => ?_⟩, fun i h hm => ?_⟩
  · have ha : s1.active = s.active := by obtain ⟨_, rfl⟩ := h.1.spec; rfl
    have hbank : (abortCommit (withCommand .pay m 0x10 none s1)).active = s.active := (abortCommit_active _).trans ha
    simp only [exec, execTableClone, takeCommand_P h, hm,
      reply_of_aborted h (t := (abortCommit (withCommand .pay m 0x10 none s1)).setPendingBank
        (abortCommit (withCommand .pay m 0x10 none s1)).active) rfl]
    exact congrArg (fun b => Host.Outcome.next (withOut .P [.reply m.tag .ok []]
      ((abortCommit (withCommand .pay m 0x10 none s1)).setPendingBank b))) hbank
  · intro stored
    have hp : s1.pendingBank = s.pendingBank := by obtain ⟨_, rfl⟩ := h.1.spec; rfl
    have hlen : (e.image i.1).length = 19 := by simp [Entry.image_eq, Entry.head, leBytes_length]
    have hi : indexOf 96 (byteAt (e.image i.1) 0) = some i := indexOf_ofNat (by decide) i
    have hstore : entryOfImage (e.image i.1) ((withCommand .pay m 0x11 none s1).pendingBank.get i).pinned = some stored := by
      rw [show (withCommand .pay m 0x11 none s1).pendingBank = s.pendingBank from hp]
      exact entryOfImage_pinned (entryOfImage_image i.1 he) _
    have hbank : setAt (abortCommit (withCommand .pay m 0x11 none s1)).pendingBank i stored = setAt s.pendingBank i stored :=
      congrArg (setAt · i stored) ((abortCommit_pendingBank _).trans hp)
    simp only [exec, execEntryWrite, takeCommand_P h, hm, hlen, if_true, hi, hstore,
      reply_of_aborted h (t := (abortCommit (withCommand .pay m 0x11 none s1)).setPendingBank
        (setAt (abortCommit (withCommand .pay m 0x11 none s1)).pendingBank i stored)) rfl]
    exact congrArg (fun b => Host.Outcome.next (withOut .P [.reply m.tag .ok (stored.image i.1)]
      ((abortCommit (withCommand .pay m 0x11 none s1)).setPendingBank b))) hbank
  · have ha : s1.active = s.active := by obtain ⟨_, rfl⟩ := h.1.spec; rfl
    have hg : s1.generation = s.generation := by obtain ⟨_, rfl⟩ := h.1.spec; rfl
    simp only [exec, execEntryRead, takeCommand_P h, hm, bankOf, if_true, indexOf_ofNat (show 96 ≤ 256 by decide) i,
      reply_answered h, ← ha, ← hg]
    rfl
  · have hp : s1.pendingBank = s.pendingBank := by obtain ⟨_, rfl⟩ := h.1.spec; rfl
    have hg : s1.generation = s.generation := by obtain ⟨_, rfl⟩ := h.1.spec; rfl
    simp only [exec, execEntryRead, takeCommand_P h, hm, bankOf, indexOf_ofNat (show 96 ≤ 256 by decide) i,
      reply_answered h, ← hp, ← hg]
    rfl
  · intro pinned
    have ha : s1.active = s.active := by obtain ⟨_, rfl⟩ := h.1.spec; rfl
    have hc : (withCommand .pay m 0x14 none s1).commit = s.commit := by obtain ⟨_, rfl⟩ := h.1.spec; rfl
    refine ⟨fun hnone => ?_, fun hsome => ?_⟩
    · have hpin : (pinEntry i (withCommand .pay m 0x14 none s1)).active.get i = pinned := by
        rw [pinEntry_get]
        simp [pinned, ← ha, withCommand]
      simp only [exec, execEntryPin, takeCommand_P h, hm, indexOf_ofNat (show 96 ≤ 256 by decide) i, hc, hnone, Option.isSome_none,
        Bool.false_eq_true, if_false, hpin, reply_of_ports h (t := pinEntry i (withCommand .pay m 0x14 none s1)) rfl]
      simp only [pinned, ← ha]
      rfl
    · simp only [exec, execEntryPin, takeCommand_P h, hm, indexOf_ofNat (show 96 ≤ 256 by decide) i, hc,
        Option.isSome_iff_ne_none.mpr hsome, if_true, reply_answered h]

/-! ### The end of a long command (R157, R158, R161) -/

/-- The member that a block carries is found where no other member is carried by it. -/
theorem find_carried {b : Carrier} {before after : List Command} {c : Command} (hc : c.carrier = some b)
    (ho : ∀ x ∈ before ++ after, x.carrier ≠ some b) :
    (before ++ c :: after).find? (fun x => decide (x.carrier = some b)) = some c := by
  rw [List.find?_append, List.find?_eq_none.mpr (fun x hx => by simpa using ho x (List.mem_append_left _ hx)), Option.none_or,
    List.find?_cons_of_pos (by simpa using hc)]

/-- Settles O50: the member of the block is the one that changes, and the others stay. -/
theorem longCommandsEndWithTheirReply : Obligations.LongCommandsEndWithTheirReply := by
  intro b st result s v
  refine ⟨fun hnone => ?_, fun before after c hv hc ho => ⟨fun hd => ?_, fun hd hup => ?_⟩, fun hnone => ?_, fun hsome => ?_⟩
  · have : v.commands.find? (fun x => decide (x.carrier = some b)) = none :=
      List.find?_eq_none.mpr (fun x hx => by simpa using hnone x hx)
    simp only [endCommand, State.init]
    rw [this]
  · have hkeep : v.commands.filter (fun y => decide (y.carrier ≠ some b)) = before ++ after := by
      rw [hv, List.filter_append, List.filter_cons_of_neg (by simpa using hc), ← List.filter_append]
      exact List.filter_eq_self.mpr (fun x hx => by simpa using ho x hx)
    simp only [endCommand, State.init]
    rw [show v.commands.find? (fun x => decide (x.carrier = some b)) = some c from hv ▸ find_carried hc ho]
    simp only [hd, if_true, State.modInit]
    rw [hkeep]
  · have hmap : v.commands.map (fun y => if y.carrier = some b then { y with carrier := none } else y) =
        before ++ { c with discard := false, carrier := none } :: after := by
      have hid (l : List Command) (hl : ∀ x ∈ l, x.carrier ≠ some b) :
          l.map (fun y => if y.carrier = some b then { y with carrier := none } else y) = l :=
        (List.map_congr_left (fun x hx => if_neg (hl x hx))).trans (List.map_id _)
      rw [hv, List.map_append, List.map_cons, hid _ (fun x hx => ho x (List.mem_append_left _ hx)),
        hid _ (fun x hx => ho x (List.mem_append_right _ hx)), if_pos hc, ← hd]
    simp only [endCommand, State.init]
    rw [show v.commands.find? (fun x => decide (x.carrier = some b)) = some c from hv ▸ find_carried hc ho]
    simp only [hd, Bool.false_eq_true, if_false, State.modInit]
    rw [hmap]
    exact reply_up (d := .pay)
      (s := s.modInit .pay fun _ => { v with commands := before ++ { c with discard := false, carrier := none } :: after }) hup
  · simp only [abortCommit, hnone, Option.isSome_none, Bool.false_eq_true, if_false]
  · simp only [abortCommit, Option.isSome_iff_ne_none.mpr hsome, if_true]
    rfl

end Sys2Proof.Machine
end

section
/-! PROOFS. The commands of the management engine on ports and meters (R18, R19, R79 to R92, R165). -/

namespace Sys2Proof.Machine

open Sys2Proof

/-- What an abort of the validation touches: queues, commands, the commit. -/
theorem abortCommit_eq (s : State) :
    ∃ ports inits commit, abortCommit s = { s with ports := ports, inits := inits, commit := commit } := by
  unfold abortCommit
  split
  · unfold endCommand
    split
    · exact ⟨_, _, _, rfl⟩
    · split
      · exact ⟨_, _, _, rfl⟩
      · unfold reply placeOut
        split <;> exact ⟨_, _, _, rfl⟩
  · exact ⟨_, _, _, rfl⟩

theorem abortCommit_meters (s : State) : (abortCommit s).meters = s.meters := by obtain ⟨_, _, _, h⟩ := abortCommit_eq s; rw [h]

theorem abortCommit_gateTime (s : State) : (abortCommit s).gateTime = s.gateTime := (abortCommit_reads s).2.2.2

/-- An abort of the validation leaves the configuration of every port. -/
theorem abortCommit_config (s : State) (p : Port) : ((abortCommit s).ports.get p).config = (s.ports.get p).config := by
  unfold abortCommit
  split
  · exact (Quiet.endCommand _ _ _ (s.setCommit none)).config p
  · rfl

/-! ### PORT_SET (R165) -/

/-- The route that PORT_SET stores is the selected one, in its code, or the old one. -/
theorem selectedRoute_stored {q : Port} {selected : Bool} {code : Byte} {r old : Option Domain} (hold : selected = false → r = old)
    (hnew : selected = true → code = routeCode r ∧ (r = none ∨ q = .K ∨ q = .D ∨ q = .C)) :
    selectedRoute q selected code old = some r := by
  unfold selectedRoute
  cases selected with
  | false => simp [hold rfl]
  | true =>
    obtain ⟨rfl, hq⟩ := hnew rfl
    cases r with
    | none => simp [routeOfCode, routeCode]
    | some d =>
      have hcode : routeOfCode (routeCode (some d)) = some (some d) := by cases d <;> rfl
      have hsends : q.sendsEvents = true := by
        rcases hq with h | rfl | rfl | rfl
        · cases h
        all_goals rfl
      simp [hcode, hsends]

/-- A code above 3, or a route for a port that sends no events, is refused. -/
theorem selectedRoute_refused {q : Port} {code : Byte} (old : Option Domain)
    (h : 3 < code.toNat ∨ (code ≠ 3 ∧ q.sendsEvents = false)) : selectedRoute q true code old = none := by
  have hne : code ≠ 3 := by rintro rfl; rcases h with h | h <;> simp_all
  unfold selectedRoute routeOfCode
  rw [if_pos rfl, if_neg hne]
  cases hd : domainOfCode code with
  | none => rfl
  | some d =>
    have hle : ¬ 3 < code.toNat := by
      unfold domainOfCode at hd
      split_ifs at hd with h0 h1 h2 <;> (subst_vars; decide)
    simp [(h.resolve_left hle).2]

/-- The parameters of PORT_SET, field by field (R175). -/
theorem portSet_fields {q : Port} {sel route : Byte} {burst deadline span : BitVec 16} {capacity : BitVec 32} {ps : List Byte}
    (h : ps = [q.byte, sel] ++ leBytes 2 burst.toNat ++ leBytes 2 deadline.toNat ++ leBytes 2 span.toNat
      ++ leBytes 4 capacity.toNat ++ [route]) :
    ps.length = 13 ∧ byteAt ps 0 = q.byte ∧ byteAt ps 1 = sel ∧ fieldAt ps 2 2 = burst.toNat ∧ fieldAt ps 4 2 = deadline.toNat ∧
    fieldAt ps 6 2 = span.toNat ∧ fieldAt ps 8 4 = capacity.toNat ∧ byteAt ps 12 = route := by
  subst h
  exact ⟨rfl, rfl, rfl, leValue_half burst, leValue_half deadline, leValue_half span,
    leValue_leBytes_of_lt (n := 4) capacity.isLt, rfl⟩

/-- Settles O60: the selected fields are stored one by one, after the abort they call for. -/
theorem portSetStoresTheSelectedFields : Obligations.PortSetStoresTheSelectedFields := by
  intro q sel burst deadline span capacity route m s s1 h hm old
  obtain ⟨hlen, hq, hsel, hburst, hdead, hspan, hcap, hroute⟩ := portSet_fields hm
  have hconf : ((withCommand .pay m 0x50 none s1).ports.get q).config = old := by
    obtain ⟨_, rfl⟩ := h.1.spec
    by_cases e : q = .P
    · subst e; simp [withCommand, old, Domain.port]
    · simp [withCommand, old, Domain.port, PerPort.get_set_other _ _ e]
  refine ⟨fun r hold hnew => ?_, fun hs hbad => ?_⟩
  · intro new s2 s3
    have hsr : selectedRoute q (sel.getLsbD 4) route (s2.port q).config.route = some r :=
      selectedRoute_stored (fun h => (hold h).trans (congrArg PortConfig.route hconf.symm))
        (fun h => ⟨(hnew h).1.trans (by cases r <;> rfl), (hnew h).2⟩)
    have hlink : (s3.ports.get .P).link = .up := by
      simp only [s3]
      split
      · rw [abortCommit_link]; exact h.1.up
      · exact h.1.up
    have hold3 : (s3.ports.get q).config = old := by
      simp only [s3]
      split
      · rw [abortCommit_config]; exact hconf
      · exact hconf
    have hselect : old.select m.params r = new := by
      simp only [PortConfig.select, hsel, hburst, hdead, hspan, hcap, timeCodeOfField_eq, BitVec.ofNat_toNat, BitVec.setWidth_eq]
      rfl
    have hstore : storePort q m.params r s2 = { s3 with ports := s3.ports.set q { s3.ports.get q with config := new } } := by
      rw [← hselect, ← hold3]
      simp only [storePort, hsel]
      rfl
    have hget : ((storePort q m.params r s2).port q).config = new := by
      rw [hstore]
      simp [State.port]
    have hup : ((storePort q m.params r s2).ports.get .P).link = .up := by
      rw [hstore]
      by_cases e : q = .P
      · subst e; simpa using hlink
      · simpa [PerPort.get_set_other _ _ (Ne.symm e)] using hlink
    simp only [exec, execPortSet, takeCommand_P h, hlen, if_true, hq, portOfCode_byte, hsel, hroute]
    rw [show selectedRoute q (sel.getLsbD 4) route ((withCommand .pay m 0x50 none s1).port q).config.route = some r from hsr]
    dsimp only
    rw [hget, reply_up (d := .pay) hup, hstore]
    cases r <;> rfl
  · simp only [exec, execPortSet, takeCommand_P h, hlen, if_true, hq, portOfCode_byte, hsel, hroute, hs, selectedRoute_refused _ hbad,
      badParameter_answered h]

/-! ### METER_SET and METER_READ (R90 to R92) -/

/-- A meter is named exactly by a valid ACTIVE entry with its index (R39). -/
theorem meterNamed_iff {s : State} {n : Fin 16} :
    meterNamed s n = true ↔ ∃ i : Fin 96, (s.active.get i).valid = true ∧ (s.active.get i).meter = some n := by
  refine ⟨fun h => ?_, fun ⟨i, hv, hn⟩ => meterNamed_of_entry hv hn⟩
  obtain ⟨e, he, hp⟩ := List.any_eq_true.mp h
  obtain ⟨k, hk, rfl⟩ := List.mem_iff_getElem.mp he
  have h96 : k < 96 := by simpa using hk
  refine ⟨⟨k, h96⟩, ?_⟩
  simpa [Vector.get] using hp

/-- The parameters of METER_SET, field by field (R175). -/
theorem meterSet_fields {n : Fin 16} {rate : BitVec 32} {depth : BitVec 16} {ps : List Byte}
    (h : ps = [BitVec.ofNat 8 n.1] ++ leBytes 4 rate.toNat ++ leBytes 2 depth.toNat) :
    ps.length = 7 ∧ byteAt ps 0 = BitVec.ofNat 8 n.1 ∧ fieldAt ps 1 4 = rate.toNat ∧ fieldAt ps 5 2 = depth.toNat := by
  subst h
  exact ⟨rfl, rfl, leValue_leBytes_of_lt (n := 4) rate.isLt, leValue_half depth⟩

/-- The state of a METER_SET before its head is evaluated (R91). -/
theorem changeMeter_eq {m : MgmtPacket} {s s1 : State} (h : CommandArrives .pay 0x30 m s s1) (n : Fin 16) (rate depth : Nat) :
    changeMeter n rate depth (withCommand .pay m 0x30 none s1) =
      evalMeter n { abortCommit (withCommand .pay m 0x30 none s1) with
        meters := setAt s.meters n ((s.meters.get n).change s.gateTime rate depth) } := by
  have hm : (abortCommit (withCommand .pay m 0x30 none s1)).meters = s.meters := by
    rw [abortCommit_meters]; obtain ⟨_, rfl⟩ := h.1.spec; rfl
  have ht : (withCommand .pay m 0x30 none s1).gateTime = s.gateTime := h.1.gateTime
  unfold changeMeter
  rw [ht, ← hm]
  rfl

/-- Settles O59: METER_SET refills before it stores, and evaluates after; METER_READ refills without storing. -/
theorem meterCommands : Obligations.MeterCommands := by
  refine ⟨fun n rate depth m s s1 h hm => ?_, fun n m s s1 h hm ht hrel => ?_⟩
  · intro v named newRate newDepth credit changed
    obtain ⟨hlen, hn, hrate, hdepth⟩ := meterSet_fields hm
    have hnamed : meterNamed (withCommand .pay m 0x30 none s1) n = true ↔ named := by
      rw [meterNamed_iff]
      obtain ⟨_, rfl⟩ := h.1.spec
      rfl
    have hzero : rate.toNat = 0 ↔ rate = 0 := ⟨fun e => BitVec.eq_of_toNat_eq e, fun e => by rw [e]; rfl⟩
    have hchange : v.change s.gateTime newRate newDepth =
        { v with rate := newRate, depth := newDepth, credit := credit, last := s.gateTime } := rfl
    have hstore : storeDepth depth.toNat = newDepth := by
      have hz : depth.toNat = 0 ↔ depth = 0 := ⟨fun e => BitVec.eq_of_toNat_eq e, fun e => by rw [e]; rfl⟩
      simp only [storeDepth, hz, newDepth]
      rfl
    simp only [exec, execMeterSet, takeCommand_P h, hlen, if_true, hn, indexOf_ofNat (show 16 ≤ 256 by decide) n, hrate, hdepth, hzero,
      hnamed, hstore]
    refine ⟨fun h0 hname => ?_, fun hok => ?_⟩
    · rw [if_pos ⟨h0, hname⟩, reply_answered h]
    · rw [if_neg (not_and_or.mpr hok), show min Config.rateLimit rate.toNat = newRate from rfl, changeMeter_eq h, hchange]
      have hup : ((evalMeter n changed).ports.get .P).link = .up := by
        rw [(Quiet.evalMeter n changed).link, show changed.ports = (abortCommit (withCommand .pay m 0x30 none s1)).ports from rfl,
          abortCommit_link]
        exact h.1.up
      have hmeter (t : State) (hr : (t.meters.get n).rate = newRate) (hd : (t.meters.get n).depth = newDepth) :
          meterSetResult n (t.meter n) =
            [BitVec.ofNat 8 n.1] ++ leBytes 2 newRate ++ leBytes 2 newDepth ++ leBytes 4 (t.meters.get n).credit := by
        simp only [meterSetResult, State.meter, hr, hd]
      have hself : changed.meters.get n = { v with rate := newRate, depth := newDepth, credit := credit, last := s.gateTime } :=
        setAt_get_same _ _ _
      have hkeep := (Moves.evalMeter n changed).steady.meter n
      rw [reply_up (d := .pay) hup, hmeter _ (hkeep.rate.trans (congrArg Meter.rate hself))
        (hkeep.depth.trans (congrArg Meter.depth hself))]
      refine ⟨fun hempty => ?_, rfl⟩
      have hnone : (changed.meter n).waiting = [] := (congrArg Meter.waiting hself).trans hempty
      have heval : evalMeter n changed = changed := by unfold evalMeter; rw [hnone]
      rw [heval, hself]
      rfl
  · intro v
    have hmeter : (withCommand .pay m 0x31 none s1).meter n = v := by obtain ⟨_, rfl⟩ := h.1.spec; rfl
    have hg : (withCommand .pay m 0x31 none s1).gateTime = s.gateTime := h.1.gateTime
    simp only [exec, execMeterRead, takeCommand_P h, hm, indexOf_ofNat (show 16 ≤ 256 by decide) n, hmeter, hg, reply_answered h,
      meterReadResult, timeBytes_of_le ht]
    cases hr : v.release with
    | none => rfl
    | some e =>
      dsimp only
      rw [timeBytes_of_le (hrel e hr)]
      rfl

end Sys2Proof.Machine
end

section
/-! PROOFS. The validation of a commit, and the swap (R151 to R156). -/

namespace Sys2Proof.Machine

open Sys2Proof

/-! ### The checks of one entry (R153) -/

/-- Whether the check of one reason fails, given the ACTIVE entry at the index and the meters counted. -/
def checkFails (s : State) (counted : List (Port × Fin 16)) (e act : Entry) : Reason → Bool
  | .selfTarget => e.valid && e.selfTarget
  | .targetSpan => e.valid && pastSpan s e
  | .meterUnset => e.valid && namesStoppedMeter s e
  | .unitUndefined => e.valid && namesUndefinedUnit s e
  | .custodyGap => e.valid && reachesOtherUnit s e
  | .quarantineBound => e.valid && boundInQuarantine e
  | .pinnedChanged => act.pinned && decide (e ≠ act)
  | .oversubscribed => e.valid && oversubscribed s counted e

/-- An entry fails with the first reason whose check fails. -/
theorem entryFails_eq_find (s : State) (counted : List (Port × Fin 16)) (e act : Entry) :
    entryFails s counted e act = reasonOrder.find? (checkFails s counted e act) := by
  simp only [entryFails, reasonOrder, List.find?_cons, checkFails, List.find?_nil]
  repeat' split
  all_goals simp_all

/-- Each reason is found, where no earlier one is. -/
theorem find_reason {f : Reason → Bool} {r : Reason} (hr : f r = true)
    (hlt : ∀ q, reasonOrder.idxOf q < reasonOrder.idxOf r → f q = false) : reasonOrder.find? f = some r := by
  have hmem : ∀ q : Reason, q ∈ reasonOrder := by intro q; cases q <;> decide
  have hi : reasonOrder.idxOf r < reasonOrder.length := List.idxOf_lt_length_iff.mpr (hmem r)
  refine List.find?_eq_some_iff_getElem.mpr ⟨hr, reasonOrder.idxOf r, hi, List.getElem_idxOf hi, fun j hj => ?_⟩
  have hnd : reasonOrder.Nodup := by decide
  rw [hlt _ (by rw [hnd.idxOf_getElem j (by omega)]; exact hj)]
  rfl

/-! ### The meters counted (R154) -/

/-- The meters counted before entry `k`: each once for each port whose capacity is not 0. -/
structure Counted (s : State) (k : Nat) (counted : List (Port × Fin 16)) : Prop where
  once : counted.Nodup
  mem  : ∀ p n, (p, n) ∈ counted ↔ (s.port p).config.capacity ≠ 0 ∧
    ∃ j : Fin 96, j.1 < k ∧ (s.pendingBank.get j).valid = true ∧ (s.pendingBank.get j).target = p ∧
      (s.pendingBank.get j).meter = some n

theorem Counted.zero (s : State) : Counted s 0 [] := ⟨.nil, fun p n => by simp⟩

/-- Counting an entry adds its meter toward its port, once. -/
theorem mem_countEntry {s : State} {counted : List (Port × Fin 16)} {e : Entry} (p : Port) (n : Fin 16) :
    (p, n) ∈ countEntry s counted e ↔
      (p, n) ∈ counted ∨ (e.valid = true ∧ e.target = p ∧ e.meter = some n ∧ (s.port p).config.capacity ≠ 0) := by
  unfold countEntry
  cases hm : e.meter with
  | none => simp
  | some k =>
    dsimp only
    split
    · rename_i h
      simp only [List.mem_cons, Prod.mk.injEq, Option.some.injEq]
      constructor
      · rintro (⟨rfl, rfl⟩ | h')
        · exact .inr ⟨h.1, rfl, rfl, h.2.1⟩
        · exact .inl h'
      · rintro (h' | ⟨-, rfl, rfl, -⟩)
        · exact .inr h'
        · exact .inl ⟨rfl, rfl⟩
    · rename_i h
      refine ⟨.inl, fun h' => h'.elim id fun ⟨hv, ht, hk, hc⟩ => ?_⟩
      obtain rfl := Option.some.inj hk
      subst ht
      by_contra hn
      exact h ⟨hv, hc, hn⟩

theorem countEntry_nodup {s : State} {counted : List (Port × Fin 16)} (e : Entry) (h : counted.Nodup) :
    (countEntry s counted e).Nodup := by
  unfold countEntry
  cases e.meter with
  | none => exact h
  | some k =>
    dsimp only
    split
    · rename_i hh; exact List.nodup_cons.mpr ⟨hh.2.2, h⟩
    · exact h

theorem Counted.succ {s : State} {i : Fin 96} {counted : List (Port × Fin 16)} (h : Counted s i.1 counted) :
    Counted s (i.1 + 1) (countEntry s counted (s.pendingBank.get i)) := by
  refine ⟨countEntry_nodup _ h.once, fun p n => ?_⟩
  rw [mem_countEntry, h.mem]
  constructor
  · rintro (⟨hc, j, hj, hrest⟩ | ⟨hv, ht, hm, hc⟩)
    · exact ⟨hc, j, by omega, hrest⟩
    · exact ⟨hc, i, by omega, hv, ht, hm⟩
  · rintro ⟨hc, j, hj, hv, ht, hm⟩
    rcases Nat.lt_succ_iff_lt_or_eq.mp hj with hlt | heq
    · exact .inl ⟨hc, j, hlt, hv, ht, hm⟩
    · obtain rfl := Fin.ext heq
      exact .inr ⟨hv, ht, hm, hc⟩

/-- The rates counted toward a port with a capacity sum up to what R154 says. -/
theorem countedRate_eq {s : State} {i : Fin 96} {counted : List (Port × Fin 16)} (h : Counted s (i.1 + 1) counted) {p : Port}
    (hc : (s.port p).config.capacity ≠ 0) : countedRate s counted p = rateSum s i p := by
  have hperm : ((counted.filter (fun x => decide (x.1 = p))).map Prod.snd).Perm
      ((List.finRange 16).filter (fun n => decide (∃ j : Fin 96, j ≤ i ∧ (s.pendingBank.get j).valid = true ∧
        (s.pendingBank.get j).target = p ∧ (s.pendingBank.get j).meter = some n))) := by
    refine (List.perm_ext_iff_of_nodup ?_ ((List.nodup_finRange 16).filter _)).mpr (fun n => ?_)
    · refine List.Nodup.map_on (fun x hx y hy hxy => ?_) (h.once.filter _)
      have h1 : x.1 = p := by simpa using (List.mem_filter.mp hx).2
      have h2 : y.1 = p := by simpa using (List.mem_filter.mp hy).2
      exact Prod.ext (h1.trans h2.symm) hxy
    · have hm := h.mem p n
      simp only [List.mem_map, List.mem_filter, decide_eq_true_eq, Prod.exists, exists_eq_right,
        List.mem_finRange, true_and]
      rw [hm]
      constructor
      · rintro ⟨-, j, hj, hrest⟩
        exact ⟨j, Fin.le_def.mpr (by omega), hrest⟩
      · rintro ⟨j, hj, hrest⟩
        exact ⟨hc, j, by have := Fin.le_def.mp hj; omega, hrest⟩
  have hsum := (hperm.map (fun n => (s.meters.get n).rate)).sum_eq
  rw [List.map_map] at hsum
  rw [countedRate, ← List.sum_eq_foldl_nat]
  exact hsum

/-! ### The checks as R153 states them -/

theorem Entry.selfTarget_iff (e : Entry) : e.selfTarget = true ↔ ∃ d : Domain, e.target = d.port ∧ e.domains.has d = true := by
  unfold Entry.selfTarget
  constructor
  · intro h
    cases ht : e.target <;> rw [ht] at h <;> first | exact ⟨_, rfl, h⟩ | cases h
  · rintro ⟨d, ht, hd⟩
    rw [ht]
    cases d <;> exact hd

/-- A check fails exactly where R153 says so, with the meters counted up to the entry. -/
theorem checkFails_iff {s : State} {i : Fin 96} {counted : List (Port × Fin 16)} (h : Counted s (i.1 + 1) counted) (r : Reason) :
    checkFails s counted (s.pendingBank.get i) (s.active.get i) r = true ↔ Fails s i r := by
  cases r with
  | selfTarget => simp only [checkFails, Fails, Bool.and_eq_true, Entry.selfTarget_iff]
  | targetSpan =>
    simp only [checkFails, Fails, Bool.and_eq_true, pastSpan, decide_eq_true_eq]
    rfl
  | meterUnset =>
    simp only [checkFails, Fails, Bool.and_eq_true, namesStoppedMeter]
    cases (s.pendingBank.get i).meter with
    | none => simp
    | some n =>
      simp only [decide_eq_true_eq, Option.some.injEq, exists_eq_left']
      rfl
  | unitUndefined =>
    simp only [checkFails, Fails, Bool.and_eq_true, namesUndefinedUnit]
    cases (s.pendingBank.get i).unit with
    | none => simp
    | some u =>
      simp only [decide_eq_true_eq, Option.some.injEq, exists_eq_left']
      rfl
  | custodyGap =>
    simp only [checkFails, Fails, Bool.and_eq_true, reachesOtherUnit, List.any_eq_true, CustodyUnit.overlaps, overlap,
      decide_eq_true_eq, mem_allUnits, true_and, and_assoc]
    rfl
  | quarantineBound =>
    simp only [checkFails, Fails, Bool.and_eq_true, boundInQuarantine, decide_eq_true_eq, Option.isSome_iff_ne_none]
  | pinnedChanged => simp only [checkFails, Fails, Bool.and_eq_true, decide_eq_true_eq]
  | oversubscribed =>
    simp only [checkFails, Fails, Bool.and_eq_true, oversubscribed, decide_eq_true_eq, Option.isSome_iff_ne_none, and_assoc]
    refine and_congr_right fun _ => and_congr_right fun _ => and_congr_right fun hc => ?_
    rw [countedRate_eq h hc]

/-! ### The examination in index order (R153) -/

/-- The entries that a validation examines, with their ACTIVE entries. -/
def examined (s : State) : List (Entry × Entry) := s.pendingBank.toList.zip s.active.toList

theorem examined_drop {s : State} (i : Fin 96) :
    (examined s).drop i.1 = (s.pendingBank.get i, s.active.get i) :: (examined s).drop (i.1 + 1) := by
  have hlen : i.1 < (examined s).length := by simp [examined]
  rw [List.drop_eq_getElem_cons hlen]
  congr 1
  have h : (examined s)[i.1]? = some (s.pendingBank.get i, s.active.get i) :=
    List.getElem?_zip_eq_some.mpr ⟨bank_getElem? _ _, bank_getElem? _ _⟩
  rw [List.getElem?_eq_getElem hlen] at h
  exact Option.some.inj h

/-- The examination of an entry that passes goes on with the next. -/
theorem validateFrom_pass {s : State} {i : Fin 96} {counted : List (Port × Fin 16)} (hc : Counted s i.1 counted)
    (hp : ∀ r, ¬Fails s i r) :
    validateFrom s ((examined s).drop i.1) i.1 counted =
      validateFrom s ((examined s).drop (i.1 + 1)) (i.1 + 1) (countEntry s counted (s.pendingBank.get i)) := by
  have hnone : entryFails s (countEntry s counted (s.pendingBank.get i)) (s.pendingBank.get i) (s.active.get i) = none := by
    rw [entryFails_eq_find]
    exact List.find?_eq_none.mpr fun r _ hr => hp r ((checkFails_iff hc.succ r).mp hr)
  rw [examined_drop, validateFrom, hnone]

/-- The examination of an entry that fails ends with the first reason. -/
theorem validateFrom_fail {s : State} {i : Fin 96} {r : Reason} {counted : List (Port × Fin 16)} (hc : Counted s i.1 counted)
    (hr : Fails s i r) (hfirst : ∀ q, reasonOrder.idxOf q < reasonOrder.idxOf r → ¬Fails s i q) :
    validateFrom s ((examined s).drop i.1) i.1 counted = some (i.1, r) := by
  have hsome : entryFails s (countEntry s counted (s.pendingBank.get i)) (s.pendingBank.get i) (s.active.get i) = some r := by
    rw [entryFails_eq_find]
    exact find_reason ((checkFails_iff hc.succ r).mpr hr)
      fun q hq => Bool.eq_false_iff.mpr fun hf => hfirst q hq ((checkFails_iff hc.succ q).mp hf)
  rw [examined_drop, validateFrom, hsome]

/-- Where the first `k` entries pass, the examination goes on at entry `k` with their meters counted. -/
theorem validate_from {s : State} {k : Nat} (hk : k ≤ 96) (hp : ∀ j : Fin 96, j.1 < k → ∀ r, ¬Fails s j r) :
    ∃ counted, Counted s k counted ∧ validate s = validateFrom s ((examined s).drop k) k counted := by
  induction k with
  | zero => exact ⟨[], Counted.zero s, rfl⟩
  | succ k ih =>
    obtain ⟨counted, hc, hv⟩ := ih (by omega) fun j hj => hp j (by omega)
    exact ⟨_, hc.succ (i := ⟨k, hk⟩), hv.trans (validateFrom_pass (i := ⟨k, hk⟩) hc (hp ⟨k, hk⟩ (by simp)))⟩

/-- A validation passes where every entry passes. -/
theorem validate_of_all {s : State} (h : ∀ i r, ¬Fails s i r) : validate s = none := by
  obtain ⟨counted, -, hv⟩ := validate_from (le_refl 96) fun j _ => h j
  have hlen : (examined s).length = 96 := by simp [examined]
  rw [hv, List.drop_of_length_le hlen.le, validateFrom]

/-- A validation reports the first offender. -/
theorem validate_of_first {s : State} {i : Fin 96} {r : Reason} (h : FirstOffender s i r) : validate s = some (i.1, r) := by
  obtain ⟨hbefore, hr, hfirst⟩ := h
  obtain ⟨counted, hc, hv⟩ := validate_from (Nat.le_of_lt i.isLt) fun j hj => hbefore j (Fin.lt_def.mpr hj)
  rw [hv, validateFrom_fail hc hr hfirst]

/-- Settles O56: the validation examines the entries in order, and its end swaps or reports. -/
theorem commitValidatesAndSwaps : Obligations.CommitValidatesAndSwaps := by
  refine ⟨fun m s s1 h hm => ⟨fun hnone => ?_, fun hsome => ?_⟩, fun c s hc ht => ⟨fun hall => ?_, fun i r hfirst => ?_⟩⟩
  · have hcommit : (withCommand .pay m 0x13 none s1).commit = none := by obtain ⟨_, rfl⟩ := h.1.spec; exact hnone
    have ht : (withCommand .pay m 0x13 none s1).gateTime = s.gateTime := h.1.gateTime
    simp only [exec, execTableCommit, takeCommand_P h, hm, hcommit, Option.isSome_none, Bool.false_eq_true, if_false,
      carryCommand_new h, ht]
    rfl
  · have hcommit : (withCommand .pay m 0x13 none s1).commit ≠ none := by obtain ⟨_, rfl⟩ := h.1.spec; exact hsome
    simp only [exec, execTableCommit, takeCommand_P h, hm, Option.isSome_iff_ne_none.mpr hcommit, if_true, reply_answered h]
  · simp only [exec, execValidationEnd, hc, endValidation, validate_of_all hall, if_pos (Nat.succ_le_of_lt ht)]
    rfl
  · simp only [exec, execValidationEnd, hc, endValidation, validate_of_first hfirst, if_pos (Nat.succ_le_of_lt ht)]
    rfl

end Sys2Proof.Machine
end

section
/-! PROOFS. The commands on custody units: definitions, reports, and the start and abort of handovers (R42 to R47, R95 to R98). -/

namespace Sys2Proof.Machine

open Sys2Proof

/-! ### Unit images (R171) -/

/-- The bytes of a scrub step in an image. -/
def ScrubStep.bytes (st : ScrubStep) : List Byte := leBytes 4 st.addr.toNat ++ [BitVec.ofNat 8 st.data.length] ++ st.data

/-- Steps of 1 to 16 bytes are read back from their bytes. -/
theorem parseSteps_bytes {script : List ScrubStep} (h : ∀ st ∈ script, 1 ≤ st.data.length ∧ st.data.length ≤ 16) :
    parseSteps script.length (script.flatMap ScrubStep.bytes) = some script := by
  induction script with
  | nil => rfl
  | cons st rest ih =>
    obtain ⟨h1, h16⟩ := h st List.mem_cons_self
    have hlen : (BitVec.ofNat 8 st.data.length).toNat = st.data.length := by rw [BitVec.toNat_ofNat]; omega
    have hbytes : (st :: rest).flatMap ScrubStep.bytes =
        BitVec.ofNat 8 st.addr.toNat :: BitVec.ofNat 8 (st.addr.toNat / 256) :: BitVec.ofNat 8 (st.addr.toNat / 256 / 256) ::
          BitVec.ofNat 8 (st.addr.toNat / 256 / 256 / 256) :: BitVec.ofNat 8 st.data.length ::
          (st.data ++ rest.flatMap ScrubStep.bytes) := by
      simp [ScrubStep.bytes, leBytes]
    have haddr : leValue [BitVec.ofNat 8 st.addr.toNat, BitVec.ofNat 8 (st.addr.toNat / 256), BitVec.ofNat 8 (st.addr.toNat / 256 / 256),
        BitVec.ofNat 8 (st.addr.toNat / 256 / 256 / 256)] = st.addr.toNat := leValue_leBytes_of_lt (n := 4) st.addr.isLt
    rw [hbytes, List.length_cons, parseSteps, hlen, if_pos ⟨h1, h16, by simp⟩, List.drop_left, List.take_left,
      ih fun x hx => h x (List.mem_cons_of_mem _ hx), haddr, BitVec.ofNat_toNat, BitVec.setWidth_eq]
    rfl

/-- The state byte of HELD (R171). -/
theorem UnitState.held_byte (h : Domain) : (UnitState.held h).byte = 1 + 16 * h.code := by cases h <;> rfl

theorem optPortOf_byte (p : Option Port) : optPortOf (optPortByte p) = some p := by
  cases p with
  | none => rfl
  | some p => cases p <;> rfl

/-- The flags byte of a unit image spells the flag and the style, whatever its unnamed bits. -/
theorem unitFlags_read (events : Bool) (style : Style) (spare : Fin 32) :
    let b : Byte := BitVec.ofNat 8 ((if events then 1 else 0) + 2 * style.code + 8 * spare.1)
    b.getLsbD 0 = events ∧ styleOfCode (b.toNat / 2 % 4) = some style := by
  cases events <;> cases style <;> revert spare <;> decide

/-- The time code stored for a field is what is read from it (R16). -/
theorem timeCodeOfField_stored {c : TimeCode} {field : Half} (h : c.StoredFrom field) : timeCodeOfField field.toNat = c := by
  obtain ⟨hv, hs⟩ := h
  obtain ⟨v, k⟩ := c
  rw [timeCodeOfField_eq]
  congr 1
  · exact Fin.ext hv.symm
  · refine Fin.ext (Eq.trans ?_ hs.symm)
    exact Nat.mod_eq_of_lt (by omega)

/-- A definition written in any way is read as it is stored. -/
theorem definitionOfImage_written (u : Fin 8) {d : UnitDefinition} {start : Addr} {size : BitVec 32} {drain settle : Half}
    (spare : Fin 32) (h : d.StoredFrom start size drain settle) :
    definitionOfImage (d.written u start size drain settle spare) = some d := by
  obtain ⟨hstart, hsize, hdrain, hsettle, hcount, hdata⟩ := h
  obtain ⟨hevents, hstyle⟩ := unitFlags_read d.events d.style spare
  have h1 : byteAt (d.written u start size drain settle spare) 1 = optPortByte d.port := rfl
  have h2 : byteAt (d.written u start size drain settle spare) 2 =
    BitVec.ofNat 8 ((if d.events then 1 else 0) + 2 * d.style.code + 8 * spare.1) := rfl
  have h3 : (byteAt (d.written u start size drain settle spare) 3).toNat = d.script.length :=
    (BitVec.toNat_ofNat _ _).trans (Nat.mod_eq_of_lt (by omega))
  have h4 : fieldAt (d.written u start size drain settle spare) 4 4 = start.toNat := leValue_leBytes_of_lt (n := 4) start.isLt
  have h8 : fieldAt (d.written u start size drain settle spare) 8 4 = size.toNat := leValue_leBytes_of_lt (n := 4) size.isLt
  have h12 : fieldAt (d.written u start size drain settle spare) 12 2 = drain.toNat := leValue_half drain
  have h14 : fieldAt (d.written u start size drain settle spare) 14 2 = settle.toNat := leValue_half settle
  have h16 : (d.written u start size drain settle spare).drop 16 = d.script.flatMap ScrubStep.bytes := rfl
  have halign : alignAddr start = d.start := BitVec.eq_of_toNat_eq (by rw [alignAddr_toNat, hstart])
  simp only [definitionOfImage, h1, h2, h3, h4, h8, h12, h14, h16, optPortOf_byte, hstyle, hevents, hcount, if_true,
    parseSteps_bytes hdata, BitVec.ofNat_toNat, BitVec.setWidth_eq, halign, timeCodeOfField_stored hdrain,
    timeCodeOfField_stored hsettle]
  have hlimit : limitSize d.start (BitVec.setWidth 28 size) = d.size := by rw [hsize, ← BitVec.ofNat_toNat]; exact if_congr Iff.rfl rfl rfl
  rw [hlimit]

/-- A time code is stored from its own field. -/
theorem TimeCode.storedFrom_field (c : TimeCode) : c.StoredFrom (BitVec.ofNat 16 (c.value.1 + 1024 * c.scale.1)) := by
  have hv := c.value.isLt
  have hs := c.scale.isLt
  have hlt : (BitVec.ofNat 16 (c.value.1 + 1024 * c.scale.1)).toNat = c.value.1 + 1024 * c.scale.1 := by
    rw [BitVec.toNat_ofNat]; omega
  unfold TimeCode.StoredFrom
  rw [hlt]
  omega

/-- The image of a stored definition is one way to write it. -/
theorem UnitDefinition.image_written (u : Fin 8) (d : UnitDefinition) (h : d.Stored) :
    ∃ size drain settle, d.StoredFrom d.start size drain settle ∧ d.image u = d.written u d.start size drain settle 0 := by
  obtain ⟨hmod, hend, hcount, hdata⟩ := h
  refine ⟨BitVec.ofNat 32 d.size.toNat, _, _, ⟨by omega, ?_, d.drain.storedFrom_field, d.settle.storedFrom_field, hcount, hdata⟩, ?_⟩
  · have hs := d.size.isLt
    have hasked : BitVec.ofNat 28 (BitVec.ofNat 32 d.size.toNat).toNat = d.size :=
      BitVec.eq_of_toNat_eq (by simp only [BitVec.toNat_ofNat]; omega)
    rw [hasked, if_neg (by omega)]
  · have hhalf (c : TimeCode) : (BitVec.ofNat 16 (c.value.1 + 1024 * c.scale.1)).toNat = c.value.1 + 1024 * c.scale.1 := by
      have := c.value.isLt
      have := c.scale.isLt
      rw [BitVec.toNat_ofNat]; omega
    have hsize : (BitVec.ofNat 32 d.size.toNat).toNat = d.size.toNat := by
      have := d.size.isLt
      rw [BitVec.toNat_ofNat]; omega
    simp only [UnitDefinition.image, UnitDefinition.written, hhalf, hsize]
    rfl

/-! ### UNIT_DEFINE and UNIT_READ (R42 to R45) -/

/-- The condition of the custody-gap check, as a test of one entry. -/
def gapTest (u : Fin 8) (d : UnitDefinition) (p : Port) (e : Entry) : Bool :=
  e.valid && decide (e.target = p) && overlap d.start.toNat (sizeBytes d.size) e.offset.toNat (sizeBytes e.size)
    && decide (e.unit ≠ some u)

theorem custodyGap_eq (s : State) (u : Fin 8) (d : UnitDefinition) (p : Port) :
    custodyGap s u p d.start.toNat (sizeBytes d.size) = (findEntry (gapTest u d p) s.active.toList 0).map Prod.fst := rfl

theorem gapTest_iff {s : State} {u : Fin 8} {d : UnitDefinition} {p : Port} {i : Fin 96} :
    gapTest u d p (s.active.get i) = true ↔ d.GapAt s u p i := by
  simp only [gapTest, UnitDefinition.GapAt, overlap, Bool.and_eq_true, decide_eq_true_eq, and_assoc]

/-- The first ACTIVE entry that would break the custody-gap law is the one reported. -/
theorem custodyGap_of_first {s : State} {u : Fin 8} {d : UnitDefinition} {p : Port} {i : Fin 96} (h : d.GapAt s u p i)
    (hfirst : ∀ j, j < i → ¬d.GapAt s u p j) : custodyGap s u p d.start.toNat (sizeBytes d.size) = some i.1 := by
  have hfind : findEntry (gapTest u d p) s.active.toList 0 = some (i.1, s.active.get i) := by
    refine findEntry_eq_some.mpr ⟨i.1, (Nat.zero_add _).symm, bank_getElem? _ _, gapTest_iff.mpr h, fun m x hm hx => ?_⟩
    have hlt : m < 96 := by omega
    rw [bank_getElem? s.active ⟨m, hlt⟩] at hx
    rw [← Option.some.inj hx]
    exact Bool.eq_false_iff.mpr fun ht => hfirst ⟨m, hlt⟩ hm (gapTest_iff.mp ht)
  rw [custodyGap_eq, hfind]
  rfl

/-- No ACTIVE entry is reported where none breaks the custody-gap law. -/
theorem custodyGap_of_none {s : State} {u : Fin 8} {d : UnitDefinition} {p : Port} (h : ∀ i, ¬d.GapAt s u p i) :
    custodyGap s u p d.start.toNat (sizeBytes d.size) = none := by
  have hfind : findEntry (gapTest u d p) s.active.toList 0 = none := by
    refine findEntry_eq_none.mpr fun e he => ?_
    obtain ⟨k, hk, rfl⟩ := List.mem_iff_getElem.mp he
    have h96 : k < 96 := by simpa using hk
    exact Bool.eq_false_iff.mpr fun ht => h ⟨k, h96⟩ (gapTest_iff.mp ht)
  rw [custodyGap_eq, hfind]
  rfl

/-- The reply to an accepted definition, with the unit that stores it. -/
theorem storeDefinition_eq {m : MgmtPacket} {s s1 : State} (h : CommandArrives .pay 0x20 m s s1) (u : Fin 8) (d : UnitDefinition) :
    storeDefinition u d .pay m (withCommand .pay m 0x20 none s1) = withOut .P [.reply m.tag .ok []]
      { abortCommit (withCommand .pay m 0x20 none s1) with units := setAt s.units u (d.storedIn (s.units.get u)) } := by
  have hu : (abortCommit (withCommand .pay m 0x20 none s1)).units = s.units := (abortCommit_units _).trans h.1.units
  unfold storeDefinition
  rw [reply_of_aborted h (t := (abortCommit (withCommand .pay m 0x20 none s1)).modUnit u (fun v => v.define d)) rfl, ← hu]
  rfl

/-- Settles O57: every way to write a definition is read as it is stored, and the checks are those of R43 in their order. -/
theorem unitCommands : Obligations.UnitCommands := by
  refine ⟨fun u d m s s1 h hm => ?_, fun u m s s1 h hm => ?_⟩
  · obtain ⟨start, size, drain, settle, spare, hd, hw⟩ : ∃ start size drain settle spare, d.StoredFrom start size drain settle ∧
        m.params = d.written u start size drain settle spare := by
      rcases hm with ⟨hs, hi⟩ | h
      · obtain ⟨size, drain, settle, hd, hw⟩ := d.image_written u hs
        exact ⟨_, size, drain, settle, 0, hd, hi.trans hw⟩
      · exact h
    have hlen : ¬ m.params.length < 16 := by rw [hw]; simp [UnitDefinition.written, leBytes]
    have hu : indexOf 8 (byteAt m.params 0) = some u := by rw [hw]; exact indexOf_ofNat (by decide) u
    have hdef : definitionOfImage m.params = some d := by rw [hw]; exact definitionOfImage_written u spare hd
    have hunits : (withCommand .pay m 0x20 none s1).units = s.units := h.1.units
    have hactive : (withCommand .pay m 0x20 none s1).active = s.active := by obtain ⟨_, rfl⟩ := h.1.spec; rfl
    have hrun : exec (.unitDefine .P m) s = .next (defineUnit .pay m (withCommand .pay m 0x20 none s1)) :=
      congrArg Host.Outcome.next (takeCommand_P h)
    simp only [hrun, defineUnit, hlen, if_false, hu, hdef, State.unit, hunits, definitionFits_congr hunits, custodyGap_congr hactive,
      storeDefinition_eq h]
    refine ⟨fun ho hfit => ?_, fun hne => ?_, fun p ho hp hfit => ?_, fun p i ho hp hfit hgap hfirst => ?_⟩
    · rw [if_pos ho]
      cases hp : d.port with
      | none => rfl
      | some p =>
        obtain ⟨hf, hg⟩ := hfit p hp
        dsimp only
        rw [if_pos (definitionFits_iff.mpr hf), custodyGap_of_none hg]
    · rw [if_neg hne, reply_answered h]
    · have hf : ¬ definitionFits s u d p = true := fun hf => hfit (definitionFits_iff.mp hf)
      rw [if_pos ho, hp]
      dsimp only
      rw [if_neg hf, badParameter_answered h]
    · rw [if_pos ho, hp]
      dsimp only
      rw [if_pos (definitionFits_iff.mpr hfit), custodyGap_of_first hgap hfirst]
      dsimp only
      rw [reply_answered h]
  · intro v times
    have hunit : (withCommand .pay m 0x23 none s1).unit u = v := by obtain ⟨_, rfl⟩ := h.1.spec; rfl
    simp only [exec, execUnitRead, takeCommand_P h, hm, indexOf_ofNat (show 8 ≤ 256 by decide) u, hunit, reply_answered h,
      CustodyUnit.readImage]
    cases v.previous with
    | opened => cases v.port <;> cases v.pendingTake <;> rfl
    | held g =>
      rw [show (Holding.held g).toState.byte = _ from UnitState.held_byte g]
      cases v.port <;> cases v.pendingTake <;> rfl

/-! ### CUSTODY_TAKE and CUSTODY_RETURN (R95 to R98) -/

/-- The unit in which a handover starts: its drain timer runs where its drain delay is not 0. -/
def CustodyUnit.starting (v : CustodyUnit) (tag : Fin 4) (t : Nat) (op : HandoverKind) (start : Resting) (previous target : Holding) :
    CustodyUnit :=
  { v with
    state := .draining target, previous := previous, pendingTake := some tag
    hand :=
      { op := some op, starting := start, drainTimer := v.drain.expiry t, scrubPos := 0, settleTimer := none, cutCount := 0 } }

/-- A handover that starts drains while pieces are in flight, and ends its drain at once without them. -/
theorem acceptHandover_starts {code : Byte} {m : MgmtPacket} {s s1 : State} (h : CommandArrives .pay code m s s1) (u : Fin 8)
    (op : HandoverKind) (start : Resting) (previous target : Holding)
    (hp : previous = if op = .take then savedPrevious start (s.units.get u).previous else (s.units.get u).previous) :
    let t := { withCommand .pay m code (some (.custody u)) s1 with
      units := setAt s.units u ((s.units.get u).starting m.tag s.gateTime op start previous target) }
    ((s.units.get u).inFlight ≠ 0 → acceptHandover u op start target m.tag (withCommand .pay m code none s1) = t) ∧
    ((s.units.get u).inFlight = 0 → exec (.drainEnd u) t =
      .next (acceptHandover u op start target m.tag (withCommand .pay m code none s1))) := by
  have hu : s1.units = s.units := h.1.units
  have ht : (withCommand .pay m code none s1).gateTime = s.gateTime := h.1.gateTime
  have hunit : (withCommand .pay m code none s1).unit u = s.units.get u := congrArg (fun x => x.get u) hu
  subst hp
  intro t
  refine ⟨fun hne => ?_, fun h0 => ?_⟩
  · unfold acceptHandover
    rw [carryCommand_new h, hunit, if_neg hne, ht]
    simp only [t, CustodyUnit.starting, State.modUnit, withCommand, hu, setAt_get_same, setAt_setAt]
  · have hdue : drainDue t u = some target := by
      simp only [drainDue, t, State.unit, setAt_get_same, CustodyUnit.starting, h0, if_true]
    simp only [exec, execDrainEnd, beginDue, hdue]
    unfold acceptHandover
    rw [carryCommand_new h, hunit, if_pos h0]
    simp only [endDrain, t, CustodyUnit.starting, State.modUnit, withCommand, hu, setAt_get_same, setAt_setAt]

section
variable {u : Fin 8} {t : Holding} {d : Domain} {m : MgmtPacket} {s : State}

/-- A take in a handover is BUSY (R95). -/
theorem takeUnit_busy (hp : (s.unit u).port ≠ none) (hs : (s.unit u).state.inHandover = true) :
    takeUnit u t d m s = reply d m.tag .busy [] s := by
  have hrest : (s.unit u).state.resting = none := by
    cases he : (s.unit u).state <;> rw [he] at hs <;> first | rfl | cases hs
  unfold takeUnit
  rw [if_neg hp, hrest]

/-- A take toward the state that the unit is in is answered at once (R95). -/
theorem takeUnit_same (hp : (s.unit u).port ≠ none) (hs : (s.unit u).state = t.toState) :
    takeUnit u t d m s = reply d m.tag .ok (handoverResult u t.toState 0 0) s := by
  have hrest : (s.unit u).state.resting = some t.resting := by rw [hs]; cases t <;> rfl
  unfold takeUnit
  rw [if_neg hp, hrest]
  exact if_pos hs

/-- Any other take of a unit at rest starts a handover (R96). -/
theorem takeUnit_begins (hp : (s.unit u).port ≠ none) {r : Resting} (hr : (s.unit u).state.resting = some r)
    (hs : (s.unit u).state ≠ t.toState) : takeUnit u t d m s = acceptHandover u .take r t m.tag s := by
  unfold takeUnit
  rw [if_neg hp, hr]
  exact if_neg hs

end

/-- Settles O58: each command is one of its cases, and a handover that starts is the same for all of them. -/
theorem custodyTakeAndReturn : Obligations.CustodyTakeAndReturn := by
  intro u m s s1 v unitByte starts runs
  have hindex : indexOf 8 unitByte = some u := indexOf_ofNat (by decide) u
  have hunit {code : Byte} (h : CommandArrives .pay code m s s1) : (withCommand .pay m code none s1).unit u = v :=
    congrArg (fun x => x.get u) h.1.units
  have hstarts {code : Byte} (h : CommandArrives .pay code m s s1) (c : Instr) (op : HandoverKind) (start : Resting)
      (previous target : Holding) (hp : previous = if op = .take then savedPrevious start v.previous else v.previous)
      (hrun : exec c s = .next (acceptHandover u op start target m.tag (withCommand .pay m code none s1))) :
      runs c (starts op code start previous target) := by
    obtain ⟨hne, h0⟩ := acceptHandover_starts h u op start previous target hp
    exact ⟨fun hv => hrun.trans (congrArg _ (hne hv)), fun hv => ⟨_, h0 hv, hrun⟩⟩
  refine ⟨fun g h hm => ?_, fun h hm => ?_⟩
  · have hv := hunit h
    have hrun : exec (.custodyTake .P m) s = .next (takeUnit u g .pay m (withCommand .pay m 0x21 none s1)) := by
      simp only [exec, execCustodyTake, takeCommand_P h, hm, hindex]
      cases g with
      | opened => rfl
      | held d => cases d <;> rfl
    refine ⟨fun hp => ?_, fun hp => ?_⟩
    · rw [hrun, takeUnit, hv, if_pos hp, badParameter_answered h]
    rw [← hv] at hp
    have hbegin {r : Resting} (previous : Holding) (hr : v.state.resting = some r) (hne : v.state ≠ g.toState)
        (hprev : previous = savedPrevious r v.previous) : runs (.custodyTake .P m) (starts .take 0x21 r previous g) :=
      hstarts h _ .take r previous g hprev (hrun.trans (congrArg _ (takeUnit_begins hp (hv ▸ hr) (hv ▸ hne))))
    have hsame (hs : v.state = g.toState) :
        exec (.custodyTake .P m) s = .next (answered .pay m 0x21 .ok [unitByte, g.toState.byte, 0, 0, 0] s1) := by
      rw [hrun, takeUnit_same hp (hv ▸ hs), reply_answered h]
      rfl
    refine ⟨fun hh => ?_, fun ho hg => ?_, fun d ho hg => ?_, fun ho hg => ?_, fun d ho hg => ?_, fun ho => ?_⟩
    · rw [hrun, takeUnit_busy hp (hv ▸ hh), reply_answered h]
    · subst hg; exact hsame ho
    · subst hg; exact UnitState.held_byte d ▸ hsame ho
    · exact hbegin .opened (by rw [ho]; rfl) (by rw [ho]; cases g <;> simp_all [Holding.toState]) rfl
    · exact hbegin (.held d) (by rw [ho]; rfl) (by rw [ho]; cases g <;> simp_all [Holding.toState, eq_comm]) rfl
    · exact hbegin v.previous (by rw [ho]; rfl) (by rw [ho]; cases g <;> simp [Holding.toState]) rfl
  · have hv := hunit h
    have hrun : exec (.custodyReturn .P m) s = .next (returnUnit u .pay m (withCommand .pay m 0x22 none s1)) := by
      simp only [exec, execCustodyReturn, takeCommand_P h, hm, hindex]
    have hbegin (r : Resting) (target : Holding) (heq : returnUnit u .pay m (withCommand .pay m 0x22 none s1) =
        acceptHandover u .giveBack r target m.tag (withCommand .pay m 0x22 none s1)) :
        runs (.custodyReturn .P m) (starts .giveBack 0x22 r v.previous target) :=
      hstarts h _ .giveBack r v.previous target rfl (hrun.trans (congrArg _ heq))
    refine ⟨fun ho => ?_, fun d ho => ?_, fun ho => ?_, fun g ho htake hne => ?_, fun ⟨g, hg⟩ => ?_⟩
    · simp only [hrun, returnUnit, hv, ho, reply_answered h]
      rfl
    · exact hbegin _ _ (by simp only [returnUnit, hv, ho]; rfl)
    · exact hbegin _ _ (by simp only [returnUnit, hv, ho])
    · intro back result
      have hback : v.previous.toState = back := by simp only [back]; cases v.previous <;> rfl
      have hclear : clearHandover u ((withCommand .pay m 0x22 none s1).modUnit u (fun v => { v with state := back })) =
          { withCommand .pay m 0x22 none s1 with
            units := setAt s.units u { v with state := back, pendingTake := none, hand := Handover.idle } } := by
        have hu : (withCommand .pay m 0x22 none s1).units = s.units := h.1.units
        simp only [clearHandover, State.modUnit, hu, setAt_get_same, setAt_setAt]
        rfl
      simp only [hrun, returnUnit, hv, ho, htake, hne, ne_eq, not_false_eq_true, and_self, if_true, abortTake, hback, hclear]
      exact congrArg (fun t => Host.Outcome.next (redecideParked u t))
        (reply_up (d := .pay) (((Quiet.endCommand _ _ _ _).link .P).trans h.1.up))
    · rcases hg with hg | ⟨hg, hno⟩
      · simp only [hrun, returnUnit, hv, hg, reply_answered h]
      · simp only [hrun, returnUnit, hv, hg]
        rw [if_neg (fun hh => hno.elim (absurd hh.1) (fun h0 => hh.2 h0)), reply_answered h]

end Sys2Proof.Machine
end

section
/-! PROOFS. The order of a command's checks: its code, its right, its length, its values (R158, R159, R161). -/

namespace Sys2Proof.Machine

open Sys2Proof

/-! ### Values outside what a command accepts (R169, R175) -/

section
variable {b : Byte}

/-- A byte that is not below `k` is none of the codes below `k`. -/
theorem ne_of_lt_toNat {c : Byte} (h : c.toNat < b.toNat) : b ≠ c := by rintro rfl; omega

theorem domainOfCode_outside (h : 2 < b.toNat) : domainOfCode b = none := by
  unfold domainOfCode
  rw [if_neg (ne_of_lt_toNat (by simp; omega)), if_neg (ne_of_lt_toNat (by simp; omega)), if_neg (ne_of_lt_toNat (by simpa using h))]

theorem scoredOfCode_outside (h0 : b.toNat ≠ 0) (h2 : b.toNat ≠ 2) : scoredOfCode b = none := by
  unfold scoredOfCode
  by_cases h1 : b = 1
  · subst h1; rfl
  · have hlt : 2 < b.toNat := by
      have : b.toNat ≠ 1 := fun h => h1 (BitVec.eq_of_toNat_eq h)
      omega
    rw [domainOfCode_outside hlt]
    rfl

theorem domainStyleOfCode_outside (h : 1 < b.toNat) : domainStyleOfCode b = none := by
  unfold domainStyleOfCode
  rw [if_neg (ne_of_lt_toNat (by simp; omega)), if_neg (ne_of_lt_toNat (by simpa using h))]

theorem bankOf_outside (s : State) (h : 1 < b.toNat) : bankOf s b = none := by
  unfold bankOf
  rw [if_neg (ne_of_lt_toNat (by simp; omega)), if_neg (ne_of_lt_toNat (by simpa using h))]

theorem targetOfCode_outside (h : 3 < b.toNat) : targetOfCode b = none := by
  unfold targetOfCode
  rw [if_neg (ne_of_lt_toNat (by simpa using h)), domainOfCode_outside (by omega)]
  rfl

theorem classOfCode_outside (h : b.toNat = 0 ∨ 14 < b.toNat) : classOfCode b = none := by
  refine List.find?_eq_none.mpr fun c _ hc => ?_
  have hb : c.code = b := of_decide_eq_true hc
  have : 1 ≤ c.code.toNat ∧ c.code.toNat ≤ 14 := by cases c <;> decide
  rw [hb] at this
  omega

theorem indexOf_outside {n : Nat} (h : n ≤ b.toNat) : indexOf n b = none := dif_neg (by omega)

theorem portOfCode_outside (h : 6 < b.toNat) : portOfCode b = none := by
  unfold portOfCode
  repeat rw [if_neg (ne_of_lt_toNat (by simp; omega))]

theorem ne_ff (h : b.toNat ≠ 255) : b ≠ 0xFF := by rintro rfl; exact h rfl

theorem optIndexOf_outside {n : Nat} (h : n ≤ b.toNat) (hff : b.toNat ≠ 255) : optIndexOf n b = none := by
  unfold optIndexOf
  rw [if_neg (ne_ff hff), indexOf_outside h]
  rfl

theorem optPortOf_outside (h : 6 < b.toNat) (hff : b.toNat ≠ 255) : optPortOf b = none := by
  unfold optPortOf
  rw [if_neg (ne_ff hff), portOfCode_outside h]
  rfl

end

/-- Bytes are spelt by the field that they spell. -/
theorem leBytes_leValue (l : List Byte) : leBytes l.length (leValue l) = l := by
  induction l with
  | nil => rfl
  | cons b bs ih =>
    have hb := b.isLt
    have hlow : BitVec.ofNat 8 (leValue (b :: bs)) = b :=
      BitVec.eq_of_toNat_eq (by rw [BitVec.toNat_ofNat, leValue]; omega)
    have hhigh : leValue (b :: bs) / 256 = leValue bs := by rw [leValue]; omega
    rw [List.length_cons, leBytes, hlow, hhigh, ih]

/-- Steps that are read from bytes fill them. -/
theorem parseSteps_fills {n : Nat} {bytes : List Byte} {script : List ScrubStep} (h : parseSteps n bytes = some script) :
    bytes = script.flatMap ScrubStep.bytes := by
  induction n generalizing bytes script with
  | zero =>
    cases bytes with
    | nil => rw [← Option.some.inj h]; rfl
    | cons => cases h
  | succ n ih =>
    match bytes, h with
    | [], h | [_], h | [_, _], h | [_, _, _], h | [_, _, _, _], h => cases h
    | a0 :: a1 :: a2 :: a3 :: l :: rest, h =>
      unfold parseSteps at h
      split at h
      · rename_i hl
        obtain ⟨more, hmore, rfl⟩ := Option.map_eq_some_iff.mp h
        have hv : (BitVec.ofNat 32 (leValue [a0, a1, a2, a3])).toNat = leValue [a0, a1, a2, a3] := by
          have := fieldAt_lt [a0, a1, a2, a3] 0 4
          rw [BitVec.toNat_ofNat]
          exact Nat.mod_eq_of_lt this
        have haddr : leBytes 4 (BitVec.ofNat 32 (leValue [a0, a1, a2, a3])).toNat = [a0, a1, a2, a3] := by
          rw [hv]; exact leBytes_leValue [a0, a1, a2, a3]
        have hdata : (rest.take l.toNat).length = l.toNat := by rw [List.length_take]; omega
        rw [List.flatMap_cons, ← ih hmore, ScrubStep.bytes, haddr, hdata, BitVec.ofNat_toNat, BitVec.setWidth_eq]
        simp
      · cases h

/-! ### Each command behind its checks (R158) -/

/-- The domains that may issue a command (R159). -/
def commandAllowed (code : Byte) (m : MgmtPacket) : Domain → Bool :=
  if code.toNat ≤ 3 then anyPort else if code.toNat ≤ 5 then ownDomain m else onlyP

/-- What a command does once it may be issued: it refuses the parameter lengths and the values that R158 lets it refuse. -/
structure CommandBody (code : Byte) (m : MgmtPacket) (body : Domain → State → State) : Prop where
  runs   : ∀ p s, exec (commandOfCode p code m) s = .next (takeCommand p code m (commandAllowed code m) body s)
  length : m.params.length ≤ 64 → m.params.length ∉ acceptedLengths code → ∀ d s, body d s = badParameter d m s
  value  : m.params.length ∈ acceptedLengths code → RefusedValue code m.params → ∀ d s, body d s = badParameter d m s

section
variable {code : Byte} {m : MgmtPacket}

/-! The shapes of the commands: without parameters, with one byte, with two, with three, and with a longer fixed length. -/

theorem commandBody_none {f : Domain → State → State} (hacc : acceptedLengths code = [0])
    (hruns : ∀ p s, exec (commandOfCode p code m) s = .next (takeCommand p code m (commandAllowed code m)
      (fun d s => match m.params with | [] => f d s | _ :: _ => badParameter d m s) s))
    (hvalue : ¬RefusedValue code []) : ∃ body, CommandBody code m body := by
  refine ⟨_, hruns, fun _ hl d s => ?_, fun hl hv => ?_⟩
  · split
    · rename_i h; rw [h, hacc] at hl; exact absurd (List.mem_singleton.mpr rfl) hl
    · rfl
  · rw [hacc] at hl
    rw [List.length_eq_zero_iff.mp (List.mem_singleton.mp hl)] at hv
    exact absurd hv hvalue

theorem commandBody_one {f : Byte → Domain → State → State} (hacc : acceptedLengths code = [1])
    (hruns : ∀ p s, exec (commandOfCode p code m) s = .next (takeCommand p code m (commandAllowed code m)
      (fun d s => match m.params with | [b] => f b d s | _ => badParameter d m s) s))
    (hvalue : ∀ b, RefusedValue code [b] → ∀ d s, f b d s = badParameter d m s) : ∃ body, CommandBody code m body := by
  refine ⟨_, hruns, fun _ hl d s => ?_, fun hl hv d s => ?_⟩
  · split
    · rename_i h; rw [h, hacc] at hl; exact absurd (List.mem_singleton.mpr rfl) hl
    · rfl
  · rw [hacc] at hl
    obtain ⟨b, hb⟩ := List.length_eq_one_iff.mp (List.mem_singleton.mp hl)
    rw [hb] at hv
    simp only [hb, hvalue b hv]

theorem commandBody_two {f : Byte → Byte → Domain → State → State} (hacc : acceptedLengths code = [2])
    (hruns : ∀ p s, exec (commandOfCode p code m) s = .next (takeCommand p code m (commandAllowed code m)
      (fun d s => match m.params with | [b, c] => f b c d s | _ => badParameter d m s) s))
    (hvalue : ∀ b c, RefusedValue code [b, c] → ∀ d s, f b c d s = badParameter d m s) : ∃ body, CommandBody code m body := by
  refine ⟨_, hruns, fun _ hl d s => ?_, fun hl hv d s => ?_⟩
  · split
    · rename_i h; rw [h, hacc] at hl; exact absurd (List.mem_singleton.mpr rfl) hl
    · rfl
  · rw [hacc] at hl
    obtain ⟨b, c, hb⟩ := List.length_eq_two.mp (List.mem_singleton.mp hl)
    rw [hb] at hv
    simp only [hb, hvalue b c hv]

theorem commandBody_fixed {n : Nat} {f : Domain → State → State} (hacc : acceptedLengths code = [n])
    (hruns : ∀ p s, exec (commandOfCode p code m) s = .next (takeCommand p code m (commandAllowed code m)
      (fun d s => if m.params.length = n then f d s else badParameter d m s) s))
    (hvalue : RefusedValue code m.params → ∀ d s, f d s = badParameter d m s) : ∃ body, CommandBody code m body := by
  refine ⟨_, hruns, fun _ hl d s => ?_, fun hl hv d s => ?_⟩
  · rw [hacc] at hl
    exact if_neg (fun h => hl (List.mem_singleton.mpr h))
  · rw [hacc] at hl
    rw [if_pos (List.mem_singleton.mp hl), hvalue hv]

/-! The commands. -/

/-! The commands. -/

/-! The commands. -/

/-! The commands. -/

theorem commandBody_status : ∃ body, CommandBody 0x01 m body :=
  commandBody_none rfl (fun _ _ => rfl) (by simp [RefusedValue])

theorem commandBody_timeRead : ∃ body, CommandBody 0x02 m body :=
  commandBody_none rfl (fun _ _ => rfl) (by simp [RefusedValue])

theorem commandBody_faultFetch : ∃ body, CommandBody 0x03 m body :=
  commandBody_one rfl (fun _ _ => rfl) fun b hv => by simp [RefusedValue] at hv

theorem commandBody_flagsTake : ∃ body, CommandBody 0x04 m body :=
  commandBody_one rfl (fun _ _ => rfl) fun b hv d s => by
    have hout : 2 < b.toNat := by simpa [RefusedValue] using hv
    simp only [domainOfCode_outside hout]

theorem commandBody_scoreRead : ∃ body, CommandBody 0x05 m body :=
  commandBody_one rfl (fun _ _ => rfl) fun b hv d s => by
    have hout : b.toNat ≠ 0 ∧ b.toNat ≠ 2 := by simpa [RefusedValue] using hv
    simp only [scoredOfCode_outside hout.1 hout.2]

theorem commandBody_tableClone : ∃ body, CommandBody 0x10 m body :=
  commandBody_none rfl (fun _ _ => rfl) (by simp [RefusedValue])

/-- An image with a value outside what an entry accepts is none (R148, R170). -/
theorem entryOfImage_outside {image : List Byte} {pinned : Bool}
    (h : 6 < (byteAt image 4).toNat ∨ (15 < (byteAt image 5).toNat ∧ (byteAt image 5).toNat ≠ 255) ∨
      (7 < (byteAt image 6).toNat ∧ (byteAt image 6).toNat ≠ 255) ∨ (byteAt image 1).toNat / 16 % 4 = 3) :
    entryOfImage image pinned = none := by
  unfold entryOfImage
  dsimp only
  split
  · rename_i ht hm hu hs
    rcases h with h | ⟨h, hff⟩ | ⟨h, hff⟩ | h
    · rw [portOfCode_outside h] at ht; cases ht
    · rw [optIndexOf_outside h hff] at hm; cases hm
    · rw [optIndexOf_outside h hff] at hu; cases hu
    · rw [h] at hs; cases hs
  · rfl

theorem commandBody_entryWrite : ∃ body, CommandBody 0x11 m body :=
  commandBody_fixed rfl (fun _ _ => rfl) fun hv d s => by
    have hout : 95 < (byteAt m.params 0).toNat ∨ 6 < (byteAt m.params 4).toNat ∨
        (15 < (byteAt m.params 5).toNat ∧ (byteAt m.params 5).toNat ≠ 255) ∨
        (7 < (byteAt m.params 6).toNat ∧ (byteAt m.params 6).toNat ≠ 255) ∨ (byteAt m.params 1).toNat / 16 % 4 = 3 := by
      simpa [RefusedValue, byteAt] using hv
    split
    · rfl
    · rename_i i hi
      rw [entryOfImage_outside (hout.resolve_left fun h => by rw [indexOf_outside h] at hi; cases hi)]

theorem commandBody_entryRead : ∃ body, CommandBody 0x12 m body :=
  commandBody_two rfl (fun _ _ => rfl) fun b c hv d s => by
    have hout : 1 < b.toNat ∨ 95 < c.toNat := by simpa [RefusedValue] using hv
    rcases hout with h | h
    · simp only [bankOf_outside s h]
    · simp only [indexOf_outside h]
      cases bankOf s b <;> rfl

theorem commandBody_tableCommit : ∃ body, CommandBody 0x13 m body :=
  commandBody_none rfl (fun _ _ => rfl) (by simp [RefusedValue])

theorem commandBody_entryPin : ∃ body, CommandBody 0x14 m body :=
  commandBody_one rfl (fun _ _ => rfl) fun b hv d s => by
    have hout : 95 < b.toNat := by simpa [RefusedValue] using hv
    simp only [indexOf_outside hout]

/-- An image with a value outside what a definition accepts is none (R43, R171). -/
theorem definitionOfImage_outside {image : List Byte}
    (h : (6 < (byteAt image 1).toNat ∧ (byteAt image 1).toNat ≠ 255) ∨ (byteAt image 2).toNat / 2 % 4 = 3 ∨
      4 < (byteAt image 3).toNat ∨ ∀ script : List ScrubStep, script.length = (byteAt image 3).toNat →
        (∀ st ∈ script, 1 ≤ st.data.length ∧ st.data.length ≤ 16) → image.drop 16 ≠ script.flatMap ScrubStep.bytes) :
    definitionOfImage image = none := by
  unfold definitionOfImage
  dsimp only
  split
  · rename_i hp hs hscript
    rcases h with ⟨h, hff⟩ | h | h | h
    · rw [optPortOf_outside h hff] at hp; cases hp
    · rw [h] at hs; cases hs
    · rw [if_neg (by omega)] at hscript; cases hscript
    · split at hscript
      · obtain ⟨hlen, hdata⟩ := parseSteps_some hscript
        exact absurd (parseSteps_fills hscript) (h _ hlen hdata)
      · cases hscript
  · rfl

/-- The parameter lengths that UNIT_DEFINE accepts are 16 to 64 (R175). -/
theorem unitDefine_length {n : Nat} : n ∈ acceptedLengths 0x20 ↔ 16 ≤ n ∧ n ≤ 64 := by
  have h : acceptedLengths 0x20 = (List.range 49).map (fun n => n + 16) := rfl
  simp only [h, List.mem_map, List.mem_range]
  exact ⟨fun ⟨a, ha, hn⟩ => by omega, fun ⟨h1, h2⟩ => ⟨n - 16, by omega, by omega⟩⟩

theorem commandBody_unitDefine : ∃ body, CommandBody 0x20 m body := by
  refine ⟨fun d => defineUnit d m, fun _ _ => rfl, fun h64 hl d s => ?_, fun hl hv d s => ?_⟩
  · rw [unitDefine_length] at hl
    exact if_pos (by omega)
  · rw [unitDefine_length] at hl
    have hout : 7 < (byteAt m.params 0).toNat ∨ (6 < (byteAt m.params 1).toNat ∧ (byteAt m.params 1).toNat ≠ 255) ∨
        (byteAt m.params 2).toNat / 2 % 4 = 3 ∨ 4 < (byteAt m.params 3).toNat ∨
        ∀ script : List ScrubStep, script.length = (byteAt m.params 3).toNat →
          (∀ st ∈ script, 1 ≤ st.data.length ∧ st.data.length ≤ 16) → m.params.drop 16 ≠ script.flatMap ScrubStep.bytes := by
      have hbytes : ScrubStep.bytes = fun st => leBytes 4 st.addr.toNat ++ [BitVec.ofNat 8 st.data.length] ++ st.data := rfl
      simpa [RefusedValue, byteAt, hbytes] using hv
    unfold defineUnit
    rw [if_neg (by omega)]
    rcases hout with h | h
    · rw [indexOf_outside h]
    · rw [definitionOfImage_outside h]
      cases indexOf 8 (byteAt m.params 0) <;> rfl

theorem commandBody_custodyTake : ∃ body, CommandBody 0x21 m body :=
  commandBody_two rfl (fun _ _ => rfl) fun b c hv d s => by
    have hout : 7 < b.toNat ∨ 3 < c.toNat := by simpa [RefusedValue] using hv
    rcases hout with h | h
    · simp only [indexOf_outside h]
    · simp only [targetOfCode_outside h]
      cases indexOf 8 b <;> rfl

theorem commandBody_custodyReturn : ∃ body, CommandBody 0x22 m body :=
  commandBody_one rfl (fun _ _ => rfl) fun b hv d s => by
    have hout : 7 < b.toNat := by simpa [RefusedValue] using hv
    simp only [indexOf_outside hout]

theorem commandBody_unitRead : ∃ body, CommandBody 0x23 m body :=
  commandBody_one rfl (fun _ _ => rfl) fun b hv d s => by
    have hout : 7 < b.toNat := by simpa [RefusedValue] using hv
    simp only [indexOf_outside hout]

theorem commandBody_meterSet : ∃ body, CommandBody 0x30 m body :=
  commandBody_fixed rfl (fun _ _ => rfl) fun hv d s => by
    have hout : 15 < (byteAt m.params 0).toNat := by simpa [RefusedValue, byteAt] using hv
    simp only [indexOf_outside hout]

theorem commandBody_meterRead : ∃ body, CommandBody 0x31 m body :=
  commandBody_one rfl (fun _ _ => rfl) fun b hv d s => by
    have hout : 15 < b.toNat := by simpa [RefusedValue] using hv
    simp only [indexOf_outside hout]

theorem commandBody_faultControl : ∃ body, CommandBody 0x40 m body := by
  refine ⟨_, fun _ _ => rfl, fun _ hl d s => ?_, fun hl hv d s => ?_⟩
  · split
    · rename_i h; rw [h] at hl; exact absurd (show 1 ∈ acceptedLengths 0x40 by decide) hl
    · rename_i h; rw [h] at hl; exact absurd (show 3 ∈ acceptedLengths 0x40 by decide) hl
    · rfl
  · have hout : (byteAt m.params 0).toNat = 0 ∨ 14 < (byteAt m.params 0).toNat := by simpa [RefusedValue, byteAt] using hv
    have hclass := classOfCode_outside hout
    split
    · rename_i b h
      rw [h] at hclass
      rw [show classOfCode b = none from hclass]
    · rename_i b _ _ h
      rw [h] at hclass
      rw [show classOfCode b = none from hclass]
    · rfl

theorem commandBody_scoreControl : ∃ body, CommandBody 0x41 m body :=
  commandBody_fixed rfl (fun _ _ => rfl) fun hv d s => by
    have hout : (byteAt m.params 0).toNat ≠ 0 ∧ (byteAt m.params 0).toNat ≠ 2 := by simpa [RefusedValue, byteAt] using hv
    simp only [scoredOfCode_outside hout.1 hout.2]

theorem commandBody_pardon : ∃ body, CommandBody 0x42 m body :=
  commandBody_one rfl (fun _ _ => rfl) fun b hv d s => by
    have hout : b.toNat ≠ 0 ∧ b.toNat ≠ 2 := by simpa [RefusedValue] using hv
    simp only [scoredOfCode_outside hout.1 hout.2]

theorem commandBody_quarantine : ∃ body, CommandBody 0x43 m body :=
  commandBody_one rfl (fun _ _ => rfl) fun b hv d s => by
    have hout : b.toNat ≠ 0 ∧ b.toNat ≠ 2 := by simpa [RefusedValue] using hv
    simp only [scoredOfCode_outside hout.1 hout.2]

theorem commandBody_domainSet : ∃ body, CommandBody 0x44 m body := by
  refine ⟨_, fun _ _ => rfl, fun _ hl d s => ?_, fun hl hv d s => ?_⟩
  · split
    · rename_i h; rw [h] at hl; exact absurd (show 3 ∈ acceptedLengths 0x44 by decide) hl
    · rfl
  · obtain ⟨x, y, z, h⟩ := List.length_eq_three.mp (List.mem_singleton.mp (show m.params.length ∈ [3] from hl))
    have hout : 2 < x.toNat ∨ 1 < y.toNat := by simpa [RefusedValue, h] using hv
    rcases hout with hx | hy
    · simp only [h, domainOfCode_outside hx]
    · simp only [h, domainStyleOfCode_outside hy]
      cases domainOfCode x <;> rfl

theorem commandBody_portSet : ∃ body, CommandBody 0x50 m body :=
  commandBody_fixed rfl (fun _ _ => rfl) fun hv d s => by
    have hout : 6 < (byteAt m.params 0).toNat := by simpa [RefusedValue, byteAt] using hv
    simp only [portOfCode_outside hout]

theorem commandBody_portReset : ∃ body, CommandBody 0x51 m body :=
  commandBody_one rfl (fun _ _ => rfl) fun b hv d s => by
    have hout : 6 < b.toNat := by simpa [RefusedValue] using hv
    simp only [portOfCode_outside hout]

theorem commandBody_gateReset : ∃ body, CommandBody 0x52 m body :=
  commandBody_none rfl (fun _ _ => rfl) (by simp [RefusedValue])

/-- Every code of a command has its command, which checks in the order of R158. -/
theorem commandBody_of_code (h : code ∈ commandCodes) : ∃ body, CommandBody code m body := by
  simp only [commandCodes, List.mem_cons, List.not_mem_nil, or_false] at h
  rcases h with rfl | rfl | rfl | rfl | rfl | rfl | rfl | rfl | rfl | rfl | rfl | rfl | rfl | rfl | rfl | rfl | rfl | rfl | rfl |
    rfl | rfl | rfl | rfl | rfl
  exacts [commandBody_status, commandBody_timeRead, commandBody_faultFetch, commandBody_flagsTake, commandBody_scoreRead,
    commandBody_tableClone, commandBody_entryWrite, commandBody_entryRead, commandBody_tableCommit, commandBody_entryPin,
    commandBody_unitDefine, commandBody_custodyTake, commandBody_custodyReturn, commandBody_unitRead, commandBody_meterSet,
    commandBody_meterRead, commandBody_faultControl, commandBody_scoreControl, commandBody_pardon, commandBody_quarantine,
    commandBody_domainSet, commandBody_portSet, commandBody_portReset, commandBody_gateReset]

end

/-! ### The right to a command (R159) -/

/-- A and M may not issue a command of P, nor ask for another domain. -/
theorem commandAllowed_denied {d : Domain} {code : Byte} {m : MgmtPacket} (hd : d ≠ .pay)
    (h : 5 < code.toNat ∨ ((code = 4 ∨ code = 5) ∧ ∃ x : Domain, x ≠ d ∧ m.params = [x.code])) :
    commandAllowed code m d = false := by
  unfold commandAllowed
  rcases h with h | ⟨hc, x, hx, hm⟩
  · rw [if_neg (by omega), if_neg (by omega)]
    exact decide_eq_false hd
  · have hown : ownDomain m d = false := by
      cases d <;> simp [ownDomain, hm, hx] at hd ⊢
    rcases hc with rfl | rfl <;> exact hown

/-- P may issue every command, and every port a query and a command on no other domain. -/
theorem commandAllowed_permitted {d : Domain} {code : Byte} {m : MgmtPacket}
    (h : d = .pay ∨ code.toNat ≤ 3 ∨ ((code = 4 ∨ code = 5) ∧ ∃ b, m.params = [b] ∧ domainOfCode b = none)) :
    commandAllowed code m d = true := by
  unfold commandAllowed
  rcases h with rfl | h | ⟨hc, b, hm, hb⟩
  · split_ifs <;> rfl
  · rw [if_pos h]; rfl
  · have hown : ownDomain m d = true := by cases d <;> simp [ownDomain, hm, hb]
    rcases hc with rfl | rfl <;> exact hown

/-- Settles O49: every command checks its code, its right, its length and its values, in this order. -/
theorem refusedCommandsChangeNothing : Obligations.RefusedCommandsChangeNothing := by
  refine ⟨fun d code m s s1 hc h => ?_, fun d code m s s1 hd hc h hx => ?_, fun d code m s s1 hc hd h hl => ?_,
    fun d code m s s1 hl h hv hd => ?_⟩
  · have hno : commandCodes.contains code = false := by simpa using hc
    simp only [exec, execUnknownCommand, hno, Bool.false_eq_true, if_false, takeCommand_permitted (permitted := anyPort) h rfl,
      reply_answered h]
  · obtain ⟨body, hb⟩ := commandBody_of_code (m := m) hc
    rw [hb.runs, takeCommand_denied h (commandAllowed_denied hd hx)]
    exact congrArg _ (reply_up (((Quiet.raiseFault _ _).link _).trans h.1.up))
  · obtain ⟨body, hb⟩ := commandBody_of_code (m := m) hc
    rw [hb.runs, takeCommand_permitted h (commandAllowed_permitted (hd.imp_right .inl)), hb.length h.2.2.1 hl,
      badParameter_answered h]
  · have hc : code ∈ commandCodes := by
      by_contra hno
      simp only [commandCodes, List.mem_cons, List.not_mem_nil, or_false, not_or] at hno
      simp only [acceptedLengths, hno, List.mem_cons, List.not_mem_nil, or_self, if_false] at hl
    obtain ⟨body, hb⟩ := commandBody_of_code (m := m) hc
    have hallowed : commandAllowed code m d = true := by
      refine commandAllowed_permitted (hd.imp_right fun ⟨h45, hlt⟩ => .inr ⟨h45, ?_⟩)
      have hone : m.params.length ∈ [1] := by rcases h45 with rfl | rfl <;> exact hl
      obtain ⟨b, hb⟩ := List.length_eq_one_iff.mp (List.mem_singleton.mp hone)
      rw [hb] at hlt
      exact ⟨b, hb, domainOfCode_outside hlt⟩
    rw [hb.runs, takeCommand_permitted h hallowed, hb.value hl hv, badParameter_answered h]

end Sys2Proof.Machine
end

section
/-! PROOFS. Records and pieces that stand alone under their numbers; grants, and packets that leave (R9, R56, R62 to R67). -/

namespace Sys2Proof.Machine

open Sys2Proof

/-! ### A record alone under its number -/

/-- `r` is a record of `s`, and the only one of its number. -/
structure Lone (s : State) (r : Request) : Prop where
  mem  : r ∈ s.requests
  only : ∀ q ∈ s.requests, q.id = r.id → q = r

/-- `c` is a piece of `r`, and the only one of its number. -/
structure LonePiece (r : Request) (c : Piece) : Prop where
  mem  : c ∈ r.pieces
  only : ∀ y ∈ r.pieces, y.num = c.num → y = c

/-- The records with `r` replaced by `r'`. -/
def replaced (r r' : Request) (l : List Request) : List Request := l.map (fun q => if q.id = r.id then r' else q)

/-- The pieces with `c` replaced by `c'`. -/
def replacedPiece (c c' : Piece) (l : List Piece) : List Piece := l.map (fun y => if y.num = c.num then c' else y)

/-- A change of the record of a number is a replacement, where the record stands alone. -/
theorem map_lone {l : List Request} {r : Request} (hu : ∀ q ∈ l, q.id = r.id → q = r) (f : Request → Request) :
    l.map (fun q => if q.id = r.id then f q else q) = replaced r (f r) l :=
  List.map_congr_left fun q hq => by
    by_cases h : q.id = r.id
    · rw [if_pos h, if_pos h, hu q hq h]
    · rw [if_neg h, if_neg h]

theorem map_lonePiece {l : List Piece} {c : Piece} (hu : ∀ y ∈ l, y.num = c.num → y = c) (f : Piece → Piece) :
    l.map (fun y => if y.num = c.num then f y else y) = replacedPiece c (f c) l :=
  List.map_congr_left fun y hy => by
    by_cases h : y.num = c.num
    · rw [if_pos h, if_pos h, hu y hy h]
    · rw [if_neg h, if_neg h]

/-- The replacement keeps the records of other numbers. -/
theorem filter_replaced {r r' : Request} (hid : r'.id = r.id) (l : List Request) :
    (replaced r r' l).filter (fun q => decide (q.id ≠ r.id)) = l.filter (fun q => decide (q.id ≠ r.id)) := by
  induction l with
  | nil => rfl
  | cons q qs ih =>
    by_cases h : q.id = r.id
    · simpa [replaced, h, hid] using ih
    · simpa [replaced, h] using ih

theorem mem_replaced {r r' q : Request} {l : List Request} (hr : r ∈ l) :
    q ∈ replaced r r' l ↔ q = r' ∨ (q ∈ l ∧ q.id ≠ r.id) := by
  simp only [replaced, List.mem_map]
  constructor
  · rintro ⟨y, hy, rfl⟩
    by_cases h : y.id = r.id
    · exact .inl (if_pos h)
    · rw [if_neg h]; exact .inr ⟨hy, h⟩
  · rintro (rfl | ⟨hq, hne⟩)
    · exact ⟨r, hr, if_pos rfl⟩
    · exact ⟨q, hq, if_neg hne⟩

/-- A replacement stands alone as the record did. -/
theorem Lone.replaced {s t : State} {r r' : Request} (h : Lone s r) (hid : r'.id = r.id) (ht : t.requests = replaced r r' s.requests) :
    Lone t r' := by
  refine ⟨by rw [ht, mem_replaced h.mem]; exact .inl rfl, fun q hq hqid => ?_⟩
  rw [ht, mem_replaced h.mem] at hq
  rcases hq with rfl | ⟨-, hne⟩
  · rfl
  · exact absurd (hqid.trans hid) hne

theorem Lone.congr {s t : State} {r : Request} (h : Lone s r) (ht : t.requests = s.requests) : Lone t r := by
  obtain ⟨hm, hu⟩ := h
  exact ⟨ht ▸ hm, ht ▸ hu⟩

section
variable {s : State} {r : Request} {c : Piece}

theorem Lone.request (h : Lone s r) : s.request r.id = some r := request_of_mem h.mem h.only

theorem Lone.piece (h : Lone s r) (hc : LonePiece r c) : s.piece ⟨r.id, c.num⟩ = some (r, c) := by
  unfold State.piece
  rw [h.request]
  exact congrArg (Option.map _) (piece_of_mem hc.mem hc.only)

theorem Lone.modRequest (h : Lone s r) (f : Request → Request) :
    s.modRequest r.id f = { s with requests := Machine.replaced r (f r) s.requests } :=
  congrArg (fun l => { s with requests := l }) (map_lone h.only f)

theorem LonePiece.modPiece (hc : LonePiece r c) (f : Piece → Piece) :
    r.modPiece c.num f = { r with pieces := replacedPiece c (f c) r.pieces } :=
  congrArg (fun l => { r with pieces := l }) (map_lonePiece hc.only f)

theorem setPiece_lone (h : Lone s r) (hc : LonePiece r c) (f : Piece → Piece) :
    setPiece ⟨r.id, c.num⟩ f s =
      { s with requests := replaced r { r with pieces := replacedPiece c (f c) r.pieces } s.requests } :=
  (h.modRequest _).trans (by rw [hc.modPiece])

/-- A record whose piece `c` has ended in `st` (R50, R59, R69). -/
def Request.ended (r : Request) (c : Piece) (st : PieceState) : Request :=
  { r with
    pieces := replacedPiece c { c with state := st, ttag := none, deadline := none } r.pieces
    outstanding := r.outstanding - 1, worst := mergeEnd r.worst st }

/-- The end of a live piece (R50). -/
theorem endPiece_lone (h : Lone s r) (hc : LonePiece r c) (hl : c.state.live = true) (st : PieceState) :
    endPiece ⟨r.id, c.num⟩ st s = countOut r.unit 1 { s with requests := replaced r (r.ended c st) s.requests } := by
  unfold endPiece
  rw [h.piece hc]
  dsimp only
  rw [if_pos hl, h.modRequest, hc.modPiece]
  rfl

/-- A record with nothing outstanding is released; a request without a tag gets no answer (R56, R71). -/
theorem finishRequest_untagged (h : Lone s r) (h0 : r.outstanding = 0) (ht : r.tag = none) :
    finishRequest r.id s = { s with requests := s.requests.filter (fun q => decide (q.id ≠ r.id)) } := by
  unfold finishRequest
  rw [h.request]
  dsimp only
  rw [if_pos h0, ht]
  exact ite_self _

/-- A record with a piece outstanding stays (R56). -/
theorem finishRequest_stays (h : Lone s r) (h0 : r.outstanding ≠ 0) : finishRequest r.id s = s := by
  unfold finishRequest
  rw [h.request]
  exact if_neg h0

end

theorem countOut_requests (u : Option (Fin 8)) (n : Nat) (s : State) : (countOut u n s).requests = s.requests := by cases u <;> rfl

/-- An OK end changes no status (R69). -/
theorem PieceStatus.merge_ok (w : PieceStatus) : w.merge .ok = w := if_neg (Nat.not_lt_zero _)

/-! ### Packets that leave (R9, R63) -/

/-- The head of an UP port's outbound queue leaves it. -/
theorem headLeaves_up {p : Port} {pkt : OutPacket} {rest : List OutPacket} {s : State} (hup : (s.ports.get p).link = .up)
    (ho : (s.ports.get p).outbound = pkt :: rest) :
    headLeaves p s = some (pkt, { s with ports := s.ports.set p { s.ports.get p with outbound := rest } }) := by
  unfold headLeaves
  rw [if_pos ((s.isUp_iff p).mpr hup), show (s.port p).outbound = pkt :: rest from ho]
  rfl

/-- Settles O38: each packet leaves the head of the queue, and frees its place in its own record. -/
theorem packetsLeaveInOrder : Obligations.PacketsLeaveInOrder := by
  intro d rest s hup left v
  refine ⟨fun t st data ho => ?_, fun t st result ho => ?_, fun src code gap data ho => ?_, fun ho => ?_, fun ho => ?_⟩
  · simp only [exec, execCompletionLeaves, headLeaves_up hup ho, Domain.port_domain]
    rfl
  · simp only [exec, execReplyLeaves, headLeaves_up hup ho, Domain.port_domain]
    have hkeep : (fun c : Command => c.discard || decide (c.tag ≠ t)) = fun c => decide (c.discard = true ∨ c.tag ≠ t) := by
      funext c; cases c.discard <;> simp
    rw [hkeep]
    rfl
  · simp only [exec, execEventLeaves, headLeaves_up hup ho, Domain.port_domain]
    rfl
  · simp only [exec, execNoticeLeaves, headLeaves_up hup ho, Domain.port_domain]
    rfl
  · simp only [exec, execNoticeLeaves, headLeaves_up hup ho, Domain.port_domain]
    rfl

/-- Settles O37: the head of the queue names its holder, and the holder is changed by its kind. -/
theorem pieceLeavesTheLink : Obligations.PieceLeavesTheLink := by
  intro p t kind addr code data rest s hup ho v freed
  have hrun : exec (.pieceLeaves p) s =
      .next (pieceLeft p t { s with ports := s.ports.set p { s.ports.get p with outbound := rest } }) := by
    simp only [exec, execPieceLeaves, headLeaves_up hup ho]
  rw [hrun]
  refine ⟨fun r c htag hr hu hc hcu hg => ?_, fun u sent e htag => ?_⟩
  · have hs1 : Lone { s with ports := s.ports.set p { v with outbound := rest } } r := ⟨hr, hu⟩
    have hc1 : LonePiece r c := ⟨hc, hcu⟩
    have htag1 : (State.port { s with ports := s.ports.set p { v with outbound := rest } } p).tags.get t =
      .live (.piece ⟨r.id, c.num⟩) := by simpa [State.port] using htag
    unfold pieceLeft
    rw [htag1]
    dsimp only
    rw [hs1.piece hc1]
    refine ⟨fun hk => ?_, fun hk hnt => ?_⟩
    · dsimp only
      rw [if_neg hk, if_pos hg, setPiece_lone hs1 hc1]
      rfl
    · have hfree : setTag p t .free { s with ports := s.ports.set p { v with outbound := rest } } = { s with ports := freed } := by
        simp only [setTag, State.modPort, PerPort.get_set_same, PerPort.set_set, freed]
      have hs2 : Lone { s with ports := freed } r := ⟨hr, hu⟩
      have hout : Lone (countOut r.unit 1 { s with
          ports := freed, requests := replaced r (r.ended c (.resolved .ok)) s.requests }) (r.ended c (.resolved .ok)) :=
        hs2.replaced rfl (countOut_requests _ _ _)
      have hcount (l : List Request) : countOut r.unit 1 { s with ports := freed, requests := l } =
          { s with ports := freed, units := (countOut r.unit 1 s).units, requests := l } := by cases r.unit <;> rfl
      dsimp only
      rw [if_pos hk, hfree, endPiece_lone hs2 hc1 (by rw [hg]; rfl)]
      refine ⟨fun h1 => ?_, fun h1 => ?_⟩
      · refine congrArg _ ((finishRequest_untagged hout (by simp [Request.ended, h1]) hnt).trans ?_)
        rw [hcount]
        dsimp only
        rw [show (r.ended c (.resolved .ok)).id = r.id from rfl, filter_replaced (r := r) (r' := r.ended c _) rfl]
        cases r.unit <;> rfl
      · refine congrArg _ ((finishRequest_stays hout (by simp only [Request.ended]; omega)).trans ?_)
        rw [hcount]
        simp only [Request.ended, mergeEnd, PieceStatus.merge_ok]
        cases r.unit <;> rfl
  · have htag1 : (State.port { s with ports := s.ports.set p { s.ports.get p with outbound := rest } } p).tags.get t =
      .live (.scrub u sent e) := by simpa [State.port] using htag
    unfold pieceLeft
    rw [htag1]
    simp only [setTag, State.modPort, PerPort.get_set_same, PerPort.set_set]
    rfl

end Sys2Proof.Machine
end

section
/-! PROOFS. The grants of an arbiter (R58, R62, R63, R103). -/

namespace Sys2Proof.Machine

open Sys2Proof

/-- The lowest FREE tag is found (R63). -/
theorem lowestFree_some {v : Vector TagState 16} {t : Fin 16} (ht : v.get t = .free) (hlt : ∀ j : Fin 16, j < t → v.get j ≠ .free) :
    lowestFree v = some t := by
  have hlen : t.1 < allTags.length := t.isLt
  have hget : ∀ j : Fin 16, allTags[j.1]'j.isLt = j := by decide
  refine List.find?_eq_some_iff_getElem.mpr ⟨by simpa using ht, t.1, hlen, hget t, fun j hj => ?_⟩
  have hj16 : j < 16 := by omega
  have h := hlt ⟨j, hj16⟩ hj
  rw [show allTags[j] = ⟨j, hj16⟩ from hget ⟨j, hj16⟩]
  simpa using h

theorem lowestFree_none {v : Vector TagState 16} (h : ∀ j : Fin 16, v.get j ≠ .free) : lowestFree v = none :=
  List.find?_eq_none.mpr fun j _ => by simpa using h j

/-- The piece that R62 grants next, with the arbiter after it. -/
theorem choose_piece {x x' : Arbiter} {d : Domain} {ref : PieceRef} (hs : x.scrub = [])
    (h : (d = .pay ∧ ∃ rest, x.pay = ref :: rest ∧ x' = { x with pay := rest }) ∨
      (d = .app ∧ x.pay = [] ∧ (x.rad = [] ∨ x.turn = .app) ∧
        ∃ rest, x.app = ref :: rest ∧ x' = { x with app := rest, turn := if x.turn = .app then .rad else .app }) ∨
      (d = .rad ∧ x.pay = [] ∧ (x.app = [] ∨ x.turn = .rad) ∧
        ∃ rest, x.rad = ref :: rest ∧ x' = { x with rad := rest, turn := if x.turn = .app then .rad else .app })) :
    x.choose = some (.piece ref, x') := by
  obtain ⟨scrub, pay, app, rad, turn⟩ := x
  dsimp only at hs h
  subst hs
  have hother (y : Scored) : y.other = if y = .app then .rad else .app := by cases y <;> rfl
  rcases h with ⟨-, rest, rfl, rfl⟩ | ⟨-, rfl, hrad, rest, rfl, rfl⟩ | ⟨-, rfl, happ, rest, rfl, rfl⟩
  · rfl
  · cases rad with
    | nil => simp [Arbiter.choose, hother]
    | cons y ys =>
      obtain rfl : turn = .app := by simpa using hrad
      rfl
  · cases app with
    | nil => simp [Arbiter.choose, hother]
    | cons y ys =>
      obtain rfl : turn = .rad := by simpa using happ
      rfl

section
variable {p : Port} {t : Fin 16} {s : State}

/-- A grant of an UP port with a FREE tag is the grant of the lowest (R62). -/
theorem arbiterGrant_up {g : Granted} {x : Arbiter} (hup : (s.ports.get p).link = .up) (ht : (s.ports.get p).tags.get t = .free)
    (hlt : ∀ j : Fin 16, j < t → (s.ports.get p).tags.get j ≠ .free) (hg : (s.ports.get p).arbiter.choose = some (g, x)) :
    arbiterGrant p s = grantTag p t g (s.modPort p (fun v => { v with arbiter := x })) := by
  unfold arbiterGrant
  rw [if_pos ((s.isUp_iff p).mpr hup), show lowestFree (s.port p).tags = some t from lowestFree_some ht hlt,
    show (s.port p).arbiter.choose = some (g, x) from hg]

/-- A packet goes out under a tag that a holder takes at the same time. -/
theorem placeOut_setTag (hup : (s.ports.get p).link = .up) (x : Arbiter) (l : List Request) (v : TagState) (pkt : OutPacket) :
    placeOut p pkt { setTag p t v (s.modPort p (fun v => { v with arbiter := x })) with requests := l } =
      { s with
        ports := s.ports.set p
          { s.ports.get p with
            arbiter := x, tags := setAt (s.ports.get p).tags t v, outbound := (s.ports.get p).outbound ++ [pkt] }
        requests := l } := by
  rw [placeOut_up (by simpa [setTag, State.modPort] using hup)]
  simp only [withOut, setTag, State.modPort, PerPort.get_set_same, PerPort.set_set]

end

/-- The payload of a piece that goes out (R58). -/
theorem piecePayload_eq (r : Request) (c : Piece) :
    piecePayload r c = if r.kind = .read then [] else (r.payload.drop (c.addr - r.taddr).toNat).take c.len := by
  unfold piecePayload
  cases r.kind <;> rfl

/-- The deadline of a piece that is granted (R63, R73). -/
theorem grantDeadline_eq (r : Request) (t : Nat) :
    grantDeadline r t = if r.kind = .post ∨ r.deadline.value = 0 then none else some (t + r.deadline.duration) := by
  unfold grantDeadline TimeCode.expiry
  by_cases h : r.kind = .post
  · rw [if_pos h, if_pos (.inl h)]
  · by_cases hv : r.deadline.value = 0
    · rw [if_neg h, if_pos hv, if_pos (.inr hv)]
    · rw [if_neg h, if_neg hv, if_neg (not_or.mpr ⟨h, hv⟩)]

/-- Settles O36: the arbiter chooses by R62, and the grant takes the lowest FREE tag. -/
theorem arbiterGrantsInOrder : Obligations.ArbiterGrantsInOrder := by
  refine ⟨fun p t s hup ht hlt => ?_, fun p s h => ?_⟩
  · intro v x
    refine ⟨fun u us st hs hpos hst => ?_, fun r c d x' hs hr hu hc hq hchoose => ?_⟩
    · have hg : x.choose = some (.scrub u, { x with scrub := us }) := by
        obtain ⟨scrub, pay, app, rad, turn⟩ := x
        dsimp only at hs
        subst hs
        rfl
      have hstep : (s.units.get u).step = some st := (if_neg (by omega)).trans hst
      refine congrArg Host.Outcome.next ((arbiterGrant_up hup ht hlt hg).trans ?_)
      unfold grantTag
      dsimp only
      rw [show ((s.modPort p _).unit u).step = some st from hstep]
      refine (placeOut_setTag hup _ s.requests _ _).trans ?_
      simp only [State.port, State.modPort, PerPort.get_set_same]
      rfl
    · intro deadline
      refine congrArg Host.Outcome.next ((arbiterGrant_up hup ht hlt (choose_piece hs hchoose)).trans ?_)
      have hlone : Lone s r := ⟨hr, hu⟩
      have hpiece : (s.modPort p (fun v => { v with arbiter := x' })).piece ⟨r.id, c.num⟩ = some (r, c) := by
        have hp : s.piece ⟨r.id, c.num⟩ = some (r, c) := by
          unfold State.piece
          rw [hlone.request]
          exact congrArg (Option.map _) hc
        exact (Moves.piece_congr rfl _).trans hp
      unfold grantTag
      dsimp only
      rw [hpiece]
      dsimp only
      rw [if_pos hq]
      have hlone' : Lone (setTag p t (.live (.piece ⟨r.id, c.num⟩)) (s.modPort p (fun v => { v with arbiter := x' }))) r :=
        hlone.congr rfl
      rw [setPiece, hlone'.modRequest, placeOut_setTag hup, piecePayload_eq, grantDeadline_eq]
      rfl
  · refine congrArg Host.Outcome.next ?_
    unfold arbiterGrant
    rcases h with h | h | ⟨hs, hp, ha, hr⟩
    · rw [if_neg fun hu => h ((s.isUp_iff p).mp hu)]
    · rw [show lowestFree (s.port p).tags = none from lowestFree_none h]
      exact ite_self _
    · have hnone : (s.port p).arbiter.choose = none := by
        have hx : (s.port p).arbiter = (s.ports.get p).arbiter := rfl
        rw [hx]
        cases hv : (s.ports.get p).arbiter
        rw [hv] at hs hp ha hr
        dsimp only at hs hp ha hr
        subst hs hp ha hr
        rfl
      rw [hnone]
      cases lowestFree (s.port p).tags <;> exact ite_self _

end Sys2Proof.Machine
end

section
/-! PROOFS. Packets that fail a check of R7 (R7, R8, R65, R127). -/

namespace Sys2Proof.Machine

open Sys2Proof

section
variable {p : Port} {s s1 : State}

/-- The fault of a packet that fails one of the checks 1 to 3 names the port alone (R127). -/
theorem malformedFault_early {n : Nat} (p : Port) (pkt : Packet) (hn : n ≠ 4) :
    malformedFault p pkt n = ⟨.malformed, p.byte, p.domain, none, none, none, none, none, none, none, none, n⟩ :=
  if_neg hn

/-- A packet that no other row takes, and that fails a check, is discarded with that check's number (R8). -/
theorem malformedTaken_runs {pkt : Packet} {n : Nat} (h : Arrives p pkt s s1) (hc : checkPacket s1 p pkt = some n) :
    exec (.malformedPacketTaken p pkt) s = .next (raiseFault (malformedFault p pkt n) s1) := by
  refine congrArg Host.Outcome.next ((if_pos ?_).trans (takePacket_bad h hc))
  rw [h.fromIngress, Option.any_some, hc]
  rfl

/-! ### The checks of R7 -/

theorem checkPacket_noPort {pkt : Packet} (s : State)
    (h : (∃ k t l a y, pkt = .request k t l a y ∧ p.initiator = false) ∨ (∃ c m, pkt = .manage c m ∧ p.initiator = false) ∨
      (∃ x c g l y, pkt = .event x c g l y ∧ p.sendsEvents = false) ∨ (∃ rest, pkt = .manageReply rest)) :
    checkPacket s p pkt = some 2 := by
  have hdomain (hp : p.initiator = false) : p.domain = none := by revert hp; cases p <;> decide
  rcases h with ⟨k, t, l, a, y, rfl, hp⟩ | ⟨c, m, rfl, hp⟩ | ⟨x, c, g, l, y, rfl, hp⟩ | ⟨rest, rfl⟩
  · simp only [checkPacket, hdomain hp]
  · simp only [checkPacket, hdomain hp]
  · simp only [checkPacket, hp, Bool.false_eq_true, if_false]
  · rfl

theorem checkPacket_request (d : Domain) (kind : Kind) (tag : Fin 32) (code : Byte) (addr : Addr) (data : List Byte) (s : State) :
    checkPacket s d.port (.request kind tag code addr data) =
      if requestLengthOk kind code data then (if kind ≠ .post ∧ (s.init d).tags.contains tag = true then some 4 else none)
      else some 3 := by
  simp only [checkPacket, Domain.port_domain]

theorem checkPacket_manage (d : Domain) (code : Byte) (m : MgmtPacket) (s : State) :
    checkPacket s d.port (.manage code m) =
      if m.params.length ≤ 64 ∧ m.params.length = m.declared.toNat then (if tagInUse s d m.tag then some 4 else none)
      else some 3 := by
  simp only [checkPacket, Domain.port_domain]

theorem requestLengthOk_iff {kind : Kind} {code : Byte} {data : List Byte} : requestLengthOk kind code data = true ↔
    (kind = .read ∧ data = []) ∨ (kind ≠ .read ∧ data.length = lengthOfCode code) := by
  cases kind <;> simp [requestLengthOk]

/-- A MANAGE packet that fails a check is discarded by whichever command its code names (R7, R8, R158). -/
theorem commandOfCode_bad {code : Byte} {m : MgmtPacket} {n : Nat} (h : Arrives p (.manage code m) s s1)
    (hc : checkPacket s1 p (.manage code m) = some n) :
    exec (commandOfCode p code m) s = .next (raiseFault (malformedFault p (.manage code m) n) s1) := by
  by_cases hcode : code ∈ commandCodes
  · obtain ⟨body, hb⟩ := commandBody_of_code (m := m) hcode
    exact (hb.runs p s).trans (congrArg _ (takePacket_bad h hc))
  · have hunknown : commandOfCode p code m = .unknownCommand p code m := by
      simp only [commandCodes, List.mem_cons, List.not_mem_nil, or_false, not_or] at hcode
      simp only [commandOfCode, hcode, if_false]
    rw [hunknown]
    exact congrArg _ ((if_neg (by simpa using hcode)).trans (takePacket_bad h hc))

/-- A COMPLETION that passes the checks of R7 under a tag whose holder has not left the link is discarded with check 4 (R65). -/
theorem completionTaken_early {t : Fin 16} {status code : Byte} {present : Bool} {data : List Byte}
    (h : Arrives p (.completion t status present code data) s s1) (hl : data.length = (if present then lengthOfCode code else 0))
    (htag : (s.ports.get p).tags.get t = .free ∨ (∃ u e, (s.ports.get p).tags.get t = .live (.scrub u false e)) ∨
      (∃ r ∈ s.requests, ∃ c ∈ r.pieces, (s.ports.get p).tags.get t = .live (.piece ⟨r.id, c.num⟩) ∧
        (∀ q ∈ s.requests, q.id = r.id → q = r) ∧ (∀ y ∈ r.pieces, y.num = c.num → y = c) ∧ c.state = .granted)) :
    exec (.completionTaken p t status present code data) s =
      .next (raiseFault (malformedFault p (.completion t status present code data) 4) s1) := by
  have htags : (s1.port p).tags = (s.ports.get p).tags := h.tags p
  rcases htag with hfree | ⟨u, e, hlive⟩ | ⟨r, hr, c, hc, hlive, hone, honly, hgranted⟩
  · refine congrArg Host.Outcome.next (takePacket_bad h ?_)
    simp only [checkPacket, if_pos hl, htags, hfree, if_true]
  · rw [completionTaken_runs h hl (by rw [hlive]; simp), completionArrives, htags, hlive]
    rfl
  · rw [completionTaken_runs h hl (by rw [hlive]; simp), completionArrives, htags, hlive]
    have hrequests : s1.requests = s.requests := by obtain ⟨_, rfl⟩ := h.spec; rfl
    have hpiece : s1.piece ⟨r.id, c.num⟩ = some (r, c) := by
      simp only [State.piece, request_of_mem (s := s1) (by rw [hrequests]; exact hr) (by rw [hrequests]; exact hone),
        piece_of_mem hc honly, Option.map_some]
    simp only [hpiece, hgranted, reduceCtorEq, if_false]
    rfl

end

/-- Settles O48: the first failing check of each kind of packet, by the checks of its kind. -/
theorem malformedPacketIsDiscarded : Obligations.MalformedPacketIsDiscarded := by
  intro p s s1 fault
  refine ⟨fun kind rest h => malformedTaken_runs h rfl, fun pkt h hp => ?_, fun d kind tag code addr data hp h => ?_,
    fun tag status present code data h => ⟨fun hl => ?_, fun hl htag => completionTaken_early h hl htag⟩,
    fun source code gap declared data hp h hl => ?_, fun d code m hp h => ?_⟩
  · rw [malformedTaken_runs h (checkPacket_noPort s1 hp), malformedFault_early p pkt (by decide)]
  · subst hp
    have hrun {n : Nat} (hc : checkPacket s1 d.port (.request kind tag code addr data) = some n) :
        exec (.requestTaken d.port kind tag code addr data) s =
          .next (raiseFault (malformedFault d.port (.request kind tag code addr data) n) s1) :=
      congrArg Host.Outcome.next (takePacket_bad h hc)
    refine ⟨fun hl => ?_, fun hl htag => hrun (n := 4) ?_⟩
    · refine hrun (n := 3) ((checkPacket_request ..).trans (if_neg fun hok => ?_))
      have := requestLengthOk_iff.mp hok
      tauto
    · have hinits : s1.init d = s.inits.get d := congrArg (fun x => x.get d) h.inits
      have hok : requestLengthOk kind code data = true := requestLengthOk_iff.mpr (by rcases hl with hl | ⟨rfl, hl⟩ <;> simp_all)
      rw [checkPacket_request, if_pos hok, hinits, if_pos]
      exact ⟨by rcases hl with hl | hl <;> simp [hl.1], by simpa using htag⟩
  · refine congrArg Host.Outcome.next (takePacket_bad (n := 3) h (if_neg hl))
  · refine congrArg Host.Outcome.next (takePacket_bad (n := 3) h ?_)
    simp only [checkPacket, if_pos hp]
    exact if_neg (by omega)
  · subst hp
    have hinits : s1.init d = s.inits.get d := congrArg (fun x => x.get d) h.inits
    refine ⟨fun hl => commandOfCode_bad (n := 3) h ((checkPacket_manage ..).trans (if_neg (by omega))), fun hl hb hused => ?_⟩
    have hc : checkPacket s1 d.port (.manage code m) = some 4 := by
      have htag : tagInUse s1 d m.tag = true := by
        obtain ⟨c, hc, hdiscard, htag⟩ := hused
        simp only [tagInUse, hinits, List.any_eq_true]
        exact ⟨c, hc, by simp [hdiscard, htag]⟩
      rw [checkPacket_manage, if_pos ⟨hb, hl⟩, if_pos htag]
    exact ⟨commandOfCode_bad h hc, malformedTaken_runs h hc⟩

end Sys2Proof.Machine
end

section
/-! PROOFS. The decision of a request that arrives: the match, the denials, the unit and the admission (R25 to R35, R49, R51, R57, R60). -/

namespace Sys2Proof.Machine

open Sys2Proof

/-! ### From the packet to the decision (R4, R25, R57) -/

/-- The request that a packet brings. -/
def arrivalOf (d : Domain) (kind : Kind) (tag : Fin 32) (code : Byte) (addr : Addr) (payload : List Byte) : Arrival :=
  ⟨d, if kind = .post then none else some tag, kind, addr, lengthOfCode code, payload⟩

/-- `t` decides on requests as `s` does: the bank, the domains, the units, the records, the meters and the ports' links and configurations
are the same. -/
structure SameDecision (s t : State) : Prop where
  active : t.active = s.active
  domains : t.domains = s.domains
  units : t.units = s.units
  requests : t.requests = s.requests
  meters : t.meters = s.meters
  link : ∀ p, (t.ports.get p).link = (s.ports.get p).link
  config : ∀ p, (t.ports.get p).config = (s.ports.get p).config

theorem SameDecision.matched {s t : State} (h : SameDecision s t) {d : Domain} {a : Addr} {i : Fin 96} (hm : Matched s d a i) :
    Matched t d a i := by
  unfold Matched State.domain at *
  rw [h.active, h.domains]
  exact hm

theorem Arrives.sameDecision {p : Port} {pkt : Packet} {s s1 : State} (h : Arrives p pkt s s1) : SameDecision s s1 := by
  have hlink := h.link
  have hconfig := h.config
  obtain ⟨rest, rfl⟩ := h.spec
  exact ⟨rfl, rfl, rfl, rfl, rfl, hlink, hconfig⟩

section
variable {d : Domain} {kind : Kind} {tag : Fin 32} {code : Byte} {addr : Addr} {payload : List Byte} {s s1 : State}

theorem RequestArrives.sameDecision (h : RequestArrives d kind tag code addr payload s s1) : SameDecision s (withTag d kind tag s1) := by
  obtain ⟨h1, h2, h3, h4, h5, h6, h7⟩ := h.1.sameDecision
  unfold withTag
  split
  · exact ⟨h1, h2, h3, h4, h5, h6, h7⟩
  · exact ⟨h1, h2, h3, h4, h5, h6, h7⟩

theorem SameDecision.postCount {s t : State} (h : SameDecision s t) (d : Domain) : postCount t d = postCount s d := by
  simp only [Machine.postCount, h.units, h.requests]

/-- A request within the POST allowance is decided with its tag in the tag set (R4, R57). -/
theorem requestTaken_decides (h : RequestArrives d kind tag code addr payload s s1) (hp : kind = .post → postCount s d < 16) :
    exec (.requestTaken d.port kind tag code addr payload) s =
      .next (decideRequest (arrivalOf d kind tag code addr payload) (withTag d kind tag s1)) := by
  rw [execRequestTaken_arrives h, requestArrives, withTag, arrivalOf]
  by_cases hk : kind = .post
  · rw [if_pos hk, if_pos hk, if_pos hk, if_pos (by rw [h.1.sameDecision.postCount]; exact hp hk)]
  · rw [if_neg hk, if_neg hk, if_neg hk]
    rfl

/-- A POST beyond the allowance is dropped (R57). -/
theorem requestTaken_dropped (h : RequestArrives d kind tag code addr payload s s1) (hk : kind = .post) (hp : 16 ≤ postCount s d) :
    exec (.requestTaken d.port kind tag code addr payload) s = .next (withFlag d .throttled s1) := by
  rw [execRequestTaken_arrives h, requestArrives, if_pos hk,
    if_neg (by rw [h.1.sameDecision.postCount]; exact Nat.not_lt.mpr hp)]
  rfl

/-! ### Denials (R32 to R35) -/

/-- On an UP port the answer of a request is placed, unless it is a POST (R33, R34). -/
theorem answerTo_arrival {st : AnswerStatus} {data : List Byte} {t : State} (hu : (t.ports.get d.port).link = .up) :
    answerTo d (if kind = .post then none else some tag) st data t = withAnswer d kind tag st data t := by
  unfold withAnswer
  split
  · rfl
  · exact placeOut_up hu

/-- A denial on an UP port: its answer and its flag, then its fault (R32 to R35). -/
theorem denyRequest_arrival (c : FaultClass) (e : Option EntryCopy) (unit : Option (Fin 8)) (style : Style) {t : State}
    (hu : (t.ports.get d.port).link = .up) :
    denyRequest c (arrivalOf d kind tag code addr payload) e unit style t =
      raiseFault (denialFault c (arrivalOf d kind tag code addr payload) e unit)
        (withDenial (style.effective (t.domains.get d).style) d kind tag (lengthOfCode code) t) := by
  unfold denyRequest withDenial
  rw [show t.domain (arrivalOf d kind tag code addr payload).dom = t.domains.get d from rfl]
  cases style.effective (t.domains.get d).style <;> exact congrArg (fun x => raiseFault _ (setFlag d _ x)) (answerTo_arrival hu)

theorem arrivalOf_recordTag : (arrivalOf d kind tag code addr payload).tag.map (fun t => BitVec.ofNat 8 t.1) =
    if kind = .post then none else some (BitVec.ofNat 8 tag.1) := by
  unfold arrivalOf
  split <;> rfl

/-! ### The match, the bounds and the kind (R26 to R29) -/

theorem decideRequest_unmatched {q : Arrival} {t : State} (h : ∀ i : Fin 96, ¬(t.active.get i).Meets q.dom (t.domain q.dom).mode q.addr) :
    decideRequest q t = denyRequest .noWindow q none none .default t := by
  rw [decideRequest, matchEntry_eq_none.mpr h]

theorem decideRequest_matched {q : Arrival} {t : State} {i : Fin 96} (h : Matched t q.dom q.addr i) :
    decideRequest q t =
      if (t.active.get i).base.toNat + sizeBytes (t.active.get i).size < q.addr.toNat + q.len then
        denyRequest .bounds q (some ((t.active.get i).copy i.1)) none (t.active.get i).style t
      else if (t.active.get i).kinds.has q.kind then decideCustody q ((t.active.get i).copy i.1) t
      else denyRequest .kind q (some ((t.active.get i).copy i.1)) none (t.active.get i).style t := by
  rw [decideRequest, matchEntry_eq_some h]

end

/-- Settles O31: each of the three steps denies in its style, with its own fault. -/
theorem requestWithoutAccessIsDenied : Obligations.RequestWithoutAccessIsDenied := by
  intro d kind tag code addr payload s s1 h hp len fault style
  have hsame := h.sameDecision
  have hup : ((withTag d kind tag s1).ports.get d.port).link = .up := by rw [hsame.link]; exact h.1.1
  have hstyle (e : Entry) : style e = e.style.effective (s.domains.get d).style := by
    simp only [style]
    cases e.style <;> rfl
  rw [requestTaken_decides h hp]
  refine ⟨fun hno => ?_, fun i hm => ⟨fun hb => ?_, fun hb hk => ?_⟩⟩
  · rw [decideRequest_unmatched (by rw [hsame.active, State.domain, hsame.domains]; exact hno), denyRequest_arrival _ _ _ _ hup,
      denialFault, arrivalOf_recordTag, hsame.domains]
    rfl
  · rw [decideRequest_matched (hsame.matched hm), hsame.active]
    refine congrArg _ ((if_pos hb).trans ?_)
    rw [denyRequest_arrival _ _ _ _ hup, denialFault, arrivalOf_recordTag, hsame.domains, ← hstyle]
    rfl
  · rw [decideRequest_matched (hsame.matched hm), hsame.active]
    refine congrArg _ ((if_neg (Nat.not_lt.mpr hb)).trans ((if_neg (by rw [show Arrival.kind _ = kind from rfl, hk]; simp)).trans ?_))
    rw [denyRequest_arrival _ _ _ _ hup, denialFault, arrivalOf_recordTag, hsame.domains, ← hstyle]
    rfl

/-! ### The answer of a unit (R51) -/

section
variable {v : CustodyUnit} {d : Domain} {n : Nat}

theorem CustodyUnit.answer_enter (h : v.state.Admits d) (hn : v.inFlight + n ≤ 1632) : v.answer d n = .enter := by
  unfold CustodyUnit.answer
  rcases h with h | h <;> rw [h]
  · exact if_pos hn
  · exact (if_pos rfl).trans (if_pos hn)

theorem Holding.admits_iff {t : Holding} : t.admits d = true ↔ t.Admits d := by
  cases t <;> simp [Holding.admits, Holding.Admits, eq_comm]

/-- The unit parks a request as far as its list has room (R51). -/
theorem CustodyUnit.answer_parks (h : v.state.Parks d) : v.answer d n = parkWithin v := by
  obtain ⟨t, hs | hs, ht⟩ := h
  all_goals
    unfold CustodyUnit.answer
    rw [hs]
    exact if_pos (Holding.admits_iff.mpr ht)

theorem CustodyUnit.answer_deny (h : (¬v.state.Admits d ∧ ¬v.state.Parks d) ∨ (v.state.Parks d ∧ 96 ≤ v.parked.length) ∨
    (v.state.Admits d ∧ 1632 < v.inFlight + n)) : v.answer d n = .deny := by
  rcases h with ⟨ha, hp⟩ | ⟨hp, hl⟩ | ⟨ha, hn⟩
  · unfold CustodyUnit.answer
    cases hs : v.state with
    | opened => exact absurd (.inl hs) ha
    | held g => exact if_neg fun e => ha (.inr (by rw [hs, e]))
    | draining t => exact if_neg fun e => hp ⟨t, .inl hs, Holding.admits_iff.mp e⟩
    | scrubbing t => exact if_neg fun e => hp ⟨t, .inr hs, Holding.admits_iff.mp e⟩
    | failed => rfl
  · rw [CustodyUnit.answer_parks hp]
    exact if_neg (Nat.not_lt.mpr hl)
  · unfold CustodyUnit.answer
    rcases ha with hs | hs <;> rw [hs]
    · exact if_neg (Nat.not_le.mpr hn)
    · exact (if_pos rfl).trans (if_neg (Nat.not_le.mpr hn))

end

/-! ### Admission (R31, R49, R58, R60, R61) -/

theorem splitRequest_length (burst : Burst) (t : Addr) {len : Nat} (st : PieceState) (h : 1 ≤ len) :
    (splitRequest burst t len st).length = splitCount burst t len := by
  have := burst.bytes_pos
  rw [splitRequest, splitFrom_length this st len 1 t.toNat len h (le_refl len), splitCount]
  congr 1
  omega

theorem Arbiter.modQueue_modQueue (x : Arbiter) (d : Domain) (f g : List PieceRef → List PieceRef) :
    (x.modQueue d f).modQueue d g = x.modQueue d (fun q => g (f q)) := by
  cases d <;> rfl

theorem Arbiter.modQueue_id (x : Arbiter) (d : Domain) : x.modQueue d (fun q => q) = x := by
  cases d <;> rfl

/-- Pieces that are queued one after another stand at the end of the queue in their order (R61). -/
theorem foldl_enqueuePiece (p : Port) (d : Domain) (refs : List PieceRef) (s : State) :
    refs.foldl (fun t ref => enqueuePiece p d ref t) s =
      { s with
        ports := s.ports.set p
          { s.ports.get p with arbiter := (s.ports.get p).arbiter.modQueue d (fun q => q ++ refs) } } := by
  induction refs generalizing s with
  | nil =>
    simp only [List.append_nil, Arbiter.modQueue_id, List.foldl_nil]
    rw [show (s.ports.set p { s.ports.get p with arbiter := (s.ports.get p).arbiter }) = s.ports from PerPort.set_get _ _]
  | cons ref refs ih =>
    rw [List.foldl_cons, ih]
    simp only [enqueuePiece, State.modPort, PerPort.get_set_same, PerPort.set_set, Arbiter.modQueue_modQueue, List.append_assoc,
      List.cons_append, List.nil_append]

/-- An admitted request toward an UP port is recorded and counted in, and goes to its meter or to the arbiter (R31, R49). -/
theorem admitRequest_up {q : Arrival} {e : EntryCopy} {s : State} (h : (s.ports.get e.target).link = .up) :
    admitRequest q e s =
      match e.meter with
      | some n => joinMeter n (admittedRecord s q e)
          (countIn e.unit (admittedRecord s q e).pieces.length (s.setRequests (s.requests ++ [admittedRecord s q e])))
      | none => (admittedRecord s q e).pieces.foldl (fun t c => enqueuePiece e.target q.dom ⟨freshRecord s.requests, c.num⟩ t)
          (countIn e.unit (admittedRecord s q e).pieces.length (s.setRequests (s.requests ++ [admittedRecord s q e]))) :=
  if_pos ((s.isUp_iff _).mpr h)

theorem admitRequest_down {q : Arrival} {e : EntryCopy} {s : State} (h : (s.ports.get e.target).link ≠ .up) :
    admitRequest q e s = answerTo q.dom q.tag .linkDown [] s :=
  if_neg fun hu => h ((s.isUp_iff _).mp hu)

/-- A request that its entry's unit, if any, lets in is admitted (R30, R51). -/
theorem decideCustody_enter {q : Arrival} {e : EntryCopy} {s : State}
    (h : ∀ u, e.unit = some u → (s.units.get u).answer q.dom (piecesThrough s q e) = .enter) :
    decideCustody q e s = admitRequest q e s := by
  unfold decideCustody
  cases hu : e.unit with
  | none => rfl
  | some u =>
    dsimp only
    rw [show (s.unit u).answer q.dom (piecesThrough s q e) = .enter from h u hu]

/-! ### The decision through an entry that allows the request -/

section
variable {d : Domain} {kind : Kind} {tag : Fin 32} {code : Byte} {addr : Addr} {payload : List Byte} {s s1 : State} {i : Fin 96}

/-- A request that its entry allows goes to the custody step (R30). -/
theorem requestTaken_allowed (h : RequestArrives d kind tag code addr payload s s1) (hp : kind = .post → postCount s d < 16)
    (hm : Matched s d addr i) (ha : (s.active.get i).Allows kind addr (lengthOfCode code)) :
    exec (.requestTaken d.port kind tag code addr payload) s =
      .next (decideCustody (arrivalOf d kind tag code addr payload) ((s.active.get i).copy i.1) (withTag d kind tag s1)) := by
  rw [requestTaken_decides h hp, decideRequest_matched (h.sameDecision.matched hm), h.sameDecision.active]
  exact congrArg _ ((if_neg (Nat.not_lt.mpr ha.1)).trans (if_pos ha.2))

/-- The pieces that a unit counts are those of the split (R49, R58). -/
theorem piecesThrough_arrival (h : RequestArrives d kind tag code addr payload s s1) (st : PieceState) :
    piecesThrough (withTag d kind tag s1) (arrivalOf d kind tag code addr payload) ((s.active.get i).copy i.1) =
      (splitRequest (s.ports.get (s.active.get i).target).config.maxBurst
        ((s.active.get i).offset + (addr - (s.active.get i).base)) (lengthOfCode code) st).length := by
  rw [splitRequest_length _ _ _ (lengthOfCode_bounds code).1]
  exact congrArg (fun c : PortConfig => splitCount c.maxBurst _ _) (h.sameDecision.config _)

/-- A request that its entry allows and its unit, if any, lets in is admitted (R30, R31). -/
theorem requestTaken_admitted (h : RequestArrives d kind tag code addr payload s s1) (hp : kind = .post → postCount s d < 16)
    (hm : Matched s d addr i) (ha : (s.active.get i).Allows kind addr (lengthOfCode code)) (st : PieceState)
    (hu : ∀ u, (s.active.get i).unit = some u → (s.units.get u).state.Admits d ∧
      (s.units.get u).inFlight + (splitRequest (s.ports.get (s.active.get i).target).config.maxBurst
        ((s.active.get i).offset + (addr - (s.active.get i).base)) (lengthOfCode code) st).length ≤ 1632) :
    exec (.requestTaken d.port kind tag code addr payload) s =
      .next (admitRequest (arrivalOf d kind tag code addr payload) ((s.active.get i).copy i.1) (withTag d kind tag s1)) := by
  rw [requestTaken_allowed h hp hm ha]
  refine congrArg _ (decideCustody_enter fun u hunit => ?_)
  rw [piecesThrough_arrival h st, h.sameDecision.units]
  exact CustodyUnit.answer_enter (hu u hunit).1 (hu u hunit).2

end

/-- Settles O32: the record, the count and the queue of an unmetered request. -/
theorem unmeteredRequestIsAdmitted : Obligations.UnmeteredRequestIsAdmitted := by
  intro d kind tag code addr payload i s s1 h hp hm e len cfg taddr pieces id record s2 ha hmeter hup hu
  have hsame := h.sameDecision
  refine ⟨Moves.freshRecord_ne s.requests, ?_⟩
  have hcopy : (e.copy i.1).meter = none := hmeter
  have hrecord : admittedRecord s2 (arrivalOf d kind tag code addr payload) (e.copy i.1) = record := by
    simp only [admittedRecord, hcopy, s2, hsame.requests, State.port, hsame.config]
    rfl
  rw [requestTaken_admitted h hp hm ha .queued hu, admitRequest_up (by rw [hsame.link]; exact hup), hcopy, hrecord, hsame.requests]
  refine congrArg _ ?_
  have hfold := foldl_enqueuePiece e.target d (pieces.map (fun c => (⟨id, c.num⟩ : PieceRef)))
    (countIn e.unit pieces.length (s2.setRequests (s.requests ++ [record])))
  rw [List.foldl_map] at hfold
  refine hfold.trans ?_
  simp only [countIn, State.modUnit, State.setRequests, s2, hsame.units]
  cases e.unit <;> rfl

/-- Settles O33: the unit's answer, the target's link and the POST allowance, each with what it makes of the request. -/
theorem requestMeetsItsUnitAndPort : Obligations.RequestMeetsItsUnitAndPort := by
  intro d kind tag code addr payload s s1 h
  refine ⟨fun hk hc => requestTaken_dropped h hk hc, fun hp i hm => ?_⟩
  intro e len taddr count s2 arrival ha
  refine ⟨fun u hunit => ?_, fun hu hdown => ?_⟩
  · intro v style
    have hsame := h.sameDecision
    have hget : s2.units.get u = v := congrArg (fun x => x.get u) hsame.units
    have hrun {ans : CustodyAnswer} (hans : v.answer d count = ans) :
        exec (.requestTaken d.port kind tag code addr payload) s = .next (match ans with
          | .enter => admitRequest arrival (e.copy i.1) s2
          | .park => parkRequest u arrival (e.copy i.1) s2
          | .deny => denyCustody u arrival (e.copy i.1) s2) := by
      rw [requestTaken_allowed h hp hm ha, decideCustody, show ((s.active.get i).copy i.1).unit = some u from hunit]
      dsimp only
      rw [piecesThrough_arrival h .queued, show (s2.unit u) = v from hget]
      rw [show v.answer (arrivalOf d kind tag code addr payload).dom _ = ans from hans]
      cases ans <;> rfl
    refine ⟨fun hpark hl => ?_, fun hdeny => ?_⟩
    · rw [hrun (ans := .park) ((CustodyUnit.answer_parks hpark).trans (if_pos hl))]
      simp only [parkRequest, State.modUnit, s2, hsame.units]
      rfl
    · rw [hrun (ans := .deny) (CustodyUnit.answer_deny hdeny)]
      have hstyle : style = v.style.effective (s.domains.get d).style := by
        simp only [style]
        cases v.style <;> rfl
      refine congrArg _ ((denyRequest_arrival _ _ _ _ (by rw [hsame.link]; exact h.1.1)).trans ?_)
      rw [denialFault, arrivalOf_recordTag, hsame.domains, show (s2.unit u) = v from hget, hstyle]
      rfl
  · rw [requestTaken_admitted h hp hm ha .queued hu, admitRequest_down (by rw [h.sameDecision.link]; exact hdown)]
    exact congrArg _ (answerTo_arrival (by rw [h.sameDecision.link]; exact h.1.1))

end Sys2Proof.Machine
end

section
/-! PROOFS. The accounts of records, pieces and units (R50, R56): what moves and edits keep of them. -/

namespace Sys2Proof.Machine

open Sys2Proof

/-! ### Sums over a list whose members are told apart by a key -/

section
variable {α : Type} {key : α → Nat} {l : List α} {a : α}

theorem sum_map_replace (w : α → Nat) (f : α → α) (hn : (l.map key).Nodup) (ha : a ∈ l) :
    ((l.map (fun x => if key x = key a then f x else x)).map w).sum + w a = (l.map w).sum + w (f a) := by
  induction l with
  | nil => cases ha
  | cons x xs ih =>
    obtain ⟨hx, hn⟩ := List.nodup_cons.mp hn
    simp only [List.map_cons, List.sum_cons]
    rcases List.mem_cons.mp ha with rfl | ha
    · have hsame : xs.map (fun x => if key x = key a then f x else x) = xs := by
        refine (List.map_congr_left fun y hy => ?_).trans (List.map_id xs)
        exact if_neg fun e => hx (List.mem_map.mpr ⟨y, hy, e⟩)
      rw [hsame, if_pos rfl]
      omega
    · rw [if_neg fun e => hx (List.mem_map.mpr ⟨a, ha, e.symm⟩)]
      have := ih hn ha
      omega

theorem sum_map_remove (w : α → Nat) (hn : (l.map key).Nodup) (ha : a ∈ l) :
    ((l.filter (fun x => decide (key x ≠ key a))).map w).sum + w a = (l.map w).sum := by
  induction l with
  | nil => cases ha
  | cons x xs ih =>
    obtain ⟨hx, hn⟩ := List.nodup_cons.mp hn
    rcases List.mem_cons.mp ha with rfl | ha
    · have hsame : xs.filter (fun x => decide (key x ≠ key a)) = xs :=
        List.filter_eq_self.mpr fun y hy => decide_eq_true fun e => hx (List.mem_map.mpr ⟨y, hy, e⟩)
      rw [List.filter_cons_of_neg (by simp), hsame, List.map_cons, List.sum_cons]
      omega
    · have hne : key x ≠ key a := fun e => hx (List.mem_map.mpr ⟨a, ha, e.symm⟩)
      rw [List.filter_cons_of_pos (by simpa using hne)]
      have := ih hn ha
      simp only [List.map_cons, List.sum_cons]
      omega

theorem map_key_replace (f : α → α) (hf : ∀ x, key (f x) = key x) (k : Nat) :
    (l.map (fun x => if key x = k then f x else x)).map key = l.map key := by
  rw [List.map_map]
  refine List.map_congr_left fun x _ => ?_
  simp only [Function.comp_apply]
  split
  · exact hf x
  · rfl

end

/-! ### The pieces of a record and of a unit -/

/-- 1 for a live piece, 0 for one that has ended. -/
def Piece.count (c : Piece) : Nat := if c.state.live then 1 else 0

/-- The pieces of a record that unit `u` counts. -/
def Request.countFor (u : Fin 8) (r : Request) : Nat := if r.unit = some u then r.livePieces else 0

theorem Request.livePieces_eq (r : Request) : r.livePieces = (r.pieces.map Piece.count).sum := by
  unfold Request.livePieces
  induction r.pieces with
  | nil => rfl
  | cons c cs ih =>
    cases hc : c.state.live
    · rw [List.filter_cons_of_neg (by simp [hc]), ih]
      simp [Piece.count, hc]
    · rw [List.filter_cons_of_pos (by simp [hc]), List.length_cons, ih]
      simp [Piece.count, hc]
      omega

theorem State.livePieces_eq (s : State) (u : Fin 8) : s.livePieces u = (s.requests.map (Request.countFor u)).sum := by
  unfold State.livePieces
  induction s.requests with
  | nil => rfl
  | cons r rs ih =>
    by_cases hr : r.unit = some u
    · rw [List.filter_cons_of_pos (by simp [hr]), List.map_cons, List.sum_cons, ih]
      simp [Request.countFor, hr]
    · rw [List.filter_cons_of_neg (by simp [hr]), ih]
      simp [Request.countFor, hr]

theorem Request.livePieces_pos {r : Request} {c : Piece} (hc : c ∈ r.pieces) (hl : c.state.live = true) : 0 < r.livePieces :=
  List.length_pos_of_mem (List.mem_filter.mpr ⟨hc, hl⟩)

theorem Request.livePieces_eq_zero {r : Request} : r.livePieces = 0 ↔ ∀ c ∈ r.pieces, c.state.live = false := by
  unfold Request.livePieces
  rw [List.length_eq_zero_iff, List.filter_eq_nil_iff]
  simp

/-- A record whose piece `c` changes has one piece fewer in flight exactly if that ends it. -/
theorem Request.livePieces_modPiece {r : Request} {c : Piece} {f : Piece → Piece} (hn : (r.pieces.map (fun c => c.num)).Nodup)
    (hc : c ∈ r.pieces) : (r.modPiece c.num f).livePieces + c.count = r.livePieces + (f c).count := by
  rw [Request.livePieces_eq, Request.livePieces_eq]
  exact sum_map_replace (key := fun c : Piece => c.num) Piece.count f hn hc

/-! ### The law over the records (R56) and over the units (R50) -/

/-- What the accounts say of one record. -/
def Request.Counted (r : Request) : Prop := (r.pieces.map (fun c => c.num)).Nodup ∧ r.outstanding = r.livePieces

theorem State.CountLaw.mk {s : State} (hids : (s.requests.map (fun r => r.id)).Nodup) (hr : ∀ r ∈ s.requests, r.Counted)
    (hu : ∀ u : Fin 8, (s.units.get u).inFlight = (s.requests.map (Request.countFor u)).sum) : s.CountLaw :=
  ⟨hids, hr, fun u => (hu u).trans (s.livePieces_eq u).symm⟩

section
variable {s t : State}

theorem State.CountLaw.ids (h : s.CountLaw) : (s.requests.map (fun r => r.id)).Nodup := h.1

theorem State.CountLaw.counted (h : s.CountLaw) {r : Request} (hr : r ∈ s.requests) : r.Counted := h.2.1 r hr

theorem State.CountLaw.sum (h : s.CountLaw) (u : Fin 8) : (s.units.get u).inFlight = (s.requests.map (Request.countFor u)).sum :=
  (h.2.2 u).trans (s.livePieces_eq u)

theorem State.CountLaw.eq_of_id (h : s.CountLaw) {r q : Request} (hr : r ∈ s.requests) (hq : q ∈ s.requests) (e : q.id = r.id) : q = r :=
  eq_of_nodup_ids h.ids hq hr e

theorem State.CountLaw.request_of_mem (h : s.CountLaw) {r : Request} (hr : r ∈ s.requests) : s.request r.id = some r :=
  Machine.request_of_mem hr fun _ hq e => h.eq_of_id hr hq e

theorem Request.Counted.piece_eq {r : Request} (h : r.Counted) {c y : Piece} (hc : c ∈ r.pieces) (hy : y ∈ r.pieces)
    (e : y.num = c.num) : y = c := List.inj_on_of_nodup_map h.1 hy hc e

theorem Request.Counted.piece_of_mem {r : Request} (h : r.Counted) {c : Piece} (hc : c ∈ r.pieces) : r.piece c.num = some c :=
  Machine.piece_of_mem hc fun _ hy e => h.piece_eq hc hy e

theorem State.CountLaw.piece_of_mem (h : s.CountLaw) {r : Request} (hr : r ∈ s.requests) {c : Piece} (hc : c ∈ r.pieces) :
    s.piece ⟨r.id, c.num⟩ = some (r, c) := by
  unfold State.piece
  rw [h.request_of_mem hr]
  dsimp only
  rw [(h.counted hr).piece_of_mem hc, Option.map_some]

/-- A piece that is found stands in a record of the list. -/
theorem piece_some {ref : PieceRef} {r : Request} {c : Piece} (h : s.piece ref = some (r, c)) :
    r ∈ s.requests ∧ r.id = ref.req ∧ c ∈ r.pieces ∧ c.num = ref.num := by
  unfold State.piece at h
  cases hq : s.request ref.req with
  | none => rw [hq] at h; cases h
  | some q =>
    rw [hq] at h
    obtain ⟨y, hy, he⟩ := Option.map_eq_some_iff.mp h
    obtain ⟨rfl, rfl⟩ := Prod.mk.inj he
    have hfind := List.find?_some hy
    exact ⟨(request_some hq).1, (request_some hq).2, List.mem_of_find?_eq_some hy, by simpa using hfind⟩

/-- The accounts read the records and the counts alone. -/
theorem State.CountLaw.congr (hr : t.requests = s.requests) (hu : ∀ u : Fin 8, (t.units.get u).inFlight = (s.units.get u).inFlight)
    (h : s.CountLaw) : t.CountLaw := by
  refine .mk (hr ▸ h.ids) (fun r hm => h.counted (hr ▸ hm)) fun u => ?_
  rw [hu, hr]
  exact h.sum u

/-- One record changes, with the count of its unit. -/
theorem State.CountLaw.replace {r : Request} {f : Request → Request} (h : s.CountLaw) (hr : r ∈ s.requests)
    (ht : t.requests = s.requests.map (fun q => if q.id = r.id then f q else q)) (hf : ∀ q, (f q).id = q.id)
    (hc : (f r).Counted)
    (hu : ∀ u : Fin 8, (t.units.get u).inFlight + r.countFor u = (s.units.get u).inFlight + (f r).countFor u) : t.CountLaw := by
  refine .mk ?_ (fun q hq => ?_) fun u => ?_
  · rw [ht, map_key_replace f hf]; exact h.ids
  · rw [ht] at hq
    obtain ⟨x, hx, rfl⟩ := List.mem_map.mp hq
    split
    · rename_i e; rw [h.eq_of_id hr hx e]; exact hc
    · exact h.counted hx
  · have := sum_map_replace (key := fun q : Request => q.id) (Request.countFor u) f h.ids hr
    rw [ht]
    have := h.sum u
    have := hu u
    omega

end

/-! ### Moves keep the accounts -/

theorem countFor_of_counts {r q : Request} (hu : q.unit = r.unit) (u : Fin 8) {k : Nat} (h : q.livePieces + k = r.livePieces) :
    q.countFor u + (if r.unit = some u then k else 0) = r.countFor u := by
  unfold Request.countFor
  rw [hu]
  split <;> omega

theorem State.CountLaw.endPiece {ref : PieceRef} {st : PieceState} {s : State} (hst : st.live = false) (h : s.CountLaw) :
    (endPiece ref st s).CountLaw := by
  unfold Machine.endPiece
  split
  · exact h
  · rename_i r c hf
    split
    · rename_i hl
      obtain ⟨hr, hid, hc, hnum⟩ := piece_some hf
      let f : Request → Request := fun r =>
        { r.modPiece ref.num (fun c => { c with state := st, ttag := none, deadline := none }) with
          outstanding := r.outstanding - 1, worst := mergeEnd r.worst st }
      have hlive : (f r).livePieces + 1 = r.livePieces := by
        have := Request.livePieces_modPiece (f := fun c => { c with state := st, ttag := none, deadline := none })
          (h.counted hr).1 hc
        rw [hnum] at this
        simpa [Piece.count, hl, hst, f, Request.livePieces] using this
      have hnums : ((f r).pieces.map (fun c => c.num)) = r.pieces.map (fun c => c.num) :=
        map_key_replace (key := fun c : Piece => c.num) (fun c => { c with state := st, ttag := none, deadline := none })
          (fun _ => rfl) ref.num
      refine h.replace (f := f) hr ?_ (fun _ => rfl) ⟨hnums ▸ (h.counted hr).1, ?_⟩ fun u => ?_
      · rw [hid, countOut_requests]; rfl
      · have := (h.counted hr).2
        show r.outstanding - 1 = (f r).livePieces
        omega
      · have hfor := countFor_of_counts (q := f r) (r := r) rfl u hlive
        have hsum := h.sum u
        have hle : r.countFor u ≤ (s.requests.map (Request.countFor u)).sum := List.le_sum_of_mem (List.mem_map_of_mem hr)
        rw [countOut_get]
        split at hfor
        · rw [if_pos ‹_›]
          show (s.units.get u).inFlight - 1 + _ = _
          omega
        · rw [if_neg ‹_›]
          show (s.units.get u).inFlight + _ = _
          omega
    · exact h

theorem State.CountLaw.move {s t : State} (hm : Move true s t) (h : s.CountLaw) : t.CountLaw := by
  cases hm with
  | unit u v _ hv =>
    refine State.CountLaw.congr (s := s) rfl (fun w => ?_) h
    by_cases hw : w = u
    · subst hw
      exact (congrArg CustodyUnit.inFlight (setAt_get_same _ _ _)).trans hv.inFlight
    · exact congrArg CustodyUnit.inFlight (setAt_get_other _ _ hw)
  | endPiece ref st hst => exact h.endPiece hst
  | setPiece ref r c f hf hl hall =>
    obtain ⟨hr, hid, hc, hnum⟩ := piece_some hf
    have hlive : (r.modPiece ref.num f).livePieces = r.livePieces := by
      have := Request.livePieces_modPiece (f := f) (h.counted hr).1 hc
      rw [hnum] at this
      simp only [Piece.count, hl, (hall c).2, if_true] at this
      omega
    have hnums : ((r.modPiece ref.num f).pieces.map (fun c => c.num)) = r.pieces.map (fun c => c.num) :=
      map_key_replace f (fun c => (hall c).1) _
    refine h.replace (f := fun q => q.modPiece ref.num f) hr (by rw [hid]; rfl) (fun _ => rfl)
      ⟨hnums ▸ (h.counted hr).1, (h.counted hr).2.trans hlive.symm⟩ fun u => ?_
    show (s.units.get u).inFlight + _ = _
    rw [show (r.modPiece ref.num f).countFor u = r.countFor u by unfold Request.countFor; rw [hlive]; rfl]
  | record id f hf =>
    have hlive (r : Request) : (f r).livePieces = r.livePieces := by unfold Request.livePieces; rw [(hf r).2.2.2.1]
    refine .mk ?_ (fun q hq => ?_) fun u => ?_
    · rw [State.modRequest, map_key_replace f (fun r => (hf r).1)]; exact h.ids
    · obtain ⟨x, hx, rfl⟩ := List.mem_map.mp hq
      split
      · refine ⟨by rw [(hf x).2.2.2.1]; exact (h.counted hx).1, ?_⟩
        rw [(hf x).2.2.2.2, hlive]; exact (h.counted hx).2
      · exact h.counted hx
    · refine (h.sum u).trans ?_
      rw [State.modRequest, List.map_map]
      congr 1
      refine List.map_congr_left fun x _ => ?_
      simp only [Function.comp_apply]
      split
      · unfold Request.countFor; rw [(hf x).2.2.1, hlive]
      · rfl
  | release r id hr h0 =>
    obtain ⟨hmem, rfl⟩ := request_some hr
    refine .mk (h.ids.sublist (List.filter_sublist.map _)) (fun q hq => h.counted (List.mem_filter.mp hq).1) fun u => ?_
    have hz : r.countFor u = 0 := by
      unfold Request.countFor
      rw [← (h.counted hmem).2, h0]
      split <;> rfl
    have := sum_map_remove (key := fun q : Request => q.id) (Request.countFor u) h.ids hmem
    have := h.sum u
    show (s.units.get u).inFlight = _
    simp only [State.setRequests]
    omega
  | enter r _ hr =>
    have hlive : r.livePieces = r.pieces.length := by
      unfold Request.livePieces
      rw [List.filter_eq_self.mpr hr.live]
    have hreq : (s.requests ++ [r]).map (fun q => q.id) = s.requests.map (fun q => q.id) ++ [r.id] := by simp
    have hlist : (countIn r.unit r.pieces.length (s.setRequests (s.requests ++ [r]))).requests = s.requests ++ [r] := by
      cases r.unit <;> rfl
    refine .mk ?_ (fun q hq => ?_) fun u => ?_
    · rw [hlist, hreq]
      refine List.nodup_append.mpr ⟨h.ids, by simp, fun a ha b hb => ?_⟩
      obtain ⟨q, hq, rfl⟩ := List.mem_map.mp ha
      rw [List.mem_singleton.mp hb]
      exact hr.fresh q hq
    · rw [hlist] at hq
      rcases List.mem_append.mp hq with hq | hq
      · exact h.counted hq
      · rw [List.mem_singleton.mp hq]
        exact ⟨hr.nums, hr.outstanding.trans hlive.symm⟩
    · rw [hlist, List.map_append, List.sum_append, ← h.sum u, countIn_get]
      simp only [List.map_cons, List.map_nil, List.sum_cons, List.sum_nil, Nat.add_zero, Request.countFor, hlive]
      split <;> rfl
  | _ => exact State.CountLaw.congr (s := s) rfl (fun _ => rfl) h

theorem State.CountLaw.moves {s t : State} (hm : Moves true s t) (h : s.CountLaw) : t.CountLaw := hm.keep (fun _ _ => .move) h

end Sys2Proof.Machine
end

section
/-! PROOFS. The pieces of a request that end together: the record, the count, the places and the meter they leave (R50, R69, R70, R89). -/

namespace Sys2Proof.Machine

open Sys2Proof

/-! ### The places that pieces leave (R63, R73, R100) -/

/-- The port that piece `c` of `r` leaves. -/
def leavePlace (r : Request) (c : Piece) (v : PortState) : PortState :=
  match c.state with
  | .queued => { v with arbiter := v.arbiter.modQueue r.dom (fun q => q.filter (fun y => decide (y ≠ ⟨r.id, c.num⟩))) }
  | .granted =>
    match c.ttag with
    | some t => { v with tags := setAt v.tags t .free, outbound := dropOut t v.outbound }
    | none => v
  | .sent =>
    match c.ttag with
    | some t => { v with tags := setAt v.tags t .orphaned }
    | none => v
  | _ => v

/-- The port that pieces of `r` leave one after another. -/
def leavePlaces (r : Request) (l : List Piece) (v : PortState) : PortState := l.foldl (fun v c => leavePlace r c v) v

theorem State.setPort_self (p : Port) (s : State) : { s with ports := s.ports.set p (s.ports.get p) } = s := by
  rw [PerPort.set_get]

theorem vacate_eq (r : Request) (c : Piece) (s : State) :
    vacate r c s = { s with ports := s.ports.set r.target (leavePlace r c (s.ports.get r.target)) } := by
  unfold vacate leavePlace
  cases c.state with
  | charging => exact (State.setPort_self _ s).symm
  | queued => rfl
  | granted =>
    cases c.ttag with
    | none => exact (State.setPort_self _ s).symm
    | some t => rfl
  | sent =>
    cases c.ttag with
    | none => exact (State.setPort_self _ s).symm
    | some t => rfl
  | resolved st => exact (State.setPort_self _ s).symm
  | removed => exact (State.setPort_self _ s).symm

/-! ### The record (R56, R69) -/

/-- A piece that has ended in `st`. -/
def Piece.endedIn (st : PieceState) (c : Piece) : Piece := { c with state := st, ttag := none, deadline := none }

/-- The pieces that `f` picks have ended in `st`. -/
def endedPieces (f : PieceState → Bool) (st : PieceState) (l : List Piece) : List Piece :=
  l.map (fun c => if f c.state then c.endedIn st else c)

/-- A record whose pieces picked by `f` have ended in `st`. -/
def Request.endedBy (r : Request) (f : PieceState → Bool) (st : PieceState) : Request :=
  { r with
    pieces := endedPieces f st r.pieces
    outstanding := r.outstanding - (r.pieces.filter (fun c => f c.state)).length
    worst := if r.pieces.any (fun c => f c.state) then mergeEnd r.worst st else r.worst }

theorem mergeEnd_mergeEnd (w : PieceStatus) (st : PieceState) : mergeEnd (mergeEnd w st) st = mergeEnd w st := by
  cases st with
  | resolved x =>
    show (w.merge x).merge x = w.merge x
    unfold PieceStatus.merge
    by_cases h : w.rank < x.rank
    · rw [if_pos h]; exact ite_self _
    · rw [if_neg h]; exact if_neg h
  | _ => rfl

theorem replaced_replaced {r r1 r2 : Request} (h : r1.id = r.id) (l : List Request) :
    replaced r1 r2 (replaced r r1 l) = replaced r r2 l := by
  unfold replaced
  rw [List.map_map]
  refine List.map_congr_left fun q _ => ?_
  simp only [Function.comp_apply]
  by_cases hq : q.id = r.id
  · rw [if_pos hq, if_pos rfl, if_pos hq]
  · rw [if_neg hq, h, if_neg hq]

theorem replaced_self {l : List Request} {r : Request} (hu : ∀ q ∈ l, q.id = r.id → q = r) : replaced r r l = l :=
  (map_lone hu id).symm.trans ((List.map_congr_left fun q _ => by split <;> rfl).trans (List.map_id l))

/-- Counting out twice counts out once. -/
theorem countOut_countOut (u : Option (Fin 8)) (a b : Nat) (s t : State) (h : t.units = (countOut u a s).units) :
    (countOut u b t).units = (countOut u (a + b) s).units := by
  cases u with
  | none => exact h
  | some u =>
    simp only [countOut, State.modUnit] at h ⊢
    rw [h, setAt_get_same, setAt_setAt, Nat.sub_sub]

theorem countOut_zero (u : Option (Fin 8)) (s : State) : (countOut u 0 s).units = s.units := by
  refine Vector.ext fun i hi => ?_
  have h := countOut_get u 0 s ⟨i, hi⟩
  have hsame : (countOut u 0 s).units.get ⟨i, hi⟩ = s.units.get ⟨i, hi⟩ := by rw [h]; split <;> rfl
  exact hsame

theorem countOut_units (u : Option (Fin 8)) (n : Nat) (s : State) : countOut u n s = { s with units := (countOut u n s).units } := by
  cases u <;> rfl

theorem countOut_congr (u : Option (Fin 8)) (n : Nat) {s t : State} (h : t.units = s.units) :
    (countOut u n t).units = (countOut u n s).units := by
  cases u with
  | none => exact h
  | some u => simp only [countOut, State.modUnit, h]

/-! ### Several pieces -/

section
variable {f : PieceState → Bool} {st : PieceState} {v : Request}

/-- One piece leaves its place and ends. -/
theorem endPiece_vacate {r : Request} {c : Piece} {s : State} (h : Lone s r) (hc : LonePiece r c) (hl : c.state.live = true) :
    endPiece ⟨r.id, c.num⟩ st (vacate v c s) =
      { s with
        requests := replaced r (r.ended c st) s.requests
        units := (countOut r.unit 1 s).units
        ports := s.ports.set v.target (leavePlace v c (s.ports.get v.target)) } := by
  rw [vacate_eq]
  refine (endPiece_lone (s := { s with ports := s.ports.set v.target (leavePlace v c (s.ports.get v.target)) })
    (h.congr rfl) hc hl st).trans ?_
  cases r.unit <;> rfl

theorem replacedPiece_middle {c c' : Piece} {before after : List Piece} (hn : ((before ++ c :: after).map (fun y => y.num)).Nodup) :
    replacedPiece c c' (before ++ c :: after) = before ++ c' :: after := by
  have hother (l : List Piece) (hl : ∀ y ∈ l, y.num ≠ c.num) : replacedPiece c c' l = l :=
    (List.map_congr_left fun y hy => if_neg (hl y hy)).trans (List.map_id l)
  rw [List.map_append, List.map_cons] at hn
  obtain ⟨-, hcn, hdis⟩ := List.nodup_append.mp hn
  have hb : ∀ y ∈ before, y.num ≠ c.num := fun y hy => hdis y.num (List.mem_map_of_mem hy) c.num List.mem_cons_self
  have ha : ∀ y ∈ after, y.num ≠ c.num := fun y hy e =>
    (List.nodup_cons.mp hcn).1 (e ▸ List.mem_map_of_mem (f := fun y : Piece => y.num) hy)
  have hcons : replacedPiece c c' (c :: after) = c' :: replacedPiece c c' after := by simp [replacedPiece]
  rw [show replacedPiece c c' (before ++ c :: after) = replacedPiece c c' before ++ replacedPiece c c' (c :: after) from
    List.map_append, hother _ hb, hcons, hother _ ha]

/-- The pieces of the rest of a list that `f` picks leave their places and end, one after another. -/
theorem foldl_endPiece {after : List Piece} : ∀ {before : List Piece} {r : Request} {s : State}, Lone s r →
    r.pieces = before ++ after → (r.pieces.map (fun c => c.num)).Nodup → (∀ c ∈ after, f c.state = true → c.state.live = true) →
    (after.filter (fun c => f c.state)).foldl (fun t c => endPiece ⟨r.id, c.num⟩ st (vacate v c t)) s =
      { s with
        requests := replaced r
          { r with
            pieces := before ++ endedPieces f st after
            outstanding := r.outstanding - (after.filter (fun c => f c.state)).length
            worst := if after.any (fun c => f c.state) then mergeEnd r.worst st else r.worst } s.requests
        units := (countOut r.unit (after.filter (fun c => f c.state)).length s).units
        ports := s.ports.set v.target (leavePlaces v (after.filter (fun c => f c.state)) (s.ports.get v.target)) } := by
  induction after with
  | nil =>
    intro before r s h hr _ _
    have hself : ({ r with
        pieces := before ++ endedPieces f st [], outstanding := r.outstanding - 0, worst := r.worst } : Request) = r := by
      rw [show before ++ endedPieces f st [] = r.pieces from hr.symm]
      rfl
    simp only [List.filter_nil, List.foldl_nil, List.length_nil, List.any_nil, Bool.false_eq_true, if_false, countOut_zero, leavePlaces,
      hself, replaced_self h.only]
    rw [PerPort.set_get]
  | cons c after ih =>
    intro before r s h hr hn hl
    cases hf : f c.state with
    | false =>
      have hr' : r.pieces = (before ++ [c]) ++ after := by rw [hr]; simp
      have := ih h hr' hn (fun y hy => hl y (List.mem_cons_of_mem _ hy))
      rw [List.filter_cons_of_neg (by simp [hf]), this]
      simp only [endedPieces, List.map_cons, hf, Bool.false_eq_true, if_false, List.any_cons, Bool.false_or, List.append_assoc,
        List.cons_append, List.nil_append]
    | true =>
      have hmem : c ∈ r.pieces := by rw [hr]; exact List.mem_append_right _ List.mem_cons_self
      have hc : LonePiece r c := ⟨hmem, fun y hy e => List.inj_on_of_nodup_map hn hy hmem e⟩
      have hended : (r.ended c st).pieces = (before ++ [c.endedIn st]) ++ after := by
        unfold Request.ended
        dsimp only
        rw [hr] at hn ⊢
        rw [replacedPiece_middle hn]
        simp [Piece.endedIn]
      have hnums : ((r.ended c st).pieces.map (fun y => y.num)).Nodup := by
        rw [hended]
        rw [hr] at hn
        simpa [Piece.endedIn] using hn
      let s1 : State := { s with
        requests := replaced r (r.ended c st) s.requests
        units := (countOut r.unit 1 s).units
        ports := s.ports.set v.target (leavePlace v c (s.ports.get v.target)) }
      have hstep : endPiece ⟨r.id, c.num⟩ st (vacate v c s) = s1 := endPiece_vacate h hc (hl c List.mem_cons_self hf)
      have hlone : Lone s1 (r.ended c st) := h.replaced rfl rfl
      have hports : s1.ports.set v.target (leavePlaces v (after.filter (fun c => f c.state)) (s1.ports.get v.target)) =
          s.ports.set v.target (leavePlaces v (after.filter (fun c => f c.state)) (leavePlace v c (s.ports.get v.target))) := by
        simp only [s1, PerPort.get_set_same, PerPort.set_set]
      rw [List.filter_cons_of_pos (by simp [hf]), List.foldl_cons, hstep]
      refine (ih hlone hended hnums (fun y hy => hl y (List.mem_cons_of_mem _ hy))).trans ?_
      rw [hports, show s1.requests = replaced r (r.ended c st) s.requests from rfl, replaced_replaced (r := r) (r1 := r.ended c st) rfl,
        show (r.ended c st).unit = r.unit from rfl, countOut_countOut r.unit 1 _ s s1 rfl]
      have hworst : (if after.any (fun c => f c.state) then mergeEnd (r.ended c st).worst st else (r.ended c st).worst) =
          mergeEnd r.worst st := by
        split
        · exact mergeEnd_mergeEnd _ _
        · rfl
      have hout : (r.ended c st).outstanding - (after.filter (fun c => f c.state)).length =
          r.outstanding - ((after.filter (fun c => f c.state)).length + 1) := by
        rw [Nat.add_comm]; exact Nat.sub_sub _ _ _
      simp only [endedPieces, List.map_cons, hf, if_true, List.any_cons, Bool.true_or, List.length_cons, leavePlaces, List.foldl_cons,
        List.append_assoc, List.cons_append, List.nil_append, hworst, hout]
      rw [Nat.add_comm 1]
      rfl

/-- The pieces of a record that `f` picks leave their places and end together (R50, R69). -/
theorem endPieces_lone {r : Request} {s : State} (h : Lone s r) (hn : (r.pieces.map (fun c => c.num)).Nodup)
    (hl : ∀ c ∈ r.pieces, f c.state = true → c.state.live = true) :
    endPieces r.id f st s =
      { s with
        requests := replaced r (r.endedBy f st) s.requests
        units := (countOut r.unit (r.pieces.filter (fun c => f c.state)).length s).units
        ports := s.ports.set r.target (leavePlaces r (r.pieces.filter (fun c => f c.state)) (s.ports.get r.target)) } := by
  unfold endPieces
  rw [h.request]
  exact foldl_endPiece (before := []) h rfl hn hl

end

theorem State.CountLaw.lone {s : State} (h : s.CountLaw) {r : Request} (hr : r ∈ s.requests) : Lone s r :=
  ⟨hr, fun _ hq e => h.eq_of_id hr hq e⟩

theorem Request.Counted.lonePiece {r : Request} (h : r.Counted) {c : Piece} (hc : c ∈ r.pieces) : LonePiece r c :=
  ⟨hc, fun _ hy e => h.piece_eq hc hy e⟩

end Sys2Proof.Machine
end

section
/-! PROOFS. The cut of a unit, and the laws of the custody units and of their pieces, kept by every step (R46 to R53, R96, R98, R100). -/

namespace Sys2Proof.Machine

open Sys2Proof

/-! ### The cut (R100) -/

theorem Request.endedBy_live (r : Request) (st : PieceStatus) : (r.endedBy PieceState.live (.resolved st)).livePieces = 0 := by
  refine Request.livePieces_eq_zero.mpr fun c hc => ?_
  obtain ⟨y, -, rfl⟩ := List.mem_map.mp hc
  split
  · rfl
  · rename_i h; exact Bool.not_eq_true _ ▸ h

theorem leaveMeter_requests (r : Request) (s : State) : (leaveMeter r s).requests = s.requests := by
  unfold leaveMeter; split <;> rfl

/-- The records after the requests of a list were cut. -/
theorem foldl_cutRequest_requests {l : List Request} : ∀ {s : State}, s.CountLaw → (l.map (fun r => r.id)).Nodup →
    (∀ r ∈ l, r ∈ s.requests) →
    (l.foldl cutRequest s).requests =
      s.requests.map (fun q => if q.id ∈ l.map (fun r => r.id) then q.endedBy PieceState.live (.resolved .cut) else q) := by
  induction l with
  | nil =>
    intro s _ _ _
    simp
  | cons r l ih =>
    intro s h hn hl
    obtain ⟨hr, hn⟩ := List.nodup_cons.mp hn
    have hmem := hl r List.mem_cons_self
    have hcut : (cutRequest s r).requests = replaced r (r.endedBy PieceState.live (.resolved .cut)) s.requests := by
      unfold cutRequest
      rw [leaveMeter_requests, endPieces_lone (h.lone hmem) (h.counted hmem).1 (fun _ _ e => e)]
    have hcount : (cutRequest s r).CountLaw := h.moves (Moves.cutRequest s r)
    rw [List.foldl_cons, ih hcount hn fun q hq => ?_, hcut, replaced, List.map_map]
    · refine List.map_congr_left fun q hq => ?_
      simp only [Function.comp_apply, List.map_cons, List.mem_cons]
      by_cases e : q.id = r.id
      · obtain rfl : q = r := h.eq_of_id hmem hq e
        rw [if_pos rfl, if_neg (by exact hr), if_pos (.inl rfl)]
      · rw [if_neg e]
        simp only [e, false_or]
    · rw [hcut, mem_replaced hmem]
      exact .inr ⟨hl q (List.mem_cons_of_mem _ hq), fun e => hr (List.mem_map.mpr ⟨q, hq, e⟩)⟩

theorem requestsInFlight_ids {s : State} (h : s.CountLaw) (u : Fin 8) : ((requestsInFlight s u).map (fun r => r.id)).Nodup :=
  h.ids.sublist (List.filter_sublist.map _)

theorem mem_requestsInFlight {s : State} {u : Fin 8} {r : Request} :
    r ∈ requestsInFlight s u ↔ r ∈ s.requests ∧ r.unit = some u ∧ 0 < r.livePieces := by
  unfold requestsInFlight
  rw [List.mem_filter, Bool.and_eq_true, decide_eq_true_eq, List.any_eq_true]
  refine and_congr_right fun _ => and_congr_right fun _ => ?_
  constructor
  · rintro ⟨c, hc, hl⟩; exact Request.livePieces_pos hc hl
  · intro h
    obtain ⟨c, hc⟩ := List.exists_mem_of_length_pos h
    exact ⟨c, (List.mem_filter.mp hc).1, (List.mem_filter.mp hc).2⟩

/-- The cut leaves no piece of its unit in flight. -/
theorem foldl_cutRequest_ended {s : State} (h : s.CountLaw) (u : Fin 8) :
    ((requestsInFlight s u).foldl cutRequest s).livePieces u = 0 := by
  rw [State.livePieces_eq, foldl_cutRequest_requests h (requestsInFlight_ids h u) (fun r hr => (mem_requestsInFlight.mp hr).1)]
  refine List.sum_eq_zero fun n hn => ?_
  obtain ⟨x, hx, rfl⟩ := List.mem_map.mp hn
  obtain ⟨q, hq, rfl⟩ := List.mem_map.mp hx
  split
  · unfold Request.countFor
    rw [Request.endedBy_live]
    exact ite_self _
  · rename_i hno
    unfold Request.countFor
    split
    · rename_i hunit
      by_contra hpos
      exact hno (List.mem_map_of_mem (mem_requestsInFlight.mpr ⟨hq, hunit, Nat.pos_of_ne_zero hpos⟩))
    · rfl

/-! ### One unit (R47 to R53, R96) -/

/-- What CustodyLaw says of unit `u`. -/
def CustodyUnit.Lawful (u : Fin 8) (v : CustodyUnit) : Prop :=
  v.inFlight ≤ 1632 ∧ v.parked.length ≤ 96 ∧ (∀ k ∈ v.parked, k.entry.unit = some u) ∧
  (∀ t, v.state = .scrubbing t → v.inFlight = 0) ∧ (v.state = .failed → v.inFlight = 0) ∧
  (v.state.inHandover = false → v.parked = [] ∧ v.pendingTake = none) ∧ (v.state.inHandover = true → v.pendingTake ≠ none)

/-- What holds of unit `u` at the end of a handover, once it is in its final state and until it is cleared. -/
def CustodyUnit.Ending (u : Fin 8) (v : CustodyUnit) : Prop :=
  v.inFlight ≤ 1632 ∧ v.parked.length ≤ 96 ∧ (∀ k ∈ v.parked, k.entry.unit = some u) ∧ v.state.inHandover = false ∧
  (v.state = .failed → v.inFlight = 0)

/-- Every unit is lawful; the one of `x`, if any, ends its handover. -/
def State.LawfulIn (x : Option (Fin 8)) (s : State) : Prop :=
  ∀ u : Fin 8, (x ≠ some u → (s.units.get u).Lawful u) ∧ (x = some u → (s.units.get u).Ending u)

theorem State.custodyLaw_iff {s : State} : s.CustodyLaw ↔ s.LawfulIn none :=
  ⟨fun h u => ⟨fun _ => h u, fun e => by cases e⟩, fun h u => (h u).1 (by simp)⟩

section
variable {u : Fin 8} {v w : CustodyUnit}

theorem CustodyUnit.Lawful.leftBy (h : v.Lawful u) (hw : v.LeftBy w) : w.Lawful u := by
  obtain ⟨k, hk, rfl⟩ := hw
  obtain ⟨h1, h2, h3, h4, h5, h6, h7⟩ := h
  refine ⟨hk.trans h1, h2, h3, fun t ht => ?_, fun hf => ?_, h6, h7⟩
  · have := h4 t ht; dsimp only; omega
  · have := h5 hf; dsimp only; omega

theorem CustodyUnit.Ending.leftBy (h : v.Ending u) (hw : v.LeftBy w) : w.Ending u := by
  obtain ⟨k, hk, rfl⟩ := hw
  obtain ⟨h1, h2, h3, h4, h5⟩ := h
  refine ⟨hk.trans h1, h2, h3, h4, fun hf => ?_⟩
  have := h5 hf; dsimp only; omega

/-- A unit at the end of its handover is lawful once nothing is parked and its take is forgotten. -/
theorem CustodyUnit.Ending.lawful (h : v.Ending u) (hp : v.parked = []) (ht : v.pendingTake = none) : v.Lawful u := by
  obtain ⟨h1, h2, h3, h4, h5⟩ := h
  refine ⟨h1, h2, h3, fun t e => ?_, h5, fun _ => ⟨hp, ht⟩, fun e => ?_⟩
  · rw [e] at h4; cases h4
  · rw [h4] at e; cases e

/-- A unit that lets a request in admits its domain and has room for its pieces (R49, R51). -/
theorem CustodyUnit.answer_eq_enter {d : Domain} {n : Nat} (h : v.answer d n = .enter) :
    v.state.Admits d ∧ v.inFlight + n ≤ 1632 := by
  have hroom {u : CustodyUnit} (h : admitWithin u n = .enter) : u.inFlight + n ≤ 1632 := by
    unfold admitWithin at h
    split at h
    · assumption
    · cases h
  have hpark {u : CustodyUnit} : parkWithin u ≠ .enter := by
    unfold parkWithin
    split <;> simp
  unfold CustodyUnit.answer at h
  split at h
  · rename_i hs; exact ⟨.inl hs, hroom h⟩
  · rename_i g hs
    split at h
    · rename_i e; exact ⟨.inr (by rw [hs, e]), hroom h⟩
    · cases h
  · split at h
    · exact absurd h hpark
    · cases h
  · split at h
    · exact absurd h hpark
    · cases h
  · cases h

/-- A unit that parks a request is in a handover and has room on its list (R51, R52). -/
theorem CustodyUnit.answer_eq_park {d : Domain} {n : Nat} (h : v.answer d n = .park) :
    v.state.inHandover = true ∧ v.parked.length < 96 := by
  have hroom {u : CustodyUnit} (h : parkWithin u = .park) : u.parked.length < 96 := by
    unfold parkWithin at h
    split at h
    · assumption
    · cases h
  have henter {u : CustodyUnit} : admitWithin u n ≠ .park := by
    unfold admitWithin
    split <;> simp
  unfold CustodyUnit.answer at h
  split at h
  · exact absurd h henter
  · split at h
    · exact absurd h henter
    · cases h
  · rename_i hs
    split at h
    · rw [hs]; exact ⟨rfl, hroom h⟩
    · cases h
  · rename_i hs
    split at h
    · rw [hs]; exact ⟨rfl, hroom h⟩
    · cases h
  · cases h

/-- Pieces enter a unit that lets them in. -/
theorem CustodyUnit.Lawful.enter {d : Domain} {n k : Nat} (h : v.Lawful u) (ha : v.answer d n = .enter) (hk : k ≤ n) :
    ({ v with inFlight := v.inFlight + k } : CustodyUnit).Lawful u := by
  obtain ⟨hs, hn⟩ := v.answer_eq_enter ha
  obtain ⟨h1, h2, h3, h4, h5, h6, h7⟩ := h
  refine ⟨by dsimp only; omega, h2, h3, fun t e => ?_, fun e => ?_, h6, h7⟩
  all_goals
    rcases hs with hs | hs <;> rw [hs] at e <;> cases e

theorem CustodyUnit.Ending.enter {d : Domain} {n k : Nat} (h : v.Ending u) (ha : v.answer d n = .enter) (hk : k ≤ n) :
    ({ v with inFlight := v.inFlight + k } : CustodyUnit).Ending u := by
  obtain ⟨hs, hn⟩ := v.answer_eq_enter ha
  obtain ⟨h1, h2, h3, h4, h5⟩ := h
  refine ⟨by dsimp only; omega, h2, h3, h4, fun e => ?_⟩
  rcases hs with hs | hs <;> rw [hs] at e <;> cases e

end

/-! ### The holder law (R46, R98) -/

/-- What the holder law says of unit `u`. -/
def State.HolderAt (s : State) (u : Fin 8) (v : CustodyUnit) : Prop :=
  ∀ h : Domain, (v.state = .held h → s.PiecesOf u h) ∧
    (∀ t, v.state = .draining t → v.hand.op = some .take → v.previous = .held h → s.PiecesOf u h)

theorem State.holderLaw_iff {s : State} : s.HolderLaw ↔ ∀ u : Fin 8, s.HolderAt u (s.units.get u) := Iff.rfl

/-- Every record of `t` with a piece in flight has one of `s` of its unit and domain. -/
def Traced (s t : State) : Prop :=
  ∀ q ∈ t.requests, 0 < q.livePieces → ∃ r ∈ s.requests, r.unit = q.unit ∧ r.dom = q.dom ∧ 0 < r.livePieces

theorem Traced.of_requests {s t : State} (h : t.requests = s.requests) : Traced s t :=
  fun q hq hl => ⟨q, h ▸ hq, rfl, rfl, hl⟩

theorem Traced.piecesOf {s t : State} (h : Traced s t) {u : Fin 8} {d : Domain} (hs : s.PiecesOf u d) : t.PiecesOf u d := by
  intro q hq hunit hl
  obtain ⟨r, hr, hru, hrd, hrl⟩ := h q hq hl
  exact hrd ▸ hs r hr (hru.trans hunit) hrl

theorem Move.traced {s t : State} (hm : Move false s t) (h : s.CountLaw) : Traced s t := by
  have hmod {id : Nat} {f : Request → Request} {r : Request} (hr : r ∈ s.requests) (hid : r.id = id)
      (hf : (f r).unit = r.unit ∧ (f r).dom = r.dom ∧ (0 < (f r).livePieces → 0 < r.livePieces)) :
      ∀ q ∈ s.requests.map (fun q => if q.id = id then f q else q), 0 < q.livePieces →
        ∃ r ∈ s.requests, r.unit = q.unit ∧ r.dom = q.dom ∧ 0 < r.livePieces := by
    intro q hq hl
    obtain ⟨x, hx, rfl⟩ := List.mem_map.mp hq
    by_cases hxi : x.id = id
    · rw [if_pos hxi] at hl ⊢
      obtain rfl : x = r := h.eq_of_id hr hx (hxi.trans hid.symm)
      exact ⟨x, hx, hf.1.symm, hf.2.1.symm, hf.2.2 hl⟩
    · rw [if_neg hxi] at hl ⊢
      exact ⟨x, hx, rfl, rfl, hl⟩
  cases hm with
  | unit _ _ h => cases h
  | enter _ h => cases h
  | endPiece ref st hst =>
    unfold Machine.endPiece
    split
    · exact .of_requests rfl
    · rename_i r c hf
      obtain ⟨hr, hid, hc, -⟩ := piece_some hf
      split
      · rename_i hl
        intro q hq
        rw [countOut_requests] at hq
        exact hmod hr hid ⟨rfl, rfl, fun _ => Request.livePieces_pos hc hl⟩ q hq
      · exact .of_requests rfl
  | setPiece ref r c f hf hl hall =>
    obtain ⟨hr, hid, hc, -⟩ := piece_some hf
    exact hmod (f := fun r => r.modPiece ref.num f) hr hid ⟨rfl, rfl, fun _ => Request.livePieces_pos hc hl⟩
  | record id f hf =>
    intro q hq hl
    obtain ⟨x, hx, rfl⟩ := List.mem_map.mp hq
    split at hl
    · rw [if_pos ‹_›]
      obtain ⟨-, hd, hu, hp, -⟩ := hf x
      refine ⟨x, hx, hu.symm, hd.symm, ?_⟩
      unfold Request.livePieces at hl ⊢
      rw [hp] at hl
      exact hl
    · rw [if_neg ‹_›]
      exact ⟨x, hx, rfl, rfl, hl⟩
  | release r id _ _ => exact fun q hq hl => ⟨q, (List.mem_filter.mp hq).1, rfl, rfl, hl⟩
  | _ => exact .of_requests rfl

/-! ### Soundness -/

/-- The custody law, but that the unit of `x` ends its handover; and with it, if `full`, the accounts and the holder law. -/
def Sound (full : Prop) (x : Option (Fin 8)) (s : State) : Prop := s.LawfulIn x ∧ (full → s.CountLaw ∧ s.HolderLaw)

section
variable {full : Prop} {x : Option (Fin 8)} {s t : State} {u : Fin 8}

/-- A state with the same units and records is as sound. -/
theorem Sound.congr (h : Sound full x s) (hu : t.units = s.units) (hr : t.requests = s.requests) : Sound full x t := by
  obtain ⟨hl, hf⟩ := h
  refine ⟨fun u => by rw [hu]; exact hl u, fun hfull => ?_⟩
  obtain ⟨hc, hh⟩ := hf hfull
  refine ⟨hc.congr hr (fun _ => by rw [hu]), fun u d => ?_⟩
  rw [hu]
  exact ⟨fun e => (Traced.of_requests hr).piecesOf ((hh u d).1 e),
    fun g e1 e2 e3 => (Traced.of_requests hr).piecesOf ((hh u d).2 g e1 e2 e3)⟩

theorem Sound.move (h : Sound full x s) (hm : Move false s t) : Sound full x t := by
  obtain ⟨hl, hf⟩ := h
  refine ⟨fun u => ⟨fun e => ((hl u).1 e).leftBy (hm.leftBy u), fun e => ((hl u).2 e).leftBy (hm.leftBy u)⟩, fun hfull => ?_⟩
  obtain ⟨hc, hh⟩ := hf hfull
  refine ⟨hc.move hm.widen, fun u d => ?_⟩
  obtain ⟨k, -, e⟩ := hm.leftBy u
  rw [e]
  exact ⟨fun e => (hm.traced hc).piecesOf ((hh u d).1 e), fun g e1 e2 e3 => (hm.traced hc).piecesOf ((hh u d).2 g e1 e2 e3)⟩

theorem Sound.flow (h : Sound full x s) (hm : Moves false s t) : Sound full x t := hm.keep (fun _ _ hm h => h.move hm) h

/-- Unit `u` changes, and with it whether it ends its handover. -/
theorem Sound.setUnit {y : Option (Fin 8)} {v : CustodyUnit} (h : Sound full x s) (hxy : ∀ w, w ≠ u → (x = some w ↔ y = some w))
    (hv : (y ≠ some u → v.Lawful u) ∧ (y = some u → v.Ending u)) (hin : full → s.CountLaw → v.inFlight = (s.units.get u).inFlight)
    (hh : full → s.CountLaw → s.HolderLaw → s.HolderAt u v) : Sound full y { s with units := setAt s.units u v } := by
  obtain ⟨hl, hf⟩ := h
  refine ⟨fun w => ?_, fun hfull => ?_⟩
  · by_cases hw : w = u
    · subst hw
      rw [show ({ s with units := setAt s.units w v } : State).units.get w = v from setAt_get_same _ _ _]
      exact hv
    · rw [show ({ s with units := setAt s.units u v } : State).units.get w = s.units.get w from setAt_get_other _ _ hw]
      exact ⟨fun e => (hl w).1 fun e' => e ((hxy w hw).mp e'), fun e => (hl w).2 ((hxy w hw).mpr e)⟩
  · obtain ⟨hc, hhold⟩ := hf hfull
    refine ⟨State.CountLaw.congr (s := s) rfl (fun w => ?_) hc, fun w d => ?_⟩
    · by_cases hw : w = u
      · subst hw
        exact (congrArg CustodyUnit.inFlight (setAt_get_same _ _ _)).trans (hin hfull hc)
      · exact congrArg CustodyUnit.inFlight (setAt_get_other _ _ hw)
    · by_cases hw : w = u
      · subst hw
        rw [show ({ s with units := setAt s.units w v } : State).units.get w = v from setAt_get_same _ _ _]
        exact hh hfull hc hhold d
      · rw [show ({ s with units := setAt s.units u v } : State).units.get w = s.units.get w from setAt_get_other _ _ hw]
        exact hhold w d

end

/-! ### Admission and the parked list (R49, R51, R53) -/

section
variable {full : Prop} {x : Option (Fin 8)} {s t : State} {u : Fin 8}

/-- No more pieces are recorded than the unit was asked for. -/
theorem admittedRecord_length (s : State) (q : Arrival) (e : EntryCopy) :
    (admittedRecord s q e).pieces.length ≤ piecesThrough s q e := by
  unfold admittedRecord piecesThrough
  dsimp only
  rcases Nat.eq_zero_or_pos q.len with h0 | hpos
  · rw [h0]
    exact Nat.zero_le _
  · exact (splitRequest_length _ _ _ hpos).le

/-- A request that its unit, if any, lets in is recorded and counted. -/
theorem Sound.enter {q : Arrival} {e : EntryCopy} (h : Sound full x s)
    (ha : ∀ u, e.unit = some u → (s.units.get u).answer q.dom (piecesThrough s q e) = .enter) : Sound full x (admitRequest q e s) := by
  unfold admitRequest
  split
  · dsimp only
    let r := admittedRecord s q e
    have hstep : Sound full x (countIn r.unit r.pieces.length (s.setRequests (s.requests ++ [r]))) := by
      obtain ⟨hl, hf⟩ := h
      refine ⟨fun u => ?_, fun hfull => ?_⟩
      · rw [countIn_get]
        split
        · rename_i hu
          exact ⟨fun e => ((hl u).1 e).enter (ha u hu) (admittedRecord_length ..),
            fun e => ((hl u).2 e).enter (ha u hu) (admittedRecord_length ..)⟩
        · exact hl u
      · obtain ⟨hc, hh⟩ := hf hfull
        have hreq : (countIn r.unit r.pieces.length (s.setRequests (s.requests ++ [r]))).requests = s.requests ++ [r] := by
          cases r.unit <;> rfl
        refine ⟨hc.move (.enter s r rfl (Moves.newRecord_admitted s q e)), fun u d => ?_⟩
        have hpieces (d : Domain) (hs : s.PiecesOf u d) (hnew : r.unit = some u → q.dom = d) :
            (countIn r.unit r.pieces.length (s.setRequests (s.requests ++ [r]))).PiecesOf u d := by
          intro z hz hzu hzl
          rw [hreq] at hz
          rcases List.mem_append.mp hz with hz | hz
          · exact hs z hz hzu hzl
          · rw [List.mem_singleton.mp hz] at hzu ⊢
            exact hnew hzu
        have hunit : (countIn r.unit r.pieces.length (s.setRequests (s.requests ++ [r]))).HolderAt u (s.units.get u) := by
          refine fun d => ⟨fun hs => hpieces d ((hh u d).1 hs) fun hru => ?_, fun g hs hop hprev =>
            hpieces d ((hh u d).2 g hs hop hprev) fun hru => ?_⟩
          all_goals
            rcases ((s.units.get u).answer_eq_enter (ha u hru)).1 with hst | hst <;> rw [hst] at hs <;> cases hs
          rfl
        rw [countIn_get]
        split
        · exact hunit d
        · exact hunit d
    split
    · exact hstep.flow (Moves.joinMeter _ _ _)
    · exact hstep.flow (Moves.foldl (fun t c => Moves.enqueuePiece _ _ _ t) _ _)
  · exact h.flow (Moves.answerTo _ _ _ _ s)

/-- The parked list and the pending take of unit `u` are as given. -/
def HoldsList (u : Fin 8) (l : List Parked) (tag : Option (Fin 4)) (s : State) : Prop :=
  (s.units.get u).parked = l ∧ (s.units.get u).pendingTake = tag

theorem HoldsList.flow {l : List Parked} {tag : Option (Fin 4)} (h : HoldsList u l tag s) (hm : Moves false s t) :
    HoldsList u l tag t := by
  obtain ⟨k, -, e⟩ := hm.leftBy u
  unfold HoldsList
  rw [e]
  exact h

theorem HoldsList.admitRequest {l : List Parked} {tag : Option (Fin 4)} (q : Arrival) (e : EntryCopy) (h : HoldsList u l tag s) :
    HoldsList u l tag (admitRequest q e s) := by
  unfold Machine.admitRequest
  split
  · dsimp only
    have hin : HoldsList u l tag (countIn (admittedRecord s q e).unit (admittedRecord s q e).pieces.length
        (s.setRequests (s.requests ++ [admittedRecord s q e]))) := by
      unfold HoldsList
      rw [countIn_get]
      split <;> exact h
    split
    · exact hin.flow (Moves.joinMeter _ _ _)
    · exact hin.flow (Moves.foldl (fun t c => Moves.enqueuePiece _ _ _ t) _ _)
  · exact h.flow (Moves.answerTo _ _ _ _ s)

/-- The parked requests of a unit at the end of its handover are decided again; none stays parked (R53). -/
theorem Sound.redecideParked (h : Sound full (some u) s) :
    Sound full (some u) (redecideParked u s) ∧ HoldsList u [] (s.units.get u).pendingTake (redecideParked u s) := by
  obtain ⟨h1, h2, h3, h4, h5⟩ := (h.1 u).2 rfl
  have h0 : Sound full (some u) (s.modUnit u (fun v => { v with parked := [] })) :=
    h.setUnit (fun _ _ => Iff.rfl) ⟨fun e => absurd rfl e, fun _ => ⟨h1, Nat.zero_le _, fun k hk => absurd hk List.not_mem_nil, h4, h5⟩⟩
      (fun _ _ => rfl) (fun _ _ hh => hh u)
  have hlist : HoldsList u [] (s.units.get u).pendingTake (s.modUnit u (fun v => { v with parked := [] })) := by
    unfold HoldsList
    rw [State.modUnit_units, setAt_get_same]
    exact ⟨rfl, rfl⟩
  have hfold : ∀ (l : List Parked) (t : State), (∀ k ∈ l, k.entry.unit = some u) → Sound full (some u) t →
      HoldsList u [] (s.units.get u).pendingTake t →
      Sound full (some u) (l.foldl (redecideOne u) t) ∧ HoldsList u [] (s.units.get u).pendingTake (l.foldl (redecideOne u) t) := by
    intro l
    induction l with
    | nil => exact fun t _ ht hl => ⟨ht, hl⟩
    | cons k l ih =>
      intro t hk ht hl
      refine ih _ (fun x hx => hk x (List.mem_cons_of_mem _ hx)) ?_ ?_
      · unfold redecideOne
        split
        · rename_i ha
          refine ht.enter fun w hw => ?_
          rw [hk k List.mem_cons_self] at hw
          exact Option.some.inj hw ▸ ha
        all_goals exact ht.flow (Moves.denyCustody _ _ _ t)
      · unfold redecideOne
        split
        · exact hl.admitRequest _ _
        all_goals exact hl.flow (Moves.denyCustody _ _ _ t)
  exact hfold _ _ h3 h0 hlist

/-! ### Handovers (R96 to R99, R106, R107) -/

/-- A unit changes and stays lawful. -/
theorem Sound.setLawful {v : CustodyUnit} (h : Sound full none s) (hv : v.Lawful u) (hin : v.inFlight = (s.units.get u).inFlight)
    (hh : full → s.CountLaw → s.HolderLaw → s.HolderAt u v) : Sound full none { s with units := setAt s.units u v } :=
  h.setUnit (fun _ _ => Iff.rfl) ⟨fun _ => hv, fun e => by cases e⟩ (fun _ _ => hin) hh

/-- A handover comes to its end: its unit is in its final state. -/
theorem Sound.finalState {v : CustodyUnit} (h : Sound full none s) (hin : v.inFlight = (s.units.get u).inFlight)
    (hp : v.parked = (s.units.get u).parked) (hs : v.state.inHandover = false) (hf : v.state = .failed → v.inFlight = 0)
    (hh : full → s.CountLaw → s.HolderLaw → ∀ d, v.state = .held d → s.PiecesOf u d) :
    Sound full (some u) { s with units := setAt s.units u v } := by
  obtain ⟨h1, h2, h3, -⟩ := (h.1 u).1 (by simp)
  refine h.setUnit (fun w hw => by simpa using Ne.symm hw)
    ⟨fun e => absurd rfl e, fun _ => ⟨hin ▸ h1, hp ▸ h2, hp ▸ h3, hs, hf⟩⟩ (fun _ _ => hin) fun hfull hc hhold d => ?_
  refine ⟨hh hfull hc hhold d, fun g e => ?_⟩
  rw [e] at hs
  cases hs

/-- The handover is over once nothing is parked and its take is forgotten. -/
theorem Sound.over (h : Sound full (some u) s) (hl : HoldsList u [] none s) : Sound full none s := by
  refine ⟨fun w => ⟨fun _ => ?_, fun e => by cases e⟩, h.2⟩
  by_cases hw : w = u
  · subst hw
    exact ((h.1 w).2 rfl).lawful hl.1 hl.2
  · exact (h.1 w).1 (by simpa using Ne.symm hw)

/-- The working part is cleared (R94). -/
theorem Sound.clear (h : Sound full (some u) s) :
    Sound full (some u) (clearHandover u s) ∧ HoldsList u (s.units.get u).parked none (clearHandover u s) := by
  obtain ⟨h1, h2, h3, h4, h5⟩ := (h.1 u).2 rfl
  refine ⟨h.setUnit (fun _ _ => Iff.rfl) ⟨fun e => absurd rfl e, fun _ => ⟨h1, h2, h3, h4, h5⟩⟩ (fun _ _ => rfl)
    (fun _ _ hh d => ⟨(hh u d).1, fun g e => ?_⟩), ?_⟩
  · rw [show (s.units.get u).state = .draining g from e] at h4
    cases h4
  · unfold HoldsList clearHandover
    rw [State.modUnit_units, setAt_get_same]
    exact ⟨rfl, rfl⟩

/-- The notices, the working part cleared and the reply end the handover (R94, R108, R109). -/
theorem Sound.handoverEnds {starting final : Resting} {st : ReplyStatus} {result : List Byte} (h : Sound full (some u) s) :
    Sound full none (Machine.handoverEnds u starting final st result (Machine.redecideParked u s)) := by
  obtain ⟨hsound, hlist⟩ := h.redecideParked
  have hsound := hsound.flow (Moves.sendNotices starting final _)
  have hlist := hlist.flow (Moves.sendNotices starting final _)
  obtain ⟨hclear, hcleared⟩ := hsound.clear
  rw [hlist.1] at hcleared
  exact (hclear.over hcleared).flow (Moves.endCommand _ _ _ _)

/-- With nothing in flight the pieces of a unit are of any domain. -/
theorem State.CountLaw.piecesOf_empty (h : s.CountLaw) (h0 : (s.units.get u).inFlight = 0) (d : Domain) : s.PiecesOf u d := by
  intro r hr hu hl
  have hz : s.livePieces u = 0 := (h.2.2 u).symm.trans h0
  have hle : r.livePieces ≤ s.livePieces u :=
    List.single_le_sum (fun _ _ => Nat.zero_le _) _
      (List.mem_map_of_mem (List.mem_filter.mpr ⟨hr, decide_eq_true hu⟩))
  omega

/-- The state that a grant reaches before the parked requests are decided again (R107). -/
def granted (u : Fin 8) (t : Holding) (s : State) : State :=
  s.modUnit u (fun v => { v with state := t.toState, previous := if v.hand.op = some .giveBack then .opened else v.previous
                                 hand := { v.hand with settleTimer := none } })

theorem grantUnit_eq (u : Fin 8) (t : Holding) (s : State) :
    grantUnit u t s = handoverEnds u (s.units.get u).hand.starting t.resting .ok
      (handoverResult u t.toState (s.units.get u).hand.cutCount 0) (redecideParked u (granted u t s)) := rfl

/-- A draining take that a return aborts: the unit is back where the take found it (R98). -/
theorem Sound.abortTake {g : Holding} {tag : Fin 4} (h : Sound full none s) (hs : (s.units.get u).state = .draining g)
    (hop : (s.units.get u).hand.op = some .take) : Sound full none (abortTake u tag s) := by
  have hback : (s.units.get u).previous.toState.inHandover = false := by cases (s.units.get u).previous <;> rfl
  have hfin : Sound full (some u) (s.modUnit u (fun v => { v with state := (s.units.get u).previous.toState })) := by
    refine h.finalState rfl rfl hback (fun e => ?_) fun _ _ hh d e => (hh u d).2 g hs hop ?_
    · cases hp : (s.units.get u).previous <;> simp [hp, Holding.toState] at e
    · cases hp : (s.units.get u).previous <;> simp_all [Holding.toState]
  obtain ⟨hclear, hlist⟩ := hfin.clear
  have hreplied := (hclear.flow (Moves.endCommand (.custody u) .aborted (handoverResult u (s.units.get u).previous.toState 0 0) _)).flow
    (Moves.reply .pay tag .ok (handoverResult u (s.units.get u).previous.toState 0 0) _)
  have htold := (hlist.flow (Moves.endCommand (.custody u) .aborted (handoverResult u (s.units.get u).previous.toState 0 0) _)).flow
    (Moves.reply .pay tag .ok (handoverResult u (s.units.get u).previous.toState 0 0) _)
  obtain ⟨hdone, hempty⟩ := hreplied.redecideParked
  rw [htold.2] at hempty
  exact hdone.over hempty

theorem Sound.work (h : Sound full none s) (hw : Work s t) : Sound full none t := by
  cases hw with
  | flow hm => exact h.flow hm
  | enter q e ha => exact h.enter ha
  | park w q e he ha hlen =>
    obtain ⟨hs, hroom⟩ := (s.units.get w).answer_eq_park ha
    obtain ⟨h1, h2, h3, h4, h5, h6, h7⟩ := (h.1 w).1 (by simp)
    refine h.setLawful ⟨h1, ?_, fun k hk => ?_, h4, h5, fun e => ?_, h7⟩ rfl (fun _ _ hh => hh w)
    · rw [List.length_append]
      exact hroom
    · rcases List.mem_append.mp hk with hk | hk
      · exact h3 k hk
      · rw [List.mem_singleton.mp hk]; exact he
    · rw [show (s.units.get w).state.inHandover = false from e] at hs
      cases hs
  | fail w g hs =>
    obtain ⟨-, -, -, h4, -⟩ := (h.1 w).1 (by simp)
    have hfailed : Sound full (some w) (scrubFaulted w s) :=
      Sound.flow (s := s.setUnits (setAt s.units w (s.units.get w).failed))
        (h.finalState rfl rfl rfl (fun _ => h4 g hs) fun _ _ _ d e => by cases e) (Moves.raiseFault _ _)
    rw [scrubFail_eq]
    exact hfailed.handoverEnds
  | grant w g hs =>
    obtain ⟨-, -, -, h4, -⟩ := (h.1 w).1 (by simp)
    have hgranted : Sound full (some w) (granted w g s) :=
      h.finalState rfl rfl (by cases g <;> rfl) (fun _ => h4 g hs) fun _ hc _ d _ => hc.piecesOf_empty (h4 g hs) d
    rw [grantUnit_eq]
    exact hgranted.handoverEnds
  | scrub w g hs h0 =>
    obtain ⟨h1, h2, h3, -, -, -, h7⟩ := (h.1 w).1 (by simp)
    have hv : ({ s.units.get w with
        state := .scrubbing g, hand := { (s.units.get w).hand with drainTimer := none, scrubPos := 0 } } : CustodyUnit).Lawful w :=
      ⟨h1, h2, h3, fun _ _ => h0, fun _ => h0, fun e => (nomatch e), fun _ => h7 (by rw [hs]; rfl)⟩
    exact h.setLawful hv rfl fun _ _ _ d => ⟨fun e => (nomatch e), fun _ e => (nomatch e)⟩
  | hand w x hx =>
    exact h.setLawful ((h.1 w).1 (by simp)) rfl fun _ _ hh d => ⟨(hh w d).1, fun g e eop => (hh w d).2 g e (hx ▸ eop)⟩
  | accept w op start g tag hs =>
    obtain ⟨h1, h2, h3, -, h5, -⟩ := (h.1 w).1 (by simp)
    refine h.setLawful ⟨h1, h2, h3, fun _ e => (nomatch e), fun e => (nomatch e), fun e => (nomatch e), fun _ e => (nomatch e)⟩ rfl
      fun _ hc hh d => ⟨fun e => (nomatch e), fun _ est eop eprev => ?_⟩
    clear est
    dsimp only at eop eprev
    rw [if_pos (Option.some.inj eop)] at eprev
    unfold UnitState.resting at hs
    split at hs <;> cases hs
    · cases eprev
    · rename_i x hst
      exact (hh w d).1 (by rw [hst, Holding.held.inj eprev])
    · rename_i hst
      exact hc.piecesOf_empty (h5 hst) d
  | abort w g tag hs hop => exact h.abortTake hs hop
  | drop d =>
    refine List.foldlRecOn _ _ h fun t ht w _ => ?_
    obtain ⟨h1, h2, h3, h4, h5, h6, h7⟩ := (ht.1 w).1 (by simp)
    refine ht.setLawful ⟨h1, (List.length_filter_le _ _).trans h2, fun k hk => h3 k (List.mem_filter.mp hk).1, h4, h5,
      fun e => ⟨?_, (h6 e).2⟩, h7⟩ rfl fun _ _ hh => hh w
    dsimp only
    rw [(h6 e).1]
    rfl

theorem Sound.works (h : Sound full none s) (hw : Works s t) : Sound full none t := hw.keep (fun _ _ hw h => h.work hw) h

end

/-! ### Edits and steps -/

section
variable {full : Prop} {s t : State}

theorem Sound.edit (h : Sound full none s) (he : Edit s t) : Sound full none t := by
  cases he with
  | define u image d hd hs hp =>
    have hstate : ((s.units.get u).define d).state = .opened := hs
    refine h.setLawful ((h.1 u).1 (by simp)) rfl fun _ _ _ x => ⟨fun e => ?_, fun _ e => ?_⟩
    all_goals
      rw [hstate] at e
      cases e
  | cut u =>
    have hall := h.flow (Moves.foldl (fun t r => Moves.cutRequest t r) (requestsInFlight s u) s)
    obtain ⟨-, h2, h3, -, -, h6, h7⟩ := (hall.1 u).1 (by simp)
    refine hall.setUnit (fun _ _ => Iff.rfl) ⟨fun _ => ⟨Nat.zero_le _, h2, h3, fun _ _ => rfl, fun _ => rfl, h6, h7⟩, fun e => (nomatch e)⟩
      (fun hfull hc => ?_) fun _ _ hh => hh u
    rw [hc.2.2 u, foldl_cutRequest_ended (h.2 hfull).1 u]
  | _ => exact h.congr rfl rfl

theorem Sound.resetPart (cause : ResetCause) (s : State) : Sound full none (resetPart cause s) :=
  ⟨State.custodyLaw_iff.mp (State.CustodyLaw.resetPart cause s), fun _ =>
    ⟨State.CountLaw.resetPart cause s, State.HolderLaw.resetPart cause s⟩⟩

theorem Sound.route (h : Sound full none s) (hr : Route s t) : Sound full none t := by
  cases hr with
  | works w => exact h.works w
  | edit w e w' => exact ((h.works w).edit e).works w'
  | reset cause w => exact .resetPart cause _

theorem Sound.step (h : Sound full none s) (hs : step s = .next t) : Sound full none t := by
  cases step_route hs with
  | arrives p =>
    obtain ⟨hu, hr⟩ : (arrive p s).units = s.units ∧ (arrive p s).requests = s.requests := by
      obtain ⟨v, w, e⟩ := arrive_eq p s
      rw [e]
      exact ⟨rfl, rfl⟩
    exact h.congr hu hr
  | runs l route => exact (Sound.congr (t := { s with pending := l }) h rfl rfl).route route

end

/-- Settles O13: each work and edit keeps what the law says of each unit; one that ends its handover
is followed until it is cleared. -/
theorem everyStepKeepsCustodyLaw : Obligations.EveryStepKeepsCustodyLaw := by
  unfold Obligations.EveryStepKeepsCustodyLaw
  intro s t h hs
  have hsound : Sound False none s := ⟨State.custodyLaw_iff.mp h, False.elim⟩
  exact State.custodyLaw_iff.mpr (hsound.step hs).1

/-- Settles O14: the accounts say which pieces a unit has in flight, and requests enter a unit as its state lets their domain. -/
theorem everyStepKeepsHolderLaw : Obligations.EveryStepKeepsHolderLaw := by
  unfold Obligations.EveryStepKeepsHolderLaw
  rintro s t ⟨hl, hc, hh⟩ hs
  have hsound : Sound True none s := ⟨State.custodyLaw_iff.mp hl, fun _ => ⟨hc, hh⟩⟩
  obtain ⟨hl', hfull⟩ := hsound.step hs
  exact ⟨State.custodyLaw_iff.mpr hl', hfull trivial⟩

end Sys2Proof.Machine
end

section
/-! PROOFS. A piece that fails: what it leaves of its request, of the places of its other pieces, of its unit and of its meter (R50, R69,
R70, R89). -/

namespace Sys2Proof.Machine

open Sys2Proof

/-! ### The port that unsent pieces leave (R63, R70) -/

/-- A tag of which a GRANTED piece of `gone` was. -/
def freedBy (gone : List Piece) (t : Fin 16) : Bool := gone.any (fun y => decide (y.state = .granted ∧ y.ttag = some t))

/-- A reference to a QUEUED piece of `gone`, of `r`. -/
def queuedIn (r : Request) (gone : List Piece) (ref : PieceRef) : Bool :=
  gone.any (fun y => decide (y.state = .queued ∧ ref = ⟨r.id, y.num⟩))

/-- The packets that do not stand under a tag for which `freed` holds. -/
def keptPackets (freed : Fin 16 → Bool) (l : List OutPacket) : List OutPacket :=
  l.filter (fun pkt => match pkt with | .request t _ _ _ _ => !freed t | _ => true)

/-- A port without the places of the pieces `gone` of `r`. -/
def PortState.without (r : Request) (gone : List Piece) (v : PortState) : PortState :=
  { v with
    arbiter := v.arbiter.modQueue r.dom (fun l => l.filter (fun ref => !queuedIn r gone ref))
    tags := Vector.ofFn (fun t => if freedBy gone t then .free else v.tags.get t)
    outbound := keptPackets (freedBy gone) v.outbound }

/-- The meters without request `r` on its list. -/
def metersWithout (r : Request) (m : Vector Meter 16) : Vector Meter 16 :=
  match r.meter with
  | none => m
  | some n => setAt m n (withoutListed (fun i => decide (i = r.id)) (m.get n))

theorem metersWithout_get (r : Request) (m : Vector Meter 16) (n : Fin 16) : (metersWithout r m).get n =
    if r.meter = some n then withoutListed (fun i => decide (i = r.id)) (m.get n) else m.get n := by
  unfold metersWithout
  cases hm : r.meter with
  | none => rfl
  | some k =>
    dsimp only
    rw [setAt_get]
    by_cases h : n = k
    · subst h; rw [if_pos rfl, if_pos rfl]
    · rw [if_neg h, if_neg (by simpa using Ne.symm h)]

theorem withoutPieces_eq (r : Request) (gone : List Piece) (s : State) :
    withoutPieces r gone s =
      { s with
        ports := s.ports.set r.target ((s.ports.get r.target).without r gone)
        units := (countOut r.unit gone.length s).units
        meters := metersWithout r s.meters } := by
  unfold withoutPieces metersWithout
  cases r.unit <;> cases r.meter <;> rfl

theorem Vector.ofFn_get_self {α : Type} {n : Nat} (v : Vector α n) : Vector.ofFn (fun t => v.get t) = v := by
  refine Vector.ext fun i hi => ?_
  rw [Vector.getElem_ofFn]
  rfl

theorem Vector.get_ofFn {α : Type} {n : Nat} (f : Fin n → α) (i : Fin n) : (Vector.ofFn f).get i = f i := by
  obtain ⟨i, hi⟩ := i
  exact Vector.getElem_ofFn hi

theorem Vector.ext_get {α : Type} {n : Nat} {v w : Vector α n} (h : ∀ i : Fin n, v.get i = w.get i) : v = w :=
  Vector.ext fun i hi => h ⟨i, hi⟩

theorem keptPackets_keptPackets (f g : Fin 16 → Bool) (l : List OutPacket) :
    keptPackets g (keptPackets f l) = keptPackets (fun t => f t || g t) l := by
  unfold keptPackets
  rw [List.filter_filter]
  refine List.filter_congr fun pkt _ => ?_
  cases pkt <;> simp [Bool.and_comm]

theorem dropOut_eq (t : Fin 16) (l : List OutPacket) : dropOut t l = keptPackets (fun x => decide (x = t)) l := by
  unfold dropOut keptPackets
  refine List.filter_congr fun pkt _ => ?_
  cases pkt <;> simp

theorem keptPackets_all {f : Fin 16 → Bool} (h : ∀ t, f t = false) (l : List OutPacket) : keptPackets f l = l := by
  unfold keptPackets
  refine List.filter_eq_self.mpr fun pkt _ => ?_
  cases pkt <;> simp [h]

theorem freedBy_append (a b : List Piece) (t : Fin 16) : freedBy (a ++ b) t = (freedBy a t || freedBy b t) := List.any_append

theorem queuedIn_append (r : Request) (a b : List Piece) (ref : PieceRef) :
    queuedIn r (a ++ b) ref = (queuedIn r a ref || queuedIn r b ref) :=
  List.any_append

theorem PortState.without_without (r : Request) (a b : List Piece) (v : PortState) :
    (v.without r a).without r b = v.without r (a ++ b) := by
  simp only [PortState.without, Arbiter.modQueue_modQueue, keptPackets_keptPackets, List.filter_filter, PortState.mk.injEq, true_and,
    and_true]
  refine ⟨?_, Vector.ext_get fun t => ?_, ?_⟩
  · congr 1
    funext x
    exact freedBy_append a b x ▸ rfl
  · simp only [Vector.get_ofFn, freedBy_append]
    cases freedBy a t <;> cases freedBy b t <;> rfl
  · congr 1
    funext l
    refine List.filter_congr fun ref _ => ?_
    rw [queuedIn_append, Bool.not_or, Bool.and_comm]

/-- Pieces that stand at no port leave none of its places. -/
theorem PortState.without_none (r : Request) {gone : List Piece} (v : PortState)
    (h : ∀ y ∈ gone, y.state ≠ .queued ∧ y.state ≠ .granted) : v.without r gone = v := by
  have hfree (t : Fin 16) : freedBy gone t = false := by
    refine List.any_eq_false.mpr fun y hy => ?_
    simp [(h y hy).2]
  have hqueue (ref : PieceRef) : queuedIn r gone ref = false := by
    refine List.any_eq_false.mpr fun y hy => ?_
    simp [(h y hy).1]
  have hq : (fun l : List PieceRef => l.filter (fun ref => !queuedIn r gone ref)) = fun l => l := by
    funext l
    exact List.filter_eq_self.mpr fun ref _ => by rw [hqueue]; rfl
  simp only [PortState.without, keptPackets_all hfree, hfree, Bool.false_eq_true, if_false, Vector.ofFn_get_self, hq, Arbiter.modQueue_id]

theorem leavePlace_unsent (r : Request) {c : Piece} (v : PortState) (h : c.state.unsent = true) : leavePlace r c v = v.without r [c] := by
  have hone (ref : PieceRef) : queuedIn r [c] ref = decide (c.state = .queued ∧ ref = ⟨r.id, c.num⟩) := by simp [queuedIn]
  have hfree (t : Fin 16) : freedBy [c] t = decide (c.state = .granted ∧ c.ttag = some t) := by simp [freedBy]
  unfold leavePlace
  cases hs : c.state with
  | queued =>
    dsimp only
    have hf (t : Fin 16) : freedBy [c] t = false := by rw [hfree, hs]; simp
    simp only [PortState.without, keptPackets_all hf, hf, Bool.false_eq_true, if_false, Vector.ofFn_get_self, hone,
      hs, true_and, decide_not]
  | granted =>
    have hq (ref : PieceRef) : queuedIn r [c] ref = false := by rw [hone, hs]; simp
    have hqueue : (fun l : List PieceRef => l.filter (fun ref => !queuedIn r [c] ref)) = fun l => l := by
      funext l
      exact List.filter_eq_self.mpr fun ref _ => by rw [hq]; rfl
    cases ht : c.ttag with
    | none =>
      have hf (t : Fin 16) : freedBy [c] t = false := by rw [hfree, hs, ht]; simp
      simp only [PortState.without, keptPackets_all hf, hf, Bool.false_eq_true, if_false, Vector.ofFn_get_self, hqueue,
        Arbiter.modQueue_id]
    | some t =>
      have hf : freedBy [c] = fun x => decide (x = t) := by
        funext x
        rw [hfree, hs, ht]
        simp [eq_comm]
      have htags : setAt v.tags t .free = Vector.ofFn (fun x => if decide (x = t) then .free else v.tags.get x) := by
        refine Vector.ext_get fun x => ?_
        rw [Vector.get_ofFn, setAt_get]
        simp
      simp only [PortState.without, hqueue, Arbiter.modQueue_id, hf, dropOut_eq, htags]
  | charging => exact (v.without_none r (by simp [hs])).symm
  | sent => rw [hs] at h; cases h
  | resolved x => rw [hs] at h; cases h
  | removed => rw [hs] at h; cases h

theorem leavePlaces_unsent (r : Request) (gone : List Piece) (v : PortState) (h : ∀ y ∈ gone, y.state.unsent = true) :
    leavePlaces r gone v = v.without r gone := by
  induction gone generalizing v with
  | nil => exact (v.without_none r (by simp)).symm
  | cons c gone ih =>
    refine (ih (leavePlace r c v) fun y hy => h y (List.mem_cons_of_mem _ hy)).trans ?_
    rw [leavePlace_unsent r v (h c List.mem_cons_self), PortState.without_without]
    rfl

/-! ### The end of a request (R56, R71) -/

/-- A request with nothing outstanding whose initiator's port is UP, or which is abandoned, is answered and released. -/
theorem finishRequest_ends {r : Request} {s : State} (h : Lone s r) (h0 : r.outstanding = 0)
    (hup : r.abandoned = false → (s.ports.get r.dom.port).link = .up) :
    finishRequest r.id s =
      withRequestAnswer r r.worst r.readData { s with requests := s.requests.filter (fun q => decide (q.id ≠ r.id)) } := by
  unfold finishRequest withRequestAnswer
  rw [h.request]
  dsimp only
  rw [if_pos h0]
  cases ha : r.abandoned with
  | true => cases r.tag <;> rfl
  | false =>
    cases r.tag with
    | none => rfl
    | some t =>
      unfold answerTo placeOut
      exact if_pos ((State.isUp_iff _ _).mpr (hup ha))

/-! ### A piece that fails (R69, R70) -/

theorem PieceState.unsent_live {st : PieceState} (h : st.unsent = true) : st.live = true := by
  revert h
  cases st <;> simp [PieceState.unsent, PieceState.live]

/-- A request leaves its waiting list (R89). -/
theorem leaveMeter_meters (r : Request) (s : State) : leaveMeter r s = { s with meters := metersWithout r s.meters } := by
  unfold leaveMeter metersWithout
  cases r.meter with
  | none => rfl
  | some n =>
    have hmeter (v : Meter) : ({ v with
        release := if v.waiting.head? = some r.id then none else v.release
        waiting := v.waiting.filter (fun i => decide (i ≠ r.id)) } : Meter) = withoutListed (fun i => decide (i = r.id)) v := by
      unfold withoutListed
      cases v.waiting <;> simp
    exact congrArg (fun v => { s with meters := setAt s.meters n v }) (hmeter (s.meters.get n))

/-- The removal of what is unsent of a request (R70, R89). -/
theorem removeUnsent_lone {r : Request} {s : State} (h : Lone s r) (hn : (r.pieces.map (fun c => c.num)).Nodup) :
    removeUnsent r.id s =
      withoutPieces r (r.pieces.filter (fun c => c.state.unsent))
        { s with requests := replaced r (r.endedBy PieceState.unsent .removed) s.requests } := by
  unfold removeUnsent
  rw [h.request]
  dsimp only
  rw [endPieces_lone h hn (fun _ _ => PieceState.unsent_live), leavePlaces_unsent r _ _ (fun y hy => (List.mem_filter.mp hy).2),
    leaveMeter_meters, withoutPieces_eq]
  cases r.unit <;> cases r.meter <;> rfl

/-- The pieces of `r` other than `c` that have not gone out. -/
def Request.unsentBut (r : Request) (c : Piece) : List Piece := r.pieces.filter (fun y => decide (y.num ≠ c.num) && y.state.unsent)

theorem filter_replacedPiece {c c' : Piece} {f : PieceState → Bool} (hc : f c'.state = false) (l : List Piece) :
    (replacedPiece c c' l).filter (fun y => f y.state) = l.filter (fun y => decide (y.num ≠ c.num) && f y.state) := by
  induction l with
  | nil => rfl
  | cons y l ih =>
    by_cases h : y.num = c.num
    · simpa [replacedPiece, h, hc] using ih
    · cases hy : f y.state <;> simpa [replacedPiece, h, hy] using ih

theorem Request.Counted.ended {r : Request} {c : Piece} (h : r.Counted) (hc : c ∈ r.pieces) (hl : c.state.live = true) {st : PieceState}
    (hst : st.live = false) : (r.ended c st).Counted := by
  have hone := Request.livePieces_modPiece (f := Piece.endedIn st) h.1 hc
  have hsame : r.modPiece c.num (Piece.endedIn st) = { r with pieces := replacedPiece c (c.endedIn st) r.pieces } :=
    (h.lonePiece hc).modPiece _
  rw [hsame] at hone
  refine ⟨?_, ?_⟩
  · have := map_key_replace (key := fun y : Piece => y.num) (l := r.pieces) (fun _ => c.endedIn st)
    show ((replacedPiece c (c.endedIn st) r.pieces).map (fun y => y.num)).Nodup
    have hkeep : (replacedPiece c (c.endedIn st) r.pieces).map (fun y => y.num) = r.pieces.map (fun y => y.num) := by
      unfold replacedPiece
      rw [List.map_map]
      refine List.map_congr_left fun y _ => ?_
      simp only [Function.comp_apply]
      split
      · exact (‹y.num = c.num›).symm
      · rfl
    rw [hkeep]
    exact h.1
  · have hcount : (c.endedIn st).count = 0 := by simp [Piece.count, Piece.endedIn, hst]
    have hcc : c.count = 1 := by simp [Piece.count, hl]
    rw [hcount, hcc] at hone
    have hout := h.2
    show r.outstanding - 1 = Request.livePieces { r with pieces := replacedPiece c (c.endedIn st) r.pieces }
    omega

/-- A failed piece and the removal of what is unsent leave the record that R69 and R70 say. -/
theorem Request.ended_endedBy {r : Request} {c : Piece} (h : r.Counted) (hc : c ∈ r.pieces) (hl : c.state.live = true) (st : PieceStatus) :
    (r.ended c (.resolved st)).endedBy PieceState.unsent .removed = r.afterFailure c st := by
  have hpieces : endedPieces PieceState.unsent .removed (r.ended c (.resolved st)).pieces = (r.afterFailure c st).pieces := by
    unfold endedPieces Request.ended Request.afterFailure replacedPiece
    rw [List.map_map]
    refine List.map_congr_left fun y hy => ?_
    by_cases hyc : y.num = c.num
    · obtain rfl := h.piece_eq hc hy hyc
      simp [PieceState.unsent]
    · simp [hyc, Piece.endedIn]
  have hended := h.ended hc hl (st := .resolved st) rfl
  have hcount : (r.ended c (.resolved st)).outstanding - ((r.ended c (.resolved st)).pieces.filter (fun y => y.state.unsent)).length =
      (r.afterFailure c st).outstanding := by
    rw [hended.2]
    show _ = (r.pieces.filter (fun y => decide (y.num ≠ c.num ∧ y.state = .sent))).length
    have hsent : (r.ended c (.resolved st)).pieces.filter (fun y => decide (y.state = .sent)) =
        r.pieces.filter (fun y => decide (y.num ≠ c.num ∧ y.state = .sent)) := by
      refine (filter_replacedPiece (f := fun x => decide (x = .sent)) rfl r.pieces).trans (List.filter_congr fun y _ => ?_)
      rw [Bool.decide_and]
    have hsplit (l : List Piece) : (l.filter (fun y => y.state.live)).length =
        (l.filter (fun y => y.state.unsent)).length + (l.filter (fun y => decide (y.state = .sent))).length := by
      induction l with
      | nil => rfl
      | cons y l ih =>
        have hy : (if y.state.live then 1 else 0) = (if y.state.unsent then 1 else 0) + (if decide (y.state = .sent) then 1 else 0) := by
          cases y.state <;> rfl
        simp only [List.filter_cons]
        split_ifs at hy ⊢ <;> grind
    rw [← hsent, Request.livePieces, hsplit]
    omega
  unfold Request.endedBy
  rw [hpieces, hcount]
  unfold Request.ended Request.afterFailure
  simp [mergeEnd]

theorem removeUnsent_endPiece {r : Request} {c : Piece} {s : State} (h : Lone s r) (hr : r.Counted) (hc : c ∈ r.pieces)
    (hl : c.state.live = true) (st : PieceStatus) :
    removeUnsent r.id (endPiece ⟨r.id, c.num⟩ (.resolved st) s) =
      withoutPieces r (r.unsentBut c)
        { s with
          requests := replaced r (r.afterFailure c st) s.requests
          units := (countOut r.unit 1 s).units } := by
  have hended := hr.ended hc hl (st := .resolved st) rfl
  have hlone : Lone (countOut r.unit 1 { s with requests := replaced r (r.ended c (.resolved st)) s.requests })
      (r.ended c (.resolved st)) :=
    h.replaced rfl (countOut_requests _ _ _)
  have hgone : (r.ended c (.resolved st)).pieces.filter (fun y => y.state.unsent) = r.unsentBut c :=
    filter_replacedPiece (c' := { c with state := .resolved st, ttag := none, deadline := none }) (f := PieceState.unsent) rfl r.pieces
  rw [endPiece_lone h (hr.lonePiece hc) hl]
  refine (removeUnsent_lone hlone hended.1).trans ?_
  rw [hgone, Request.ended_endedBy hr hc hl, countOut_requests, replaced_replaced (r := r) (r1 := r.ended c (.resolved st)) rfl]
  cases r.unit <;> rfl

end Sys2Proof.Machine
end

section
/-! PROOFS. An evaluation of a meter charges the heads of its list (R77, R80, R84 to R87). -/

namespace Sys2Proof.Machine

open Sys2Proof

/-! ### What an evaluation asks of the list -/

/-- Request `r` may stand on the list of meter `n`: while its target is not UP, all of it that is live is CHARGING, and its initiator can
be answered. -/
def State.MayWait (s : State) (n : Fin 16) (r : Request) : Prop :=
  r.meter = some n ∧ ((s.ports.get r.target).link ≠ .up →
    (∀ y ∈ r.pieces, y.state.live = true → y.state = .charging) ∧ (r.abandoned = false → (s.ports.get r.dom.port).link = .up))

/-- Meter `n` can charge the requests of `list`. -/
structure Listed (n : Fin 16) (list : List Nat) (s : State) : Prop where
  waiting : (s.meters.get n).waiting = list
  nodup   : list.Nodup
  release : (s.meters.get n).release = none
  credit  : (s.meters.get n).credit ≤ 256 * (s.meters.get n).depth
  each    : ∀ id ∈ list, ∃ r, Lone s r ∧ r.Counted ∧ r.id = id ∧ s.MayWait n r

/-- The state with another list at meter `n`. -/
def listOf (n : Fin 16) (list : List Nat) (s : State) : State := s.modMeter n (fun v => { v with waiting := list })

section
variable {n : Fin 16} {s t : State} {r : Request} {rest : List Nat}

theorem Listed.of_mem {id : Nat} (h : Listed n (id :: rest) s) (hr : r ∈ s.requests) (hid : r.id = id) :
    Lone s r ∧ r.Counted ∧ s.MayWait n r := by
  obtain ⟨q, hq, hrest, hqid, hw⟩ := h.each id List.mem_cons_self
  obtain rfl := hq.only r hr (hid.trans hqid.symm)
  exact ⟨hq, hrest, hw⟩

theorem Listed.lone (h : Listed n (r.id :: rest) s) (hr : r ∈ s.requests) : Lone s r := (h.of_mem hr rfl).1

theorem Listed.counted (h : Listed n (r.id :: rest) s) (hr : r ∈ s.requests) : r.Counted := (h.of_mem hr rfl).2.1

theorem Listed.head (h : Listed n (r.id :: rest) s) (hr : r ∈ s.requests) : s.MayWait n r := (h.of_mem hr rfl).2.2

/-- The rest of the list can be charged in a state with the same links, in which its records stand. -/
theorem Listed.behind {id : Nat} (h : Listed n (id :: rest) s) (hw : (t.meters.get n).waiting = rest)
    (hrel : (t.meters.get n).release = none) (hcred : (t.meters.get n).credit ≤ 256 * (t.meters.get n).depth)
    (hl : ∀ p : Port, (t.ports.get p).link = (s.ports.get p).link)
    (hr : ∀ q, Lone s q → q.id ≠ id → Lone t q) : Listed n rest t := by
  obtain ⟨hid, hn⟩ := List.nodup_cons.mp h.nodup
  refine ⟨hw, hn, hrel, hcred, fun i hi => ?_⟩
  obtain ⟨q, hq, hc, rfl, hmeter, hmay⟩ := h.each i (List.mem_cons_of_mem _ hi)
  refine ⟨q, hr q hq fun e => hid (e ▸ hi), hc, rfl, hmeter, ?_⟩
  rw [hl, hl]
  exact hmay

end

/-! ### One piece (R80, R84 to R87) -/

/-- What a meter does with a piece is a payment, the clamp case, or a wait. -/
theorem tryCharge_cases (n : Fin 16) (d : Domain) (len : Nat) (s : State) :
    match (s.meters.get n).tryCharge (pieceCost len) with
    | .paid credit => Paid n d len s (s.modMeter n (fun v => { v with credit := credit }))
    | .clamped => Paid n d len s (setFlag d .clamped (s.modMeter n (fun v => { v with credit := 0 })))
    | .waits k => ((s.meters.get n).credit ≤ 256 * (s.meters.get n).depth → (s.meters.get n).credit < wantedCredit (s.meters.get n) len) ∧
        k = wantedCredit (s.meters.get n) len - (s.meters.get n).credit := by
  have hwant : wantedCredit (s.meters.get n) len = 256 * min (pieceCost len) (s.meters.get n).depth := rfl
  unfold Meter.tryCharge
  by_cases hd : pieceCost len ≤ (s.meters.get n).depth
  · rw [if_pos hd]
    by_cases hc : 256 * pieceCost len ≤ (s.meters.get n).credit
    · rw [if_pos hc]
      exact .inl ⟨hd, hc, rfl⟩
    · rw [if_neg hc]
      simp only [hwant, min_eq_left hd, and_true]
      exact fun _ => Nat.lt_of_not_le hc
  · rw [if_neg hd]
    by_cases hc : (s.meters.get n).credit = 256 * (s.meters.get n).depth
    · rw [if_pos hc]
      exact .inr ⟨Nat.lt_of_not_le hd, hc, rfl⟩
    · rw [if_neg hc]
      simp only [hwant, min_eq_right (Nat.le_of_not_le hd), and_true]
      omega

/-- A payment changes the credit of the meter, and a flag. -/
structure PaidFor (n : Fin 16) (s s1 : State) : Prop where
  meters   : ∃ k ≤ (s.meters.get n).credit, s1.meters = setAt s.meters n { s.meters.get n with credit := k }
  requests : s1.requests = s.requests
  ports    : s1.ports = s.ports
  units    : s1.units = s.units
  gateTime : s1.gateTime = s.gateTime

theorem Paid.paidFor {n : Fin 16} {d : Domain} {len : Nat} {s s1 : State} (h : Paid n d len s s1) : PaidFor n s s1 := by
  rcases h with ⟨-, -, rfl⟩ | ⟨-, -, rfl⟩
  · exact ⟨⟨_, Nat.sub_le _ _, rfl⟩, rfl, rfl, rfl, rfl⟩
  · exact ⟨⟨_, Nat.zero_le _, rfl⟩, rfl, rfl, rfl, rfl⟩

theorem Listed.paid {n : Fin 16} {list : List Nat} {s s1 : State} (h : Listed n list s) (hp : PaidFor n s s1) : Listed n list s1 := by
  obtain ⟨k, hk, hm⟩ := hp.meters
  have hget : s1.meters.get n = { s.meters.get n with credit := k } := by rw [hm, setAt_get_same]
  refine ⟨by rw [hget]; exact h.waiting, h.nodup, by rw [hget]; exact h.release, by rw [hget]; exact hk.trans h.credit,
    fun id hid => ?_⟩
  obtain ⟨r, hr, hc, e, hmay⟩ := h.each id hid
  refine ⟨r, hr.congr hp.requests, hc, e, ?_⟩
  unfold State.MayWait
  rw [hp.ports]
  exact hmay

section
variable {n : Fin 16} {s s1 : State} {r : Request} {rest : List Nat} {before after : List Piece} {c : Piece}

/-- A charged piece enters QUEUED at its UP target (R59, R84). -/
theorem enterQueued_up (h : Lone s r) (hn : (r.pieces.map (fun y => y.num)).Nodup)
    (hp : r.pieces = before ++ c :: after) (hup : (s.ports.get r.target).link = .up) :
    enterQueued r c.num s = withQueued r before c after s := by
  have hc : c ∈ r.pieces := hp ▸ List.mem_append_right _ List.mem_cons_self
  have hpiece : LonePiece r c := ⟨hc, fun _ hy e => List.inj_on_of_nodup_map hn hy hc e⟩
  rw [hp] at hn
  unfold enterQueued
  rw [if_pos ((State.isUp_iff _ _).mpr hup), setPiece_lone h hpiece, hp, replacedPiece_middle hn]
  rfl

/-- The record after a piece of it was charged. -/
theorem withQueued_record (h : Lone s r) :
    ({ r with pieces := before ++ { c with state := .queued } :: after } : Request) ∈ (withQueued r before c after s).requests :=
  (mem_replaced h.mem).mpr (.inl rfl)

theorem withQueued_link (p : Port) : ((withQueued r before c after s).ports.get p).link = (s.ports.get p).link := by
  unfold withQueued
  rw [PerPort.get_set]
  split <;> simp_all

/-- The record counts its pieces as before. -/
theorem withQueued_live (hp : r.pieces = before ++ c :: after) (hc : c.state = .charging) :
    Request.livePieces { r with pieces := before ++ { c with state := .queued } :: after } = r.livePieces := by
  simp [Request.livePieces, hp, hc, PieceState.live]

theorem withQueued_counted (hr : r.Counted) (hp : r.pieces = before ++ c :: after) (hc : c.state = .charging) :
    Request.Counted { r with pieces := before ++ { c with state := .queued } :: after } := by
  obtain ⟨hn, ho⟩ := hr
  refine ⟨?_, ho.trans (withQueued_live hp hc).symm⟩
  rw [hp] at hn
  simpa using hn

/-- Another record stands alone as before. -/
theorem Lone.replaced_other {t : State} {q r' : Request} (hq : Lone s q) (hne : q.id ≠ r.id) (hr : r ∈ s.requests) (hid : r'.id = r.id)
    (ht : t.requests = Machine.replaced r r' s.requests) : Lone t q := by
  refine ⟨by rw [ht, mem_replaced hr]; exact .inr ⟨hq.mem, hne⟩, fun y hy e => ?_⟩
  rw [ht, mem_replaced hr] at hy
  rcases hy with rfl | ⟨hy, -⟩
  · exact absurd (e.symm.trans hid) hne
  · exact hq.only y hy e

theorem Lone.filter {t : State} {q : Request} {id : Nat} (hq : Lone s q) (hne : q.id ≠ id)
    (ht : t.requests = s.requests.filter (fun x => decide (x.id ≠ id))) : Lone t q := by
  refine ⟨by rw [ht]; exact List.mem_filter.mpr ⟨hq.mem, decide_eq_true hne⟩, fun y hy => ?_⟩
  rw [ht] at hy
  exact hq.only y (List.mem_filter.mp hy).1

theorem Listed.queued (h : Listed n (r.id :: rest) s) (hr : r ∈ s.requests) (hp : r.pieces = before ++ c :: after)
    (hc : c.state = .charging) (hup : (s.ports.get r.target).link = .up) : Listed n (r.id :: rest) (withQueued r before c after s) := by
  refine ⟨h.waiting, h.nodup, h.release, h.credit, fun id hid => ?_⟩
  rcases List.mem_cons.mp hid with rfl | hid
  · refine ⟨_, (h.lone hr).replaced (r' := { r with pieces := before ++ { c with state := .queued } :: after }) rfl rfl,
      withQueued_counted (h.counted hr) hp hc, rfl, (h.head hr).1, fun hdown => ?_⟩
    rw [withQueued_link] at hdown
    exact absurd hup hdown
  · obtain ⟨q, hq, hcq, e, hmay⟩ := h.each id (List.mem_cons_of_mem _ hid)
    have hne : q.id ≠ r.id := fun e' => (List.nodup_cons.mp h.nodup).1 (e' ▸ e ▸ hid)
    refine ⟨q, hq.replaced_other (r' := { r with pieces := before ++ { c with state := .queued } :: after }) hne hr rfl rfl, hcq, e, ?_⟩
    unfold State.MayWait
    rw [withQueued_link, withQueued_link]
    exact hmay

theorem PieceStatus.merge_linkDown (w : PieceStatus) : w.merge .linkDown = .linkDown := by cases w <;> rfl

/-- A meter that loses the head of its list, with no release time set. -/
theorem withoutListed_head {v : Meter} {id : Nat} (hw : v.waiting = id :: rest) (hn : (id :: rest).Nodup) (hr : v.release = none) :
    withoutListed (fun i => decide (i = id)) v = { v with waiting := rest } := by
  have hrest : rest.filter (fun i => !decide (i = id)) = rest :=
    List.filter_eq_self.mpr fun i hi => by
      have : i ≠ id := fun e => (List.nodup_cons.mp hn).1 (e ▸ hi)
      simpa using this
  unfold withoutListed
  simp [hw, hr, hrest]

/-- An ended request of which everything failed. -/
theorem withRequestAnswer_failed {r q : Request} {st : PieceStatus} (hst : st ≠ .ok) (hd : q.dom = r.dom) (ht : q.tag = r.tag)
    (ha : q.abandoned = r.abandoned) (data data' : List Byte) (s : State) :
    withRequestAnswer q st data s = withRequestAnswer r st data' s := by
  unfold withRequestAnswer
  simp only [hd, ht, ha, hst, and_false, if_false]

@[simp] theorem withRequestAnswer_link (r : Request) (st : PieceStatus) (data : List Byte) (s : State) (p : Port) :
    ((withRequestAnswer r st data s).ports.get p).link = (s.ports.get p).link := by
  unfold withRequestAnswer
  split
  · rfl
  · split
    · rfl
    · unfold withOut
      rw [PerPort.get_set]
      split
      · rename_i h; rw [h]
      · rfl

/-- An answer changes an outbound queue alone. -/
theorem withRequestAnswer_eq (r : Request) (st : PieceStatus) (data : List Byte) (s : State) :
    withRequestAnswer r st data s = { s with ports := (withRequestAnswer r st data s).ports } := by
  unfold withRequestAnswer
  split
  · rfl
  · split <;> rfl

/-- The state once `r` is released and off the list of meter `n`, before its answer (R77). -/
def unlisted (n : Fin 16) (r : Request) (rest : List Nat) (s : State) : State :=
  { s with
    requests := s.requests.filter (fun q => decide (q.id ≠ r.id))
    units := (countOut r.unit r.livePieces s).units
    meters := setAt s.meters n { s.meters.get n with waiting := rest } }

theorem withLinkDown_eq (n : Fin 16) (r : Request) (rest : List Nat) (s : State) :
    withLinkDown n r rest s = withRequestAnswer r .linkDown [] (unlisted n r rest s) := by
  unfold withLinkDown unlisted
  cases r.unit <;> rfl

/-- A charged piece toward a port that is not UP ends its request LINK_DOWN (R77). -/
theorem enterQueued_down (h : Listed n (r.id :: rest) s) (hr : r ∈ s.requests) (hcp : c ∈ r.pieces) (hc : c.state = .charging)
    (hdown : (s.ports.get r.target).link ≠ .up) : enterQueued r c.num s = withLinkDown n r rest s := by
  obtain ⟨hmeter, hmay⟩ := h.head hr
  obtain ⟨hcharging, hup⟩ := hmay hdown
  have hlone := h.lone hr
  have hcount := h.counted hr
  have hlive : c.state.live = true := by rw [hc]; rfl
  have hgone : ∀ y ∈ r.unsentBut c, y.state = .charging := fun y hy => by
    obtain ⟨hy, hb⟩ := List.mem_filter.mp hy
    exact hcharging y hy (PieceState.unsent_live (Bool.and_eq_true_iff.mp hb).2)
  have hnone : (s.ports.get r.target).without r (r.unsentBut c) = s.ports.get r.target :=
    PortState.without_none r _ fun y hy => by rw [hgone y hy]; simp
  have hsent : (r.afterFailure c .linkDown).outstanding = 0 := by
    refine List.length_eq_zero_iff.mpr (List.filter_eq_nil_iff.mpr fun y hy => ?_)
    simp only [decide_eq_true_eq, not_and]
    intro _ hs
    have := hcharging y hy (by rw [hs]; rfl)
    rw [hs] at this
    cases this
  have hall : 1 + (r.unsentBut c).length = r.livePieces := by
    have hended := (hcount.ended hcp hlive (st := .resolved .linkDown) rfl).2
    have hleft : (r.ended c (.resolved .linkDown)).livePieces = (r.unsentBut c).length := by
      refine congrArg List.length ((filter_replacedPiece (f := PieceState.live) rfl r.pieces).trans (List.filter_congr fun y hy => ?_))
      cases hy' : y.state.live
      · cases hu : y.state.unsent
        · rfl
        · rw [PieceState.unsent_live hu] at hy'; cases hy'
      · rw [hcharging y hy hy']
        rfl
    have hout := hcount.2
    have hpos := Request.livePieces_pos hcp hlive
    have : (r.ended c (.resolved .linkDown)).outstanding = r.outstanding - 1 := rfl
    omega
  unfold enterQueued
  rw [if_neg (by rw [State.isUp_iff]; exact hdown), removeUnsent_endPiece hlone hcount hcp hlive]
  have hout : Lone (withoutPieces r (r.unsentBut c)
      { s with requests := replaced r (r.afterFailure c .linkDown) s.requests, units := (countOut r.unit 1 s).units })
      (r.afterFailure c .linkDown) := hlone.replaced rfl rfl
  refine (finishRequest_ends hout hsent fun ha => ?_).trans ?_
  · rw [withoutPieces_eq, hnone, PerPort.set_get]
    exact hup ha
  · rw [withRequestAnswer_failed (q := r.afterFailure c .linkDown) (r := r)
        (data' := []) (by simp [Request.afterFailure, PieceStatus.merge_linkDown]) rfl rfl rfl]
    rw [withLinkDown_eq]
    congr 1
    · exact PieceStatus.merge_linkDown _
    · have hunits := countOut_countOut r.unit 1 (r.unsentBut c).length s
        { s with requests := replaced r (r.afterFailure c .linkDown) s.requests, units := (countOut r.unit 1 s).units } rfl
      rw [withoutPieces_eq]
      dsimp only
      rw [hnone, PerPort.set_get, metersWithout, hmeter]
      dsimp only
      rw [withoutListed_head h.waiting h.nodup h.release, hunits, hall,
        show (r.afterFailure c .linkDown).id = r.id from rfl, filter_replaced (r := r) (r' := r.afterFailure c _) rfl]
      rfl

theorem Listed.linkDown (h : Listed n (r.id :: rest) s) : Listed n rest (withLinkDown n r rest s) := by
  have hget : (withLinkDown n r rest s).meters.get n = { s.meters.get n with waiting := rest } := by
    rw [withLinkDown_eq, withRequestAnswer_eq]
    exact setAt_get_same _ _ _
  refine h.behind (by rw [hget]) (by rw [hget]; exact h.release) (by rw [hget]; exact h.credit) (fun p => ?_) fun q hq hne => ?_
  · rw [withLinkDown_eq, withRequestAnswer_link]
    rfl
  · refine hq.filter hne ?_
    rw [withLinkDown_eq, withRequestAnswer_eq]
    rfl

end

/-! ### The head, piece by piece (R84) -/

theorem listOf_self {n : Fin 16} {list : List Nat} {s : State} (h : (s.meters.get n).waiting = list) : listOf n list s = s := by
  subst h
  exact congrArg (fun v => { s with meters := v }) (setAt_self s.meters n)

/-- Nothing is charged of a record that is not there. -/
theorem chargePieces_absent {n : Fin 16} {id : Nat} {s : State} (h : ∀ q ∈ s.requests, q.id ≠ id) (nums : List Nat) :
    chargePieces n id nums s = (s, false) := by
  have hnone : s.request id = none := List.find?_eq_none.mpr fun q hq => by simpa using h q hq
  induction nums with
  | nil => rfl
  | cons num nums ih =>
    rw [chargePieces, show s.piece ⟨id, num⟩ = none by unfold State.piece; rw [hnone]]
    exact ih

/-- The pieces of the head that are left are charged in their order: the meter comes to wait, or to the next head. -/
theorem chargePieces_charges {n : Fin 16} {rest : List Nat} {todo : List Piece} : ∀ {done : List Piece} {r : Request} {s : State},
    Listed n (r.id :: rest) s → r ∈ s.requests → r.pieces = done ++ todo → (∀ y ∈ done, y.state ≠ .charging) →
    (∃ t, chargePieces n r.id (todo.map (fun y => y.num)) s = (t, true) ∧ Charges n s t) ∨
    ∃ t, chargePieces n r.id (todo.map (fun y => y.num)) s = (t, false) ∧ Listed n rest (listOf n rest t) ∧
      ∀ x, Charges n (listOf n rest t) x → Charges n s x := by
  induction todo with
  | nil =>
    intro done r s h hr hp hd
    refine .inr ⟨s, rfl, h.behind ?_ ?_ ?_ (fun _ => rfl) fun q hq _ => hq.congr rfl, fun x hx => ?_⟩
    · exact congrArg Meter.waiting (setAt_get_same _ _ _)
    · exact (congrArg Meter.release (setAt_get_same _ _ _)).trans h.release
    · unfold listOf; rw [State.modMeter, setAt_get_same]; exact h.credit
    · exact .next s x r rest h.waiting hr (fun y hy => hd y (by rw [hp, List.append_nil] at hy; exact hy)) hx
  | cons c todo ih =>
    intro done r s h hr hp hd
    have hmem : c ∈ r.pieces := hp ▸ List.mem_append_right _ List.mem_cons_self
    have hpiece := (h.lone hr).piece ((h.counted hr).lonePiece hmem)
    rw [List.map_cons, chargePieces, hpiece]
    dsimp only
    by_cases hc : c.state = .charging
    · rw [if_pos hc]
      have hnext : NextPiece n s r rest done c todo := ⟨h.waiting, hr, hp, hc, hd⟩
      have hcharged (s1 : State) (hpaid : Paid n r.dom c.len s s1) :
          (∃ t, chargePieces n r.id (todo.map (fun y => y.num)) (enterQueued r c.num s1) = (t, true) ∧ Charges n s t) ∨
          ∃ t, chargePieces n r.id (todo.map (fun y => y.num)) (enterQueued r c.num s1) = (t, false) ∧ Listed n rest (listOf n rest t) ∧
            ∀ x, Charges n (listOf n rest t) x → Charges n s x := by
        have h1 := h.paid hpaid.paidFor
        have hr1 : r ∈ s1.requests := hpaid.paidFor.requests ▸ hr
        by_cases hup : (s.ports.get r.target).link = .up
        · have hup1 : (s1.ports.get r.target).link = .up := by rw [hpaid.paidFor.ports]; exact hup
          rw [enterQueued_up (h1.lone hr1) (h1.counted hr1).1 hp hup1]
          have hqueued : ∀ y ∈ done ++ [{ c with state := .queued }], y.state ≠ .charging := fun y hy => by
            rcases List.mem_append.mp hy with hy | hy
            · exact hd y hy
            · rw [List.mem_singleton.mp hy]; simp
          rcases ih (done := done ++ [{ c with state := .queued }])
            (r := { r with pieces := done ++ { c with state := .queued } :: todo })
            (h1.queued hr1 hp hc hup1) (withQueued_record (h1.lone hr1))
            (by simp) hqueued with ⟨t, ht, hch⟩ | ⟨t, ht, hl, hch⟩
          · exact .inl ⟨t, ht, .queued s s1 t r rest done c todo hnext hup hpaid hch⟩
          · exact .inr ⟨t, ht, hl, fun x hx => .queued s s1 x r rest done c todo hnext hup hpaid (hch x hx)⟩
        · have hdown1 : (s1.ports.get r.target).link ≠ .up := by rw [hpaid.paidFor.ports]; exact hup
          have hlist := h1.linkDown
          have hsame := listOf_self hlist.waiting
          rw [enterQueued_down h1 hr1 hmem hc hdown1]
          refine .inr ⟨_, chargePieces_absent (fun q hq => ?_) _, by rw [hsame]; exact hlist, fun x hx => ?_⟩
          · rw [withLinkDown_eq, withRequestAnswer_eq] at hq
            exact of_decide_eq_true (List.mem_filter.mp hq).2
          · rw [hsame] at hx
            exact .linkDown s s1 x r rest done c todo hnext hup hpaid hx
      have hcases := tryCharge_cases n r.dom c.len s
      rw [show s.meter n = s.meters.get n from rfl]
      cases htry : (s.meters.get n).tryCharge (pieceCost c.len) with
      | paid credit =>
        rw [htry] at hcases
        exact hcharged _ hcases
      | clamped =>
        rw [htry] at hcases
        exact hcharged _ hcases
      | waits k =>
        rw [htry] at hcases
        obtain ⟨hshort, rfl⟩ := hcases
        exact .inl ⟨_, rfl, .waits s r rest done c todo hnext (hshort h.credit)⟩
    · rw [if_neg hc]
      exact ih (done := done ++ [c]) h hr (by rw [hp]; simp) fun y hy => by
        rcases List.mem_append.mp hy with hy | hy
        · exact hd y hy
        · rw [List.mem_singleton.mp hy]; exact hc

theorem chargeHeads_cons (n : Fin 16) (id : Nat) (rest : List Nat) (s : State) :
    chargeHeads n (id :: rest) s =
      match chargePieces n id (pieceNums (listOf n (id :: rest) s) id) (listOf n (id :: rest) s) with
      | (s2, true) => s2
      | (s2, false) => chargeHeads n rest s2 := rfl

/-- The requests of the list are charged one after another (R84). -/
theorem chargeHeads_charges {n : Fin 16} {list : List Nat} : ∀ {s : State}, Listed n list (listOf n list s) →
    Charges n (listOf n list s) (chargeHeads n list s) := by
  induction list with
  | nil => exact fun h => .empty _ h.waiting
  | cons id rest ih =>
    intro s h
    obtain ⟨r, hlone, -, rfl, -⟩ := h.each id List.mem_cons_self
    have hr := hlone.mem
    have hnums : pieceNums (listOf n (r.id :: rest) s) r.id = r.pieces.map (fun y => y.num) := by
      unfold pieceNums
      rw [(h.lone hr).request]
    rw [chargeHeads_cons, hnums]
    rcases chargePieces_charges (done := []) h hr rfl (by simp) with ⟨t, ht, hch⟩ | ⟨t, ht, hl, hch⟩
    · rw [ht]
      exact hch
    · rw [ht]
      exact hch _ (ih hl)

/-- An evaluation of a list that is not empty refills the meter first (R81). -/
theorem evalMeter_refills {n : Fin 16} {id : Nat} {rest : List Nat} {s : State} (hw : (s.meters.get n).waiting = id :: rest) :
    evalMeter n s = chargeHeads n (id :: rest) (withRefill n (id :: rest) s) := by
  have hstart : s.modMeter n (fun v => { v.refill s.gateTime with release := none }) = withRefill n (id :: rest) s := by
    unfold withRefill State.modMeter Meter.refill Meter.refilled
    rw [← hw]
  unfold evalMeter
  rw [show (s.meter n).waiting = id :: rest from hw, ← hstart]

/-- Meter `n` can charge its list once it is refilled. -/
def State.Chargeable (s : State) (n : Fin 16) : Prop :=
  (s.meters.get n).waiting.Nodup ∧
    ∀ id ∈ (s.meters.get n).waiting, ∃ r, Lone s r ∧ r.Counted ∧ r.id = id ∧ s.MayWait n r

theorem State.CountLaw.chargeable {n : Fin 16} {s : State} (h : s.CountLaw) (hn : (s.meters.get n).waiting.Nodup)
    (heach : ∀ id ∈ (s.meters.get n).waiting, ∃ r ∈ s.requests, r.id = id ∧ s.MayWait n r) : s.Chargeable n := by
  refine ⟨hn, fun id hid => ?_⟩
  obtain ⟨r, hr, e, hmay⟩ := heach id hid
  exact ⟨r, h.lone hr, h.counted hr, e, hmay⟩

/-- An evaluation refills the meter and charges from the head of its list (R81, R84). -/
theorem evalMeter_charges {n : Fin 16} {s : State} (h : s.Chargeable n) (hne : (s.meters.get n).waiting ≠ []) :
    Charges n (withRefill n (s.meters.get n).waiting s) (evalMeter n s) := by
  obtain ⟨hn, heach⟩ := h
  cases hw : (s.meters.get n).waiting with
  | nil => exact absurd hw hne
  | cons id rest =>
    have hlisted : Listed n (id :: rest) (withRefill n (id :: rest) s) := by
      have hget : (withRefill n (id :: rest) s).meters.get n = _ := setAt_get_same _ _ _
      rw [hw] at hn heach
      refine ⟨by rw [hget], hn, by rw [hget], by rw [hget]; exact min_le_left _ _, fun i hi => ?_⟩
      obtain ⟨r, hr, hc, e, hmay⟩ := heach i hi
      exact ⟨r, hr.congr rfl, hc, e, hmay⟩
    have hself := listOf_self hlisted.waiting
    rw [evalMeter_refills hw]
    have := chargeHeads_charges (s := withRefill n (id :: rest) s) (by rw [hself]; exact hlisted)
    rw [hself] at this
    exact this

/-! ### The release time (R85, R88) -/

section
variable {n : Fin 16} {e : Nat} {s : State}

theorem releaseTime_due (h : (s.meters.get n).release = some e) (he : e ≤ s.gateTime) :
    exec (.releaseTime n) s = .next (evalMeter n (s.modMeter n (fun v => { v with release := none }))) := by
  have hdue : expired (releaseOf s n) s.gateTime = true := by
    unfold releaseOf
    rw [show (s.meter n).release = some e from h]
    exact decide_eq_true he
  exact congrArg Host.Outcome.next (if_pos hdue)

theorem releaseTime_early (h : (s.meters.get n).release = some e) (he : s.gateTime < e) : exec (.releaseTime n) s = .next s := by
  have hdue : ¬expired (releaseOf s n) s.gateTime = true := by
    unfold releaseOf
    rw [show (s.meter n).release = some e from h]
    simpa [expired] using he
  exact congrArg Host.Outcome.next (if_neg hdue)

theorem withRefill_release (n : Fin 16) (list : List Nat) (s : State) :
    withRefill n list (s.modMeter n (fun v => { v with release := none })) = withRefill n list s := by
  simp only [withRefill, State.modMeter, setAt_get_same, setAt_setAt]

/-- A head of one piece (R84 to R87). -/
theorem evalMeter_single {r : Request} {c : Piece} {rest : List Nat} (hw : (s.meters.get n).waiting = r.id :: rest) (hr : Lone s r)
    (hp : r.pieces = [c]) (hc : c.state = .charging) :
    let s0 := withRefill n (r.id :: rest) s
    evalMeter n s =
      match (s0.meters.get n).tryCharge (pieceCost c.len) with
      | .paid credit => chargeHeads n rest (enterQueued r c.num (s0.modMeter n (fun v => { v with credit := credit })))
      | .clamped => chargeHeads n rest (enterQueued r c.num (setFlag r.dom .clamped (s0.modMeter n (fun v => { v with credit := 0 }))))
      | .waits k => setFlag r.dom .throttled (s0.modMeter n (fun v => { v with release := v.releaseAt s0.gateTime k })) := by
  intro s0
  have hpiece : LonePiece r c := ⟨by rw [hp]; exact List.mem_cons_self, fun y hy _ => by rw [hp] at hy; exact List.mem_singleton.mp hy⟩
  have hr0 : Lone s0 r := hr.congr rfl
  have hself : listOf n (r.id :: rest) s0 = s0 := listOf_self (congrArg Meter.waiting (setAt_get_same _ _ _))
  have hnums : pieceNums s0 r.id = [c.num] := by
    unfold pieceNums
    rw [hr0.request]
    dsimp only
    rw [hp]
    rfl
  rw [evalMeter_refills hw, chargeHeads_cons, hself, hnums, chargePieces, hr0.piece hpiece]
  dsimp only
  rw [if_pos hc, show s0.meter n = s0.meters.get n from rfl]
  cases (s0.meters.get n).tryCharge (pieceCost c.len) <;> rfl

end

/-- Settles O35: the head's pieces are charged in their order, and then the heads behind it, along the list. -/
theorem releaseTimeChargesTheHead : Obligations.ReleaseTimeChargesTheHead := by
  intro n e s he
  refine ⟨releaseTime_early he, fun hdue hw => ?_, fun r c rest hdue hw hr hu hp hc hup => ?_, fun hdue hne hn hcount heach => ?_⟩
  · have hempty : ((s.modMeter n (fun v => { v with release := none })).meter n).waiting = [] :=
      (congrArg Meter.waiting (setAt_get_same _ _ _)).trans hw
    rw [releaseTime_due he hdue]
    unfold evalMeter
    rw [hempty]
    rfl
  · intro v credit cost admitted waits
    have hlone : Lone (s.modMeter n (fun v => { v with release := none })) r := ⟨hr, hu⟩
    have heval := evalMeter_single (s := s.modMeter n (fun v => { v with release := none })) (n := n) (rest := rest)
      ((congrArg Meter.waiting (setAt_get_same _ _ _)).trans hw) hlone hp hc
    rw [withRefill_release] at heval
    have hmeter : (withRefill n (r.id :: rest) s).meters.get n =
        { v with credit := credit, last := s.gateTime, waiting := r.id :: rest, release := none } := setAt_get_same _ _ _
    dsimp only at heval
    rw [hmeter] at heval
    rw [releaseTime_due he hdue, heval]
    have hqueued (s1 : State) (hr1 : s1.requests = s.requests) (hp1 : s1.ports = s.ports) :
        enterQueued r c.num s1 = withQueued r [] c [] s1 :=
      enterQueued_up (hlone.congr hr1) (by rw [hp]; simp) hp (by rw [hp1]; exact hup)
    unfold Meter.tryCharge
    rw [show pieceCost c.len = cost from rfl]
    dsimp only
    refine ⟨fun hrest hd hcr => ?_, fun hrest hd hcr => ?_, fun hd hcr => ?_, fun hd hcr => ?_⟩
    · rw [if_pos hd, if_pos hcr, hrest]
      dsimp only
      rw [hqueued ((withRefill n [r.id] s).modMeter n (fun v => { v with credit := credit - 256 * cost })) rfl rfl]
      simp only [chargeHeads, State.modMeter, withQueued, withRefill, setAt_get_same, setAt_setAt, List.nil_append]
      rfl
    · rw [if_neg (Nat.not_le_of_lt hd), if_pos hcr, hrest]
      dsimp only
      rw [hqueued (setFlag r.dom .clamped ((withRefill n [r.id] s).modMeter n (fun v => { v with credit := 0 }))) rfl rfl]
      simp only [chargeHeads, State.modMeter, withQueued, withRefill, setAt_get_same, setAt_setAt, List.nil_append, setFlag, State.modFlags]
      rfl
    · rw [if_pos hd, if_neg (Nat.not_le_of_lt hcr)]
      dsimp only
      simp only [State.modMeter, withRefill, setAt_get_same, setAt_setAt, ← hw]
      rfl
    · rw [if_neg (Nat.not_le_of_lt hd), if_neg (Nat.ne_of_lt hcr)]
      dsimp only
      simp only [State.modMeter, withRefill, setAt_get_same, setAt_setAt, ← hw]
      rfl
  · have hw : ((s.modMeter n (fun v => { v with release := none })).meters.get n).waiting = (s.meters.get n).waiting :=
      (congrArg Meter.waiting (setAt_get_same _ _ _)).trans rfl
    refine ⟨_, releaseTime_due he hdue, ?_⟩
    have hready : (s.modMeter n (fun v => { v with release := none })).Chargeable n := by
      refine State.CountLaw.chargeable (s := s.modMeter n (fun v => { v with release := none }))
        (State.CountLaw.congr (s := s) rfl (fun _ => rfl) hcount) ?_ ?_
      · rw [hw]; exact hn
      · rw [hw]; exact heach
    have := evalMeter_charges hready (by rw [hw]; exact hne)
    rw [hw, withRefill_release] at this
    exact this

end Sys2Proof.Machine
end

section
/-! PROOFS. The waiting lists: what an evaluation keeps of them, and the meters that go on after an event (R82, R84, R89). -/

namespace Sys2Proof.Machine

open Sys2Proof

/-! ### The accounts of the waiting lists -/

/-- The accounts of the records and of the waiting lists, where `up` says which ports count as UP; the request `x`, if any, may have no
piece left CHARGING. -/
structure Waits (up : Port → Prop) (x : Option Nat) (s : State) : Prop where
  count  : s.CountLaw
  nodup  : ∀ n : Fin 16, (s.meters.get n).waiting.Nodup
  listed : ∀ (n : Fin 16), ∀ id ∈ (s.meters.get n).waiting, ∃ r ∈ s.requests, r.id = id ∧ r.meter = some n ∧
    (x ≠ some id → ∃ c ∈ r.pieces, c.state = .charging) ∧ (¬up r.target → ∀ c ∈ r.pieces, c.state.live = true → c.state = .charging)
  opened : ∀ r ∈ s.requests, r.abandoned = false → up r.dom.port

/-- The ports that are UP. -/
def State.ups (s : State) (p : Port) : Prop := (s.ports.get p).link = .up

/-- The parked requests have a length and came from ports that count as UP. -/
def State.Parks (s : State) (up : Port → Prop) : Prop :=
  ∀ u : Fin 8, ∀ k ∈ (s.units.get u).parked, (1 ≤ k.req.len ∧ k.req.len ≤ 256) ∧ up k.req.dom.port

section
variable {up : Port → Prop} {x : Option Nat} {s t : State}

theorem Waits.of_law (hc : s.CountLaw) (hw : s.WaitingLaw) : Waits s.ups none s := by
  obtain ⟨hlist, hopen, -⟩ := hw
  refine ⟨hc, fun n => (hlist n).1, fun n id hid => ?_, hopen⟩
  obtain ⟨r, hr, e, hm, hch, hup⟩ := (hlist n).2 id hid
  exact ⟨r, hr, e, hm, fun _ => hch, hup⟩

theorem State.WaitingLaw.of_waits (h : Waits s.ups none s) (hp : s.Parks s.ups) : s.WaitingLaw := by
  refine ⟨fun n => ⟨h.nodup n, fun id hid => ?_⟩, h.opened, fun u k hk => (hp u k hk).2⟩
  obtain ⟨r, hr, e, hm, hch, hup⟩ := h.listed n id hid
  exact ⟨r, hr, e, hm, hch (by simp), hup⟩

theorem Waits.weaken (h : Waits up none s) (x : Option Nat) : Waits up x s := by
  refine ⟨h.count, h.nodup, fun n id hid => ?_, h.opened⟩
  obtain ⟨r, hr, e, hm, hch, hup⟩ := h.listed n id hid
  exact ⟨r, hr, e, hm, fun _ => hch (by simp), hup⟩

/-- The accounts read the records, the counts and the lists alone. -/
theorem Waits.congr (h : Waits up x s) (hr : t.requests = s.requests)
    (hu : ∀ u : Fin 8, (t.units.get u).inFlight = (s.units.get u).inFlight)
    (hm : ∀ n : Fin 16, (t.meters.get n).waiting = (s.meters.get n).waiting) : Waits up x t := by
  refine ⟨h.count.congr hr hu, fun n => by rw [hm]; exact h.nodup n, fun n id hid => ?_, fun r hq => h.opened r (hr ▸ hq)⟩
  rw [hm] at hid
  rw [hr]
  exact h.listed n id hid

/-- The record of a listed request. -/
theorem Waits.meter_of_listed (h : Waits up x s) {r : Request} (hr : r ∈ s.requests) {n : Fin 16} (hl : r.id ∈ (s.meters.get n).waiting) :
    r.meter = some n ∧ (x ≠ some r.id → ∃ c ∈ r.pieces, c.state = .charging) ∧
      (¬up r.target → ∀ c ∈ r.pieces, c.state.live = true → c.state = .charging) := by
  obtain ⟨q, hq, e, hrest⟩ := h.listed n r.id hl
  rw [h.count.eq_of_id hr hq e] at hrest
  exact hrest

theorem Waits.chargeable (h : Waits s.ups x s) (n : Fin 16) : s.Chargeable n := by
  refine h.count.chargeable (h.nodup n) fun id hid => ?_
  obtain ⟨r, hr, e, hm, -, hup⟩ := h.listed n id hid
  exact ⟨r, hr, e, hm, fun hd => ⟨hup hd, h.opened r hr⟩⟩

/-- One record changes; what is on the lists stays there, but that `r` may leave its own. -/
theorem Waits.replace {y : Option Nat} {r r' : Request} (h : Waits up x s) (hr : r ∈ s.requests)
    (ht : t.requests = replaced r r' s.requests) (hid : r'.id = r.id) (hdom : r'.dom = r.dom) (hmeter : r'.meter = r.meter)
    (htarget : r'.target = r.target) (hab : r'.abandoned = false → r.abandoned = false) (hc : t.CountLaw)
    (hm : ∀ n : Fin 16, (t.meters.get n).waiting.Sublist (s.meters.get n).waiting)
    (hother : ∀ n : Fin 16, ∀ id ∈ (t.meters.get n).waiting, id ≠ r.id → y ≠ some id → x ≠ some id)
    (hown : ∀ n : Fin 16, r.id ∈ (t.meters.get n).waiting →
      (y ≠ some r.id → ∃ c ∈ r'.pieces, c.state = .charging) ∧
        (¬up r.target → ∀ c ∈ r'.pieces, c.state.live = true → c.state = .charging)) : Waits up y t := by
  refine ⟨hc, fun n => (h.nodup n).sublist (hm n), fun n id hl => ?_, fun q hq hqa => ?_⟩
  · obtain ⟨q, hq, rfl, hqm, hch, hup⟩ := h.listed n id ((hm n).subset hl)
    by_cases e : q.id = r.id
    · obtain rfl := h.count.eq_of_id hr hq e
      obtain ⟨hch', hup'⟩ := hown n hl
      exact ⟨r', by rw [ht, mem_replaced hr]; exact .inl rfl, hid, hmeter.trans hqm, hch', by rw [htarget]; exact hup'⟩
    · exact ⟨q, by rw [ht, mem_replaced hr]; exact .inr ⟨hq, e⟩, rfl, hqm, fun hy => hch (hother n q.id hl e hy), hup⟩
  · rw [ht, mem_replaced hr] at hq
    rcases hq with rfl | ⟨hq, -⟩
    · rw [hdom]; exact h.opened r hr (hab hqa)
    · exact h.opened q hq hqa

/-- A record that is on no list leaves. -/
theorem Waits.release {y : Option Nat} {id : Nat} (h : Waits up x s) (ht : t.requests = s.requests.filter (fun q => decide (q.id ≠ id)))
    (hc : t.CountLaw) (hm : ∀ n : Fin 16, (t.meters.get n).waiting.Sublist (s.meters.get n).waiting)
    (hx : ∀ n : Fin 16, ∀ i ∈ (t.meters.get n).waiting, i ≠ id ∧ (y ≠ some i → x ≠ some i)) : Waits up y t := by
  refine ⟨hc, fun n => (h.nodup n).sublist (hm n), fun n i hl => ?_, fun q hq => h.opened q (List.mem_filter.mp (ht ▸ hq)).1⟩
  obtain ⟨q, hq, rfl, hqm, hch, hup⟩ := h.listed n i ((hm n).subset hl)
  exact ⟨q, by rw [ht]; exact List.mem_filter.mpr ⟨hq, decide_eq_true (hx n _ hl).1⟩, rfl, hqm, fun hy => hch ((hx n _ hl).2 hy), hup⟩

end

/-! ### An evaluation keeps the accounts (R84) -/

theorem withQueued_count {r : Request} {before after : List Piece} {c : Piece} {s : State} (h : s.CountLaw) (hr : r ∈ s.requests)
    (hp : r.pieces = before ++ c :: after) (hc : c.state = .charging) : (withQueued r before c after s).CountLaw := by
  refine h.replace (f := fun q => if q.id = r.id then { r with pieces := before ++ { c with state := .queued } :: after } else q) hr
    ?_ (fun q => ?_) ?_ fun u => ?_
  · refine List.map_congr_left fun q _ => ?_
    split <;> rfl
  · split
    · exact (‹q.id = r.id›).symm
    · rfl
  · rw [if_pos rfl]
    exact withQueued_counted (h.counted hr) hp hc
  · rw [if_pos rfl]
    show (s.units.get u).inFlight + _ = _
    simp only [Request.countFor, withQueued_live hp hc]

/-- An evaluation changes no link. -/
theorem Charges.link {n : Fin 16} {s t : State} (h : Charges n s t) (p : Port) : (t.ports.get p).link = (s.ports.get p).link := by
  induction h with
  | empty => rfl
  | next s t r rest _ _ _ _ ih => exact ih
  | queued s s1 t r rest before c after _ _ hpaid _ ih => rw [ih, withQueued_link, hpaid.paidFor.ports]
  | linkDown s s1 t r rest before c after _ _ hpaid _ ih =>
    rw [ih, withLinkDown_eq, withRequestAnswer_link, show (unlisted n r rest s1).ports = s1.ports from rfl, hpaid.paidFor.ports]
  | waits => rfl

theorem Charges.ups {n : Fin 16} {s t : State} (h : Charges n s t) : t.ups = s.ups := by
  funext p
  unfold State.ups
  rw [h.link]

theorem Waits.list {n : Fin 16} {x : Option Nat} {s : State} (h : Waits s.ups x s) (hrel : (s.meters.get n).release = none)
    (hcred : (s.meters.get n).credit ≤ 256 * (s.meters.get n).depth) : Listed n (s.meters.get n).waiting s := by
  obtain ⟨hn, heach⟩ := h.chargeable n
  exact ⟨rfl, hn, hrel, hcred, heach⟩

theorem Waits.paid {n : Fin 16} {up : Port → Prop} {x : Option Nat} {s s1 : State} (h : Waits up x s) (hp : PaidFor n s s1) :
    Waits up x s1 := by
  obtain ⟨k, -, hm⟩ := hp.meters
  refine h.congr hp.requests (fun u => by rw [hp.units]) fun m => ?_
  rw [hm, setAt_get]
  split
  · rename_i e; rw [e]
  · rfl

/-- The list of one meter gets shorter. -/
theorem Waits.shorter {n : Fin 16} {up : Port → Prop} {x y : Option Nat} {s : State} {rest : List Nat} (h : Waits up x s)
    (hr : rest.Sublist (s.meters.get n).waiting)
    (hx : ∀ m : Fin 16, ∀ id ∈ ((listOf n rest s).meters.get m).waiting, y ≠ some id → x ≠ some id) : Waits up y (listOf n rest s) := by
  have hm : ∀ m : Fin 16, ((listOf n rest s).meters.get m).waiting.Sublist (s.meters.get m).waiting := fun m => by
    unfold listOf State.modMeter
    rw [setAt_get]
    split
    · rename_i e; rw [e]; exact hr
    · exact List.Sublist.refl _
  refine ⟨State.CountLaw.congr (s := s) rfl (fun _ => rfl) h.count, fun m => (h.nodup m).sublist (hm m), fun m id hid => ?_, h.opened⟩
  obtain ⟨q, hq, e, hqm, hch, hup⟩ := h.listed m id ((hm m).subset hid)
  exact ⟨q, hq, e, hqm, fun hy => hch (hx m id hid hy), hup⟩

/-- The head of a list that gets shorter by it is on no list. -/
theorem Waits.head_gone {n : Fin 16} {up : Port → Prop} {x : Option Nat} {s : State} {r : Request} {rest : List Nat} (h : Waits up x s)
    (hl : (s.meters.get n).waiting = r.id :: rest) (hr : r ∈ s.requests) (m : Fin 16) :
    r.id ∉ ((listOf n rest s).meters.get m).waiting := by
  intro hid
  obtain rfl | hm := eq_or_ne m n
  · rw [show (listOf m rest s).meters.get m = _ from setAt_get_same _ _ _] at hid
    have hn := h.nodup m
    rw [hl] at hn
    exact (List.nodup_cons.mp hn).1 hid
  · rw [show (listOf n rest s).meters.get m = s.meters.get m from setAt_get_other _ _ hm] at hid
    have h1 := (h.meter_of_listed hr hid).1
    have h2 := (h.meter_of_listed (n := n) hr (by rw [hl]; exact List.mem_cons_self)).1
    exact hm (Option.some.inj (h1.symm.trans h2))

/-- The request of the exception has a piece CHARGING after all. -/
theorem Waits.settle {up : Port → Prop} {s : State} {r : Request} (h : Waits up (some r.id) s) (hr : r ∈ s.requests)
    (hc : ∃ c ∈ r.pieces, c.state = .charging) : Waits up none s := by
  refine ⟨h.count, h.nodup, fun n id hid => ?_, h.opened⟩
  obtain ⟨q, hq, e, hm, hch, hup⟩ := h.listed n id hid
  refine ⟨q, hq, e, hm, fun _ => ?_, hup⟩
  by_cases he : r.id = id
  · rw [h.count.eq_of_id hr hq (e.trans he.symm)]
    exact hc
  · exact hch fun e' => he (Option.some.inj e')

/-- Charging a meter's list leaves every list with requests that still have a piece CHARGING. -/
theorem Charges.keepsWaits {n : Fin 16} {s t : State} (h : Charges n s t) :
    Waits s.ups (s.meters.get n).waiting.head? s → (s.meters.get n).release = none →
    (s.meters.get n).credit ≤ 256 * (s.meters.get n).depth → Waits s.ups none t := by
  induction h with
  | empty s he =>
    intro hw _ _
    rw [he] at hw
    exact hw
  | next s t r rest hl hr hno hch ih =>
    intro hw hrel hcred
    have hget : (listOf n rest s).meters.get n = { s.meters.get n with waiting := rest } := setAt_get_same _ _ _
    have hshort : Waits s.ups none (listOf n rest s) := by
      refine hw.shorter (by rw [hl]; exact List.sublist_cons_self _ _) fun m id hid _ => ?_
      rw [hl]
      rintro ⟨rfl⟩
      exact hw.head_gone hl hr m hid
    exact ih (hshort.weaken _) ((congrArg Meter.release hget).trans hrel) (by
      rw [show ({ s with meters := setAt s.meters n { s.meters.get n with waiting := rest } } : State).meters.get n = _ from hget]
      exact hcred)
  | queued s s1 t r rest before c after hnext hup hpaid hch ih =>
    intro hw hrel hcred
    obtain ⟨hl, hr, hp, hc, -⟩ := hnext
    have hlisted := (hw.list hrel hcred).paid hpaid.paidFor
    have hw1 := hw.paid hpaid.paidFor
    rw [hl] at hlisted hw1
    have hr1 : r ∈ s1.requests := hpaid.paidFor.requests ▸ hr
    have hup1 : (s1.ports.get r.target).link = .up := by rw [hpaid.paidFor.ports]; exact hup
    have hnew := hlisted.queued hr1 hp hc hup1
    have hups : (withQueued r before c after s1).ups = s.ups := by
      funext p
      unfold State.ups
      rw [withQueued_link, hpaid.paidFor.ports]
    rw [← hups]
    refine ih ?_ hnew.release hnew.credit
    rw [hups, hnew.waiting]
    refine hw1.replace (r' := { r with pieces := before ++ { c with state := .queued } :: after }) hr1 rfl rfl rfl rfl rfl id
      (withQueued_count hw1.count hr1 hp hc) (fun _ => List.Sublist.refl _) (fun _ _ _ _ hy => hy)
      fun m _ => ⟨fun hy => absurd rfl hy, fun hd => absurd hup hd⟩
  | linkDown s s1 t r rest before c after hnext hdown hpaid hch ih =>
    intro hw hrel hcred
    obtain ⟨hl, hr, hp, hc, -⟩ := hnext
    have hlisted := (hw.list hrel hcred).paid hpaid.paidFor
    have hw1 := hw.paid hpaid.paidFor
    rw [hl] at hlisted hw1
    have hr1 : r ∈ s1.requests := hpaid.paidFor.requests ▸ hr
    have hmem : c ∈ r.pieces := hp ▸ List.mem_append_right _ List.mem_cons_self
    have hdown1 : (s1.ports.get r.target).link ≠ .up := by rw [hpaid.paidFor.ports]; exact hdown
    have hnew := hlisted.linkDown
    have hcount : (withLinkDown n r rest s1).CountLaw := by
      rw [← enterQueued_down hlisted hr1 hmem hc hdown1]
      exact hw1.count.moves (Moves.enterQueued ((hlisted.lone hr1).piece ((hlisted.counted hr1).lonePiece hmem)) hc)
    have hups : (withLinkDown n r rest s1).ups = s.ups := by
      funext p
      unfold State.ups
      rw [withLinkDown_eq, withRequestAnswer_link, show (unlisted n r rest s1).ports = s1.ports from rfl, hpaid.paidFor.ports]
    have hmeters : (withLinkDown n r rest s1).meters = (listOf n rest s1).meters := by
      rw [withLinkDown_eq, withRequestAnswer_eq]
      rfl
    have hgone (m : Fin 16) : r.id ∉ ((withLinkDown n r rest s1).meters.get m).waiting := by
      rw [hmeters]
      exact hw1.head_gone hlisted.waiting hr1 m
    have hkeep : Waits s.ups none (withLinkDown n r rest s1) := by
      refine hw1.release (by rw [withLinkDown_eq, withRequestAnswer_eq]; rfl) hcount (fun m => ?_)
        fun m i hi => ⟨?_, fun _ e => ?_⟩
      · rw [hmeters]
        unfold listOf State.modMeter
        rw [setAt_get]
        split
        · rename_i e
          rw [e, hlisted.waiting]
          exact List.sublist_cons_self _ _
        · exact List.Sublist.refl _
      · rintro rfl
        exact hgone m hi
      · rw [← Option.some.inj e] at hi
        exact hgone m hi
    rw [← hups]
    refine ih ?_ hnew.release hnew.credit
    rw [hups]
    exact hkeep.weaken _
  | waits s r rest before c after hnext hshort =>
    intro hw hrel hcred
    obtain ⟨hl, hr, hp, hc, -⟩ := hnext
    rw [hl] at hw
    have hmem : c ∈ r.pieces := hp ▸ List.mem_append_right _ List.mem_cons_self
    refine (hw.settle hr ⟨c, hmem, hc⟩).congr rfl (fun _ => rfl) fun m => ?_
    show (((setAt s.meters n _).get m).waiting = _)
    rw [setAt_get]
    split
    · rename_i e; rw [e]
    · rfl

theorem Waits.evalMeter {s : State} (n : Fin 16) (h : Waits s.ups none s) : Waits (evalMeter n s).ups none (evalMeter n s) := by
  cases hl : (s.meters.get n).waiting with
  | nil =>
    have : Machine.evalMeter n s = s := by
      unfold Machine.evalMeter
      rw [show (s.meter n).waiting = [] from hl]
    rw [this]
    exact h
  | cons id rest =>
    have hch := evalMeter_charges (h.chargeable n) (by rw [hl]; simp)
    have hget : (withRefill n (s.meters.get n).waiting s).meters.get n = _ := setAt_get_same _ _ _
    have hstart : Waits s.ups none (withRefill n (s.meters.get n).waiting s) := by
      refine h.congr rfl (fun _ => rfl) fun m => ?_
      unfold withRefill
      dsimp only
      rw [setAt_get]
      split
      · rename_i e; rw [e]
      · rfl
    rw [hch.ups]
    exact hch.keepsWaits (hstart.weaken _) (by rw [hget]) (by rw [hget]; exact min_le_left _ _)

/-! ### What an evaluation leaves alone -/

/-- Other lists stay, and so do the records that are not on the list. -/
theorem Charges.others {n : Fin 16} {s t : State} (h : Charges n s t) :
    (∀ m : Fin 16, m ≠ n → t.meters.get m = s.meters.get m) ∧ (t.meters.get n).waiting <:+ (s.meters.get n).waiting ∧
      ∀ q : Request, q.id ∉ (s.meters.get n).waiting → (q ∈ t.requests ↔ q ∈ s.requests) := by
  have hpaid {s s1 : State} {d : Domain} {len : Nat} (hp : Paid n d len s s1) :
      (∀ m : Fin 16, m ≠ n → s1.meters.get m = s.meters.get m) ∧ (s1.meters.get n).waiting = (s.meters.get n).waiting ∧
        s1.requests = s.requests := by
    obtain ⟨k, -, hm⟩ := hp.paidFor.meters
    refine ⟨fun m hmn => by rw [hm, setAt_get_other _ _ hmn], by rw [hm, setAt_get_same], hp.paidFor.requests⟩
  induction h with
  | empty s _ => exact ⟨fun _ _ => rfl, List.suffix_rfl, fun _ _ => Iff.rfl⟩
  | next s t r rest hl hr hno hch ih =>
    obtain ⟨h1, h2, h3⟩ := ih
    dsimp only at h2 h3
    rw [setAt_get_same] at h2 h3
    refine ⟨fun m hm => (h1 m hm).trans (setAt_get_other _ _ hm), ?_, fun q hq => h3 q ?_⟩
    · rw [hl]
      exact h2.trans (List.suffix_cons _ _)
    · rw [hl] at hq
      exact fun hm => hq (List.mem_cons_of_mem _ hm)
  | queued s s1 t r rest before c after hnext hup hp hch ih =>
    obtain ⟨h1, h2, h3⟩ := ih
    obtain ⟨p1, p2, p3⟩ := hpaid hp
    obtain ⟨hl, hr, -⟩ := hnext
    refine ⟨fun m hm => (h1 m hm).trans (p1 m hm), p2 ▸ h2, fun q hq => ?_⟩
    have hne : q.id ≠ r.id := fun e => hq (by rw [hl, e]; exact List.mem_cons_self)
    have hrep : q ∈ (withQueued r before c after s1).requests ↔ q ∈ s1.requests := by
      refine (mem_replaced (l := s1.requests) (p3 ▸ hr)).trans ⟨fun h => ?_, fun h => .inr ⟨h, hne⟩⟩
      rcases h with rfl | ⟨h, -⟩
      · exact absurd rfl hne
      · exact h
    rw [h3 q (by rw [show ((withQueued r before c after s1).meters.get n).waiting = _ from p2]; exact hq), hrep, p3]
  | linkDown s s1 t r rest before c after hnext hdown hp hch ih =>
    obtain ⟨h1, h2, h3⟩ := ih
    obtain ⟨p1, p2, p3⟩ := hpaid hp
    obtain ⟨hl, hr, -⟩ := hnext
    have hmeters : (withLinkDown n r rest s1).meters = setAt s1.meters n { s1.meters.get n with waiting := rest } := by
      rw [withLinkDown_eq, withRequestAnswer_eq]
      rfl
    have hreq : (withLinkDown n r rest s1).requests = s.requests.filter (fun q => decide (q.id ≠ r.id)) := by
      rw [withLinkDown_eq, withRequestAnswer_eq, ← p3]
      rfl
    rw [hmeters, setAt_get_same] at h2 h3
    refine ⟨fun m hm => (h1 m hm).trans ?_, ?_, fun q hq => ?_⟩
    · rw [hmeters, setAt_get_other _ _ hm, p1 m hm]
    · rw [hl]
      exact h2.trans (List.suffix_cons _ _)
    · rw [hl] at hq
      rw [h3 q fun hm => hq (List.mem_cons_of_mem _ hm), hreq, List.mem_filter]
      exact and_iff_left (decide_eq_true fun e => hq (e ▸ List.mem_cons_self))
  | waits s r rest before c after hnext _ =>
    refine ⟨fun m hm => setAt_get_other _ _ hm, ?_, fun _ _ => Iff.rfl⟩
    rw [show (withWait n r.dom c.len s).meters.get n = _ from setAt_get_same _ _ _]

/-! ### The meters that go on after an event (R89) -/

/-- A meter whose list is empty is not evaluated. -/
theorem evalMeter_empty {n : Fin 16} {s : State} (h : (s.meters.get n).waiting = []) : Machine.evalMeter n s = s := by
  unfold Machine.evalMeter
  rw [show (s.meter n).waiting = [] from h]

/-- An evaluation leaves the other meters as they are. -/
theorem evalMeter_other {n m : Fin 16} {s : State} (h : s.Chargeable n) (hm : m ≠ n) :
    (Machine.evalMeter n s).meters.get m = s.meters.get m := by
  by_cases he : (s.meters.get n).waiting = []
  · rw [evalMeter_empty he]
  · rw [(evalMeter_charges h he).others.1 m hm]
    exact setAt_get_other _ _ hm

/-- The meters whose heads an event removed, made between `before` and `b`, go on, one after another. -/
theorem Waits.goOn {before b : State} {l : List (Fin 16)} : ∀ {s : State}, l.Nodup → Waits s.ups none s →
    (∀ n ∈ l, s.meters.get n = b.meters.get n) →
    MetersGoOn before l s
        (l.foldl (fun t n => if (before.meter n).waiting.head? = (b.meter n).waiting.head? then t else Machine.evalMeter n t) s) ∧
      Waits (l.foldl (fun t n => if (before.meter n).waiting.head? = (b.meter n).waiting.head? then t else Machine.evalMeter n t) s).ups
        none (l.foldl (fun t n => if (before.meter n).waiting.head? = (b.meter n).waiting.head? then t else Machine.evalMeter n t) s) := by
  induction l with
  | nil => exact fun _ h _ => ⟨rfl, h⟩
  | cons n l ih =>
    intro s hn h hb
    obtain ⟨hnl, hn⟩ := List.nodup_cons.mp hn
    have hbn : (b.meter n).waiting = (s.meters.get n).waiting := by rw [hb n List.mem_cons_self]; rfl
    rw [List.foldl_cons]
    by_cases he : (before.meter n).waiting.head? = (b.meter n).waiting.head?
    · rw [if_pos he]
      obtain ⟨hgo, hw⟩ := ih hn h fun m hm => hb m (List.mem_cons_of_mem _ hm)
      rw [hbn] at he
      exact ⟨⟨s, ⟨fun _ => rfl, fun hne => absurd he hne⟩, hgo⟩, hw⟩
    · rw [if_neg he]
      have hother : ∀ m ∈ l, (Machine.evalMeter n s).meters.get m = b.meters.get m := fun m hm => by
        rw [evalMeter_other (h.chargeable n) (by rintro rfl; exact hnl hm)]
        exact hb m (List.mem_cons_of_mem _ hm)
      obtain ⟨hgo, hw⟩ := ih hn (h.evalMeter n) hother
      rw [hbn] at he
      refine ⟨⟨Machine.evalMeter n s, ⟨fun hor => ?_, fun _ hne => evalMeter_charges (h.chargeable n) hne⟩, hgo⟩, hw⟩
      exact evalMeter_empty (hor.resolve_left he)

theorem Waits.evalNewHeads (before : State) {b : State} (h : Waits b.ups none b) :
    MetersGoOn before (List.finRange 16) b (Machine.evalNewHeads before b) ∧
      Waits (Machine.evalNewHeads before b).ups none (Machine.evalNewHeads before b) :=
  Waits.goOn (List.nodup_finRange 16) h fun _ _ => rfl

/-- The links do not change while the meters go on. -/
theorem MetersGoOn.link {before : State} {l : List (Fin 16)} : ∀ {b t : State}, MetersGoOn before l b t → ∀ p : Port,
    (t.ports.get p).link = (b.ports.get p).link := by
  induction l with
  | nil =>
    intro b t h p
    rw [show t = b from h]
  | cons n l ih =>
    rintro b t ⟨x, ⟨hsame, hch⟩, hgo⟩ p
    rw [ih hgo p]
    by_cases he : (before.meters.get n).waiting.head? = (b.meters.get n).waiting.head? ∨ (b.meters.get n).waiting = []
    · rw [hsame he]
    · obtain ⟨h1, h2⟩ := not_or.mp he
      exact (hch h1 h2).link p

/-- Records that are on no list stay while the meters go on. -/
theorem MetersGoOn.record {before : State} {l : List (Fin 16)} {q : Request} : ∀ {b t : State}, MetersGoOn before l b t →
    (∀ n : Fin 16, q.id ∉ (b.meters.get n).waiting) → (q ∈ t.requests ↔ q ∈ b.requests) ∧
      ∀ n : Fin 16, (t.meters.get n).waiting <:+ (b.meters.get n).waiting := by
  induction l with
  | nil =>
    rintro b t rfl _
    exact ⟨Iff.rfl, fun _ => List.suffix_rfl⟩
  | cons n l ih =>
    rintro b t ⟨x, ⟨hsame, hch⟩, hgo⟩ hq
    have hx : (q ∈ x.requests ↔ q ∈ b.requests) ∧ ∀ m : Fin 16, (x.meters.get m).waiting <:+ (b.meters.get m).waiting := by
      by_cases he : (before.meters.get n).waiting.head? = (b.meters.get n).waiting.head? ∨ (b.meters.get n).waiting = []
      · rw [hsame he]
        exact ⟨Iff.rfl, fun _ => List.suffix_rfl⟩
      · obtain ⟨h1, h2⟩ := not_or.mp he
        obtain ⟨hother, hown, hrec⟩ := (hch h1 h2).others
        rw [show (withRefill n (b.meters.get n).waiting b).meters.get n = _ from setAt_get_same _ _ _] at hown hrec
        refine ⟨hrec q (hq n), fun m => ?_⟩
        obtain rfl | hm := eq_or_ne m n
        · exact hown
        · rw [hother m hm, show (withRefill n (b.meters.get n).waiting b).meters.get m = b.meters.get m from setAt_get_other _ _ hm]
    obtain ⟨hrec, hlist⟩ := ih hgo fun m hm => hq m ((hx.2 m).subset hm)
    exact ⟨hrec.trans hx.1, fun m => (hlist m).trans (hx.2 m)⟩

end Sys2Proof.Machine
end

section
/-! PROOFS. A piece that fails, with the meters that go on; and the COMPLETION that resolves a piece (R65 to R71, R78, R89). -/

namespace Sys2Proof.Machine

open Sys2Proof

section
variable {r : Request} {c : Piece} {st : PieceStatus} {s : State}

/-- The state in which a failed piece and the unsent ones of its request have ended. -/
def failedIn (r : Request) (c : Piece) (st : PieceStatus) (s : State) : State :=
  withoutPieces r (r.unsentBut c)
    { s with requests := replaced r (r.afterFailure c st) s.requests, units := (countOut r.unit 1 s).units }

theorem failedIn_meters : (failedIn r c st s).meters = metersWithout r s.meters := by
  unfold failedIn
  rw [withoutPieces_eq]

theorem failedIn_ups : (failedIn r c st s).ups = s.ups := by
  funext p
  unfold State.ups failedIn
  rw [withoutPieces_eq]
  dsimp only
  rw [PerPort.get_set]
  split
  · rename_i h; rw [h]; rfl
  · rfl

theorem PieceStatus.merge_ne_ok (w : PieceStatus) (h : st ≠ .ok) : w.merge st ≠ .ok := by
  cases w <;> cases st <;> simp_all [PieceStatus.merge, PieceStatus.rank]

/-- The failed request is on no list (R89). -/
theorem failedIn_unlisted {up : Port → Prop} {x : Option Nat} (h : Waits up x s) (hr : r ∈ s.requests) (n : Fin 16) :
    r.id ∉ ((failedIn r c st s).meters.get n).waiting := by
  rw [failedIn_meters, metersWithout_get]
  split
  · unfold withoutListed
    simp
  · rename_i hm
    exact fun hl => hm (h.meter_of_listed hr hl).1

theorem Waits.failed {up : Port → Prop} (h : Waits up none s) (hr : r ∈ s.requests) (hc : c ∈ r.pieces) (hl : c.state.live = true) :
    Waits up none (failedIn r c st s) := by
  have hlone := h.count.lone hr
  have hcount := h.count.counted hr
  have hdone : (failedIn r c st s).CountLaw := by
    rw [failedIn, ← removeUnsent_endPiece hlone hcount hc hl]
    exact h.count.moves ((Moves.endPiece rfl _).trans (Moves.removeUnsent _ _))
  refine h.replace (r' := r.afterFailure c st) hr (by unfold failedIn; rw [withoutPieces_eq]) rfl rfl rfl rfl id hdone (fun n => ?_)
    (fun _ _ _ _ _ => by simp) fun n hm => absurd hm (failedIn_unlisted h hr n)
  rw [failedIn_meters, metersWithout_get]
  split
  · exact List.filter_sublist
  · exact List.Sublist.refl _

/-- A piece that has left its place fails (R69 to R71, R89). -/
theorem failPiece_fails (h : Waits s.ups none s) (hr : r ∈ s.requests) (hc : c ∈ r.pieces) (hl : c.state.live = true) (hst : st ≠ .ok) :
    PieceFails r c st s (failPiece ⟨r.id, c.num⟩ st s) := by
  have hlone := h.count.lone hr
  have hcount := h.count.counted hr
  have hb : Waits (failedIn r c st s).ups none (failedIn r c st s) := by
    rw [failedIn_ups]
    exact h.failed hr hc hl
  obtain ⟨hgo, hx⟩ := hb.evalNewHeads s
  have hleft : r.afterFailure c st ∈ (evalNewHeads s (failedIn r c st s)).requests := by
    refine (hgo.record (q := r.afterFailure c st) fun n => failedIn_unlisted h hr n).1.mpr ?_
    unfold failedIn
    rw [withoutPieces_eq]
    exact (mem_replaced hr).mpr (.inl rfl)
  have hfail : failPiece ⟨r.id, c.num⟩ st s = finishRequest r.id (evalNewHeads s (failedIn r c st s)) := by
    unfold failPiece failedIn
    dsimp only
    rw [removeUnsent_endPiece hlone hcount hc hl]
  generalize evalNewHeads s (failedIn r c st s) = x at hgo hx hleft hfail
  refine ⟨x, ?_, hfail.trans ?_⟩
  · have hunits : (countOut r.unit 1 s).units = match r.unit with
        | none => s.units
        | some u => setAt s.units u { s.units.get u with inFlight := (s.units.get u).inFlight - 1 } := by
      cases r.unit <;> rfl
    rw [failedIn, hunits] at hgo
    exact hgo
  · have hone := hx.count.lone hleft
    by_cases h0 : (r.afterFailure c st).outstanding = 0
    · rw [if_pos h0]
      refine (finishRequest_ends hone h0 fun ha => hx.opened _ hleft ha).trans ?_
      exact withRequestAnswer_failed (PieceStatus.merge_ne_ok _ hst) rfl rfl rfl _ _ _
    · rw [if_neg h0]
      exact finishRequest_stays (r := r.afterFailure c st) hone h0

theorem withoutListed_absent {v : Meter} {id : Nat} (h : id ∉ v.waiting) : withoutListed (fun i => decide (i = id)) v = v := by
  have hf : v.waiting.filter (fun i => !decide (i = id)) = v.waiting :=
    List.filter_eq_self.mpr fun i hi => by
      have : i ≠ id := fun e => h (e ▸ hi)
      simpa using this
  unfold withoutListed
  rw [hf]
  split
  · rfl
  · rename_i i l hw
    have hne : i ≠ id := fun e => h (by rw [hw, e]; exact List.mem_cons_self)
    simp only [hne, decide_false, Bool.false_eq_true, if_false]

/-- No meter goes on where no head was removed. -/
theorem evalNewHeads_heads {s t : State}
    (h : ∀ n : Fin 16, (s.meters.get n).waiting.head? = (t.meters.get n).waiting.head?) : evalNewHeads s t = t := by
  have hfold (l : List (Fin 16)) (x : State) :
      l.foldl (fun x n => if (s.meter n).waiting.head? = (t.meter n).waiting.head? then x else evalMeter n x) x = x := by
    induction l generalizing x with
    | nil => rfl
    | cons n l ih =>
      have he : (s.meter n).waiting.head? = (t.meter n).waiting.head? := h n
      rw [List.foldl_cons, if_pos he]
      exact ih x
  exact hfold _ _

theorem evalNewHeads_same {s t : State} (h : ∀ n : Fin 16, (t.meters.get n).waiting = (s.meters.get n).waiting) : evalNewHeads s t = t :=
  evalNewHeads_heads fun n => congrArg List.head? (h n).symm

/-- A request whose piece `c` alone is outstanding has no other piece unsent. -/
theorem unsentBut_only (h : r.Counted) (hc : c ∈ r.pieces) (hl : c.state.live = true) (h1 : r.outstanding = 1) : r.unsentBut c = [] := by
  have hended := (h.ended hc hl (st := .removed) rfl).2
  have hzero : (r.ended c .removed).livePieces = 0 := by
    rw [← hended]
    show r.outstanding - 1 = 0
    omega
  have hfilter : (r.ended c .removed).pieces.filter (fun y => y.state.unsent) = r.unsentBut c :=
    filter_replacedPiece (c' := { c with state := .removed, ttag := none, deadline := none }) (f := PieceState.unsent) rfl r.pieces
  rw [← hfilter]
  refine List.filter_eq_nil_iff.mpr fun y hy hu => ?_
  have := Request.livePieces_eq_zero.mp hzero y hy
  rw [PieceState.unsent_live hu] at this
  cases this

/-- A piece that fails alone, its request on no list: the request is answered and released (R70, R71). -/
theorem failPiece_only (h : s.CountLaw) (hr : r ∈ s.requests) (hc : c ∈ r.pieces) (hl : c.state.live = true) (hst : st ≠ .ok)
    (h1 : r.outstanding = 1) (hno : ∀ n : Fin 16, r.id ∉ (s.meters.get n).waiting)
    (hup : r.abandoned = false → (s.ports.get r.dom.port).link = .up) :
    failPiece ⟨r.id, c.num⟩ st s =
      withRequestAnswer r (r.worst.merge st) []
        { s with
          requests := s.requests.filter (fun q => decide (q.id ≠ r.id))
          units := (countOut r.unit 1 s).units } := by
  have hlone := h.lone hr
  have hcount := h.counted hr
  have hgone := unsentBut_only hcount hc hl h1
  have hmeters : metersWithout r s.meters = s.meters := by
    refine Vector.ext_get fun n => ?_
    rw [metersWithout_get]
    split
    · exact withoutListed_absent (hno n)
    · rfl
  have hstate : failedIn r c st s =
      { s with requests := replaced r (r.afterFailure c st) s.requests, units := (countOut r.unit 1 s).units } := by
    unfold failedIn
    rw [withoutPieces_eq, hgone]
    dsimp only
    rw [PortState.without_none _ _ (by simp), PerPort.set_get, hmeters, List.length_nil, countOut_zero]
  have hout : (r.afterFailure c st).outstanding = 0 := by
    rw [← Request.ended_endedBy hcount hc hl]
    show r.outstanding - 1 - _ = 0
    omega
  unfold failPiece
  dsimp only
  have hsame : evalNewHeads s (failedIn r c st s) = failedIn r c st s := evalNewHeads_same fun n => by rw [failedIn_meters, hmeters]
  rw [removeUnsent_endPiece hlone hcount hc hl, ← failedIn, hsame, hstate]
  have hleft : Lone { s with requests := replaced r (r.afterFailure c st) s.requests, units := (countOut r.unit 1 s).units }
      (r.afterFailure c st) := hlone.replaced rfl rfl
  refine (finishRequest_ends hleft hout hup).trans ?_
  refine (withRequestAnswer_failed (q := r.afterFailure c st) (r := r) (data' := []) (PieceStatus.merge_ne_ok _ hst) rfl rfl rfl _ _).trans ?_
  dsimp only
  rw [show (r.afterFailure c st).id = r.id from rfl, filter_replaced (r := r) (r' := r.afterFailure c st) rfl]

end

/-! ### The COMPLETION of a piece (R65, R66) -/

/-- The tag is FREE, and what is left of the request has failed: its status is not OK and nothing of it is unsent. -/
structure Settled (p : Port) (t : Fin 16) (id : Nat) (s : State) : Prop where
  tag    : (s.ports.get p).tags.get t = .free
  record : ∀ q ∈ s.requests, q.id = id → 1 ≤ q.worst.rank ∧ ∀ y ∈ q.pieces, y.state.unsent = false

theorem mergeEnd_rank (w : PieceStatus) (st : PieceState) : w.rank ≤ (mergeEnd w st).rank := by
  cases st with
  | resolved x => cases w <;> cases x <;> simp [mergeEnd, PieceStatus.merge, PieceStatus.rank]
  | _ => exact le_refl _

namespace Settled

variable {p : Port} {t : Fin 16} {id : Nat} {s : State}

theorem congr {s' : State} (h : Settled p t id s) (ht : (s'.ports.get p).tags = (s.ports.get p).tags) (hr : s'.requests = s.requests) :
    Settled p t id s' := ⟨ht ▸ h.tag, hr ▸ h.record⟩

theorem tells {s' : State} (h : Settled p t id s) (ht : Tells s s') : Settled p t id s' := by
  obtain ⟨more, -, e⟩ := ht.port p
  exact h.congr (by rw [e]) ht.requests

/-- Records of other numbers change. -/
theorem modRequest {k : Nat} {f : Request → Request} (h : Settled p t id s) (hf : ∀ r, (f r).id = r.id) (hk : k ≠ id) :
    Settled p t id (s.modRequest k f) := by
  refine ⟨h.tag, fun q hq e => ?_⟩
  obtain ⟨x, hx, rfl⟩ := List.mem_map.mp hq
  split at e
  · rename_i hxk
    rw [hf] at e
    exact absurd (hxk.symm.trans e) hk
  · rw [if_neg ‹_›]
    exact h.record x hx e

theorem vacate {r : Request} {c : Piece} (h : Settled p t id s) (hc : c.state.unsent = true) : Settled p t id (vacate r c s) := by
  rw [vacate_eq, leavePlace_unsent r _ hc]
  refine ⟨?_, h.record⟩
  dsimp only
  rw [PerPort.get_set]
  split
  · rename_i e
    rw [PortState.without, Vector.get_ofFn, ← e, h.tag]
    exact ite_self _
  · exact h.tag

theorem endPiece {ref : PieceRef} {st : PieceState} (h : Settled p t id s) (hst : st.live = false) : Settled p t id (endPiece ref st s) := by
  unfold Machine.endPiece
  split
  · exact h
  · rename_i r c hf
    split
    · refine ⟨?_, fun q hq e => ?_⟩
      · cases r.unit <;> exact h.tag
      · rw [countOut_requests] at hq
        obtain ⟨x, hx, rfl⟩ := List.mem_map.mp hq
        split at e
        · rw [if_pos ‹_›]
          obtain ⟨hw, hp⟩ := h.record x hx e
          refine ⟨hw.trans (mergeEnd_rank _ _), fun y hy => ?_⟩
          obtain ⟨z, hz, rfl⟩ := List.mem_map.mp hy
          split
          · exact Bool.eq_false_iff.mpr fun hu => by
              rw [PieceState.unsent_live hu] at hst; cases hst
          · exact hp z hz
        · rw [if_neg ‹_›]
          exact h.record x hx e
    · exact h

theorem endPieces {k : Nat} {f : PieceState → Bool} {st : PieceState} (h : Settled p t id s) (hf : ∀ x, f x = true → x.unsent = true)
    (hst : st.live = false) : Settled p t id (endPieces k f st s) := by
  unfold Machine.endPieces
  split
  · exact h
  · rename_i r _
    refine List.foldlRecOn _ _ h fun a ha c hc => ?_
    exact (ha.vacate (hf _ (List.mem_filter.mp hc).2)).endPiece hst

theorem leaveMeter {r : Request} (h : Settled p t id s) : Settled p t id (leaveMeter r s) := by
  rw [leaveMeter_meters]
  exact ⟨h.tag, h.record⟩

theorem removeUnsent {k : Nat} (h : Settled p t id s) : Settled p t id (removeUnsent k s) := by
  unfold Machine.removeUnsent
  split
  · exact h
  · exact (h.endPieces (fun _ hx => hx) rfl).leaveMeter

theorem finishRequest {k : Nat} (h : Settled p t id s) : Settled p t id (finishRequest k s) := by
  have hout (l : List Request) (hl : l ⊆ s.requests) : Settled p t id (s.setRequests l) := ⟨h.tag, fun q hq => h.record q (hl hq)⟩
  unfold Machine.finishRequest
  split
  · exact h
  · split
    · dsimp only
      split
      · exact hout _ (List.filter_subset_self _)
      · exact (hout _ (List.filter_subset_self _)).tells (Tells.answerTo _ _ _ _ _)
    · exact h

theorem enterQueued {r q : Request} {num : Nat} {c : Piece} (h : Settled p t id s) (hf : s.piece ⟨r.id, num⟩ = some (q, c))
    (hc : c.state = .charging) : Settled p t id (enterQueued r num s) := by
  have hne : r.id ≠ id := fun e => by
    obtain ⟨hq, hid, hcq, -⟩ := piece_some hf
    have := (h.record q hq (hid.trans e)).2 c hcq
    rw [hc] at this
    cases this
  unfold Machine.enterQueued
  split
  · refine (h.modRequest (k := r.id) (f := fun x => x.modPiece num fun c => { c with state := .queued }) (fun _ => rfl) hne).congr ?_ rfl
    unfold enqueuePiece State.modPort
    dsimp only
    rw [PerPort.get_set]
    split
    · rename_i e; rw [e]; rfl
    · rfl
  · exact (h.endPiece rfl).removeUnsent.finishRequest

theorem chargePieces {n : Fin 16} {k : Nat} {nums : List Nat} (h : Settled p t id s) : Settled p t id (chargePieces n k nums s).1 := by
  induction nums generalizing s with
  | nil => exact h
  | cons num nums ih =>
    unfold Machine.chargePieces
    split
    · exact ih h
    · rename_i r c hf
      obtain ⟨-, hid, -⟩ := piece_some hf
      split
      · rename_i hc
        split
        · exact ih ((h.congr (s' := s.modMeter n _) rfl rfl).enterQueued (r := r) (by rw [hid]; exact hf) hc)
        · exact ih ((h.congr (s' := setFlag r.dom .clamped (s.modMeter n _)) rfl rfl).enterQueued (r := r) (by rw [hid]; exact hf) hc)
        · exact h.congr rfl rfl
      · exact ih h

theorem chargeHeads {n : Fin 16} {ids : List Nat} (h : Settled p t id s) : Settled p t id (chargeHeads n ids s) := by
  induction ids generalizing s with
  | nil => exact h.congr rfl rfl
  | cons k rest ih =>
    have hlist : Settled p t id (listOf n (k :: rest) s) := h.congr rfl rfl
    have hstep := hlist.chargePieces (n := n) (k := k) (nums := pieceNums (listOf n (k :: rest) s) k)
    rw [chargeHeads_cons]
    split
    · rename_i e; rw [e] at hstep; exact hstep
    · rename_i e; rw [e] at hstep; exact ih hstep

theorem evalMeter {n : Fin 16} (h : Settled p t id s) : Settled p t id (evalMeter n s) := by
  unfold Machine.evalMeter
  split
  · exact h
  · exact (h.congr (s' := s.modMeter n _) rfl rfl).chargeHeads

theorem evalNewHeads {before : State} (h : Settled p t id s) : Settled p t id (evalNewHeads before s) := by
  refine List.foldlRecOn _ _ h fun a ha n _ => ?_
  split
  · exact ha
  · exact ha.evalMeter

end Settled

/-! ### The COMPLETION (R65, R66) -/

/-- The SENT piece that holds the tag of a COMPLETION is resolved by it (R65, R66). -/
theorem completionArrives_piece {p : Port} {t : Fin 16} {status code : Byte} {present : Bool} {data : List Byte} {r : Request} {c : Piece}
    {s : State} (ht : (s.ports.get p).tags.get t = .live (.piece ⟨r.id, c.num⟩)) (h : Lone s r) (hc : LonePiece r c)
    (hs : c.state = .sent) :
    completionArrives p t status present code data s = completePiece ⟨r.id, c.num⟩ r c status data (setTag p t .free s) := by
  unfold completionArrives
  rw [show (s.port p).tags.get t = _ from ht]
  dsimp only
  rw [h.piece hc]
  exact if_pos hs

theorem countOut_setRequests (u : Option (Fin 8)) (n : Nat) (l : List Request) (s : State) :
    countOut u n { s with requests := l } = { s with units := (countOut u n s).units, requests := l } := by
  cases u <;> rfl

/-- The bytes of an OK piece are placed, and then it ends; its request with it if it is the last (R56, R66, R71). -/
theorem completePiece_ok {r : Request} {c : Piece} {status : Byte} {data : List Byte} {s : State} (h : Lone s r) (hc : LonePiece r c)
    (hl : c.state.live = true) (hok : status = 0 ∧ (r.kind = .read → data.length = c.len)) :
    let got := if r.kind = .read then placeBytes r.readData (c.addr - r.taddr).toNat data else r.readData
    let units := (countOut r.unit 1 s).units
    ((r.abandoned = false → (s.ports.get r.dom.port).link = .up) → r.outstanding = 1 →
      completePiece ⟨r.id, c.num⟩ r c status data s =
        withRequestAnswer r r.worst got
          { s with units := units, requests := s.requests.filter (fun q => decide (q.id ≠ r.id)) }) ∧
    (1 < r.outstanding →
      completePiece ⟨r.id, c.num⟩ r c status data s =
        { s with
          units := units
          requests := replaced r
            { r with
              outstanding := r.outstanding - 1, readData := got
              pieces := replacedPiece c { c with state := .resolved .ok, ttag := none, deadline := none } r.pieces } s.requests }) := by
  intro got units
  have hstatus : completionStatus r c status data = .ok := by
    unfold completionStatus
    rw [if_neg (by simp [hok.1]), if_neg (by rintro ⟨hk, hn⟩; exact hn (hok.2 hk))]
  have hrun : completePiece ⟨r.id, c.num⟩ r c status data s =
      finishRequest r.id { s with
        units := units, requests := replaced r ({ r with readData := got }.ended c (.resolved .ok)) s.requests } := by
    unfold completePiece
    rw [hstatus]
    dsimp only
    have hread : takeReadData r c data s = { s with requests := replaced r { r with readData := got } s.requests } := by
      unfold takeReadData
      by_cases hk : r.kind = .read
      · rw [if_pos hk, h.modRequest]
        simp only [got, if_pos hk]
      · rw [if_neg hk]
        simp only [got, if_neg hk]
        rw [replaced_self h.only]
    have hlone : Lone { s with requests := replaced r { r with readData := got } s.requests } { r with readData := got } :=
      h.replaced rfl rfl
    rw [hread, show (⟨r.id, c.num⟩ : PieceRef) = ⟨({ r with readData := got } : Request).id, c.num⟩ from rfl,
      endPiece_lone hlone (c := c) ⟨hc.mem, hc.only⟩ hl]
    dsimp only
    rw [replaced_replaced (r := r) (r1 := { r with readData := got }) rfl]
    exact congrArg _ (countOut_setRequests r.unit 1 _ s)
  have hlone : Lone { s with
      units := units, requests := replaced r ({ r with readData := got }.ended c (.resolved .ok)) s.requests }
      ({ r with readData := got }.ended c (.resolved .ok)) := h.replaced rfl rfl
  refine ⟨fun hup h1 => hrun.trans ?_, fun h1 => hrun.trans ?_⟩
  · refine (finishRequest_ends hlone (by simp [Request.ended, h1]) hup).trans ?_
    show withRequestAnswer r (r.worst.merge .ok) got { s with
      units := units
      requests := List.filter (fun q => decide (q.id ≠ r.id))
        (replaced r ({ r with readData := got }.ended c (.resolved .ok)) s.requests) } = _
    have hfilter : List.filter (fun q => decide (q.id ≠ r.id))
        (replaced r ({ r with readData := got }.ended c (.resolved .ok)) s.requests) = s.requests.filter (fun q => decide (q.id ≠ r.id)) :=
      filter_replaced (by rfl) _
    rw [PieceStatus.merge_ok, hfilter]
  · refine (finishRequest_stays hlone (by simp only [Request.ended]; omega)).trans ?_
    simp only [Request.ended, mergeEnd, PieceStatus.merge_ok]

theorem Arrives.requests {p : Port} {pkt : Packet} {s s1 : State} (h : Arrives p pkt s s1) : s1.requests = s.requests := by
  obtain ⟨_, rfl⟩ := h.spec; rfl

theorem Arrives.meters {p : Port} {pkt : Packet} {s s1 : State} (h : Arrives p pkt s s1) : s1.meters = s.meters := by
  obtain ⟨_, rfl⟩ := h.spec; rfl

/-- What a failed piece leaves has failed; a FREE tag stays so. -/
theorem Settled.failedIn {p : Port} {t : Fin 16} {r : Request} {c : Piece} {st : PieceStatus} {s : State} (hst : st ≠ .ok)
    (ht : (s.ports.get p).tags.get t = .free) (h : Lone s r) : Settled p t r.id (failedIn r c st s) := by
  unfold Machine.failedIn
  rw [withoutPieces_eq]
  refine ⟨?_, fun q hq e => ?_⟩
  · dsimp only
    rw [PerPort.get_set]
    split
    · rename_i e
      rw [PortState.without, Vector.get_ofFn, ← e, ht]
      exact ite_self _
    · exact ht
  · dsimp only at hq
    rw [mem_replaced h.mem] at hq
    rcases hq with rfl | ⟨-, hne⟩
    · refine ⟨?_, fun y hy => ?_⟩
      · have := PieceStatus.merge_ne_ok r.worst hst
        cases hw : r.worst.merge st <;> simp_all [Request.afterFailure, PieceStatus.rank]
      · obtain ⟨z, hz, rfl⟩ := List.mem_map.mp hy
        split
        · rfl
        · split
          · rfl
          · exact Bool.eq_false_iff.mpr ‹_›
    · exact absurd e hne

/-- Settles O39: the tag's holder is resolved OK with its bytes, or fails with what it leaves of its request. -/
theorem completionResolvesAPiece : Obligations.CompletionResolvesAPiece := by
  intro p t status present code data s s1 h hl v freed
  refine ⟨fun ho => ?_, fun r c ht hr hu hc hcu hs hup => ?_⟩
  · have htag : (s.ports.get p).tags.get t = .orphaned := (congrArg (fun x => x.get t) (h.tags p)).symm.trans ho
    rw [completionTaken_runs h hl (by rw [htag]; simp)]
    unfold completionArrives
    rw [show (s1.port p).tags.get t = .orphaned from ho]
    rfl
  · intro units ok off got fault ended
    have htag : (s.ports.get p).tags.get t = .live (.piece ⟨r.id, c.num⟩) := (congrArg (fun x => x.get t) (h.tags p)).symm.trans ht
    have hlone : Lone s r := ⟨hr, hu⟩
    have hpiece : LonePiece r c := ⟨hc, hcu⟩
    have hlive : c.state.live = true := by rw [hs]; rfl
    let sf : State := { s1 with ports := freed }
    have hlonef : Lone sf r := hlone.congr h.requests
    have hunits : (countOut r.unit 1 sf).units = units := by
      rw [countOut_congr r.unit 1 (s := s) (t := sf) h.units]
      simp only [units]
      cases r.unit <;> rfl
    have hlink (q : Port) : (sf.ports.get q).link = (s.ports.get q).link := by
      rw [show (sf.ports.get q).link = (s1.ports.get q).link from ?_, h.link q]
      simp only [sf, freed, PerPort.get_set]
      split
      · rename_i e; rw [e]
      · rfl
    have hupf : r.abandoned = false → (sf.ports.get r.dom.port).link = .up := fun ha => (hlink _).trans (hup ha)
    have hcountf (hcount : s.CountLaw) : sf.CountLaw := hcount.congr h.requests fun u => by rw [show sf.units = s.units from h.units]
    have hrun : exec (.completionTaken p t status present code data) s =
        .next (completePiece ⟨r.id, c.num⟩ r c status data sf) := by
      rw [completionTaken_runs h hl (by rw [htag]; simp), completionArrives_piece ht (hlone.congr h.requests) hpiece hs]
      rfl
    have hfails (hno : ¬ok) : completePiece ⟨r.id, c.num⟩ r c status data sf = raiseFault fault (failPiece ⟨r.id, c.num⟩ .targetError sf) := by
      have hstatus : completionStatus r c status data = .targetError := by
        unfold completionStatus
        by_cases h0 : status = 0
        · rw [if_neg (by simp [h0]), if_pos ?_]
          by_contra hk
          exact hno ⟨h0, fun hread => by_contra fun hne => hk ⟨hread, hne⟩⟩
        · rw [if_pos h0]
      unfold completePiece
      rw [hstatus]
      rfl
    refine ⟨fun hok h1 => ?_, fun hok h1 => ?_, fun hno hcount h1 hunlisted => ?_, fun hno hcount => ?_, fun hno hcount hwait _ => ?_⟩
    · rw [hrun, (completePiece_ok hlonef hpiece hlive hok).1 hupf h1, hunits, show sf.requests = s.requests from h.requests]
      rfl
    · rw [hrun, (completePiece_ok hlonef hpiece hlive hok).2 h1, hunits, show sf.requests = s.requests from h.requests]
      rfl
    · rw [hrun, hfails hno, failPiece_only (hcountf hcount) hlonef.mem hc hlive (by decide) h1 (by
        rw [show sf.meters = s.meters from h.meters]; exact hunlisted) hupf, hunits, show sf.requests = s.requests from h.requests]
    · have hsettled : Settled p t r.id (raiseFault fault (failPiece ⟨r.id, c.num⟩ .targetError sf)) := by
        have hstart : Settled p t r.id (failedIn r c .targetError sf) := by
          refine Settled.failedIn (by decide) ?_ hlonef
          simp [sf, freed]
        unfold failPiece
        dsimp only
        rw [removeUnsent_endPiece hlonef ((hcountf hcount).counted hlonef.mem) hc hlive]
        exact hstart.evalNewHeads.finishRequest.tells (Tells.raiseFault _ _)
      refine ⟨_, hrun.trans (by rw [hfails hno]), hsettled.tag, fun q hq e => ?_⟩
      obtain ⟨hrank, hnone⟩ := hsettled.record q hq e
      refine ⟨hrank, fun y hy => ?_⟩
      have := hnone y hy
      refine ⟨?_, ?_, ?_⟩ <;> intro hs' <;> rw [hs'] at this <;> cases this
    · have hw : Waits sf.ups none sf := by
        have hups : sf.ups = s.ups := funext fun q => by unfold State.ups; rw [hlink]
        rw [hups]
        exact (Waits.of_law hcount hwait).congr h.requests (fun u => by rw [show sf.units = s.units from h.units])
          fun n => by rw [show sf.meters = s.meters from h.meters]
      exact ⟨_, failPiece_fails hw hlonef.mem hc hlive (by decide), hrun.trans (by rw [hfails hno])⟩

end Sys2Proof.Machine
end

section
/-! PROOFS. A request joins the list of its meter: behind others, at the head, on a full list, or in the place of a POST (R82 to R84,
R89). -/

namespace Sys2Proof.Machine

open Sys2Proof

/-! ### The meters that go on, where one list alone lost its head -/

/-- Where meter `n` alone lost its head, it alone is evaluated (R89). -/
theorem evalNewHeads_one {s t : State} {n : Fin 16} (hn : (s.meters.get n).waiting.head? ≠ (t.meters.get n).waiting.head?)
    (h : ∀ m : Fin 16, m ≠ n → t.meters.get m = s.meters.get m) : evalNewHeads s t = evalMeter n t := by
  have hsame (m : Fin 16) (hm : m ≠ n) : (s.meter m).waiting.head? = (t.meter m).waiting.head? :=
    congrArg (fun v : Meter => v.waiting.head?) (h m hm).symm
  have hskip (l : List (Fin 16)) (x : State) (hl : n ∉ l) :
      l.foldl (fun x n => if (s.meter n).waiting.head? = (t.meter n).waiting.head? then x else evalMeter n x) x = x := by
    induction l generalizing x with
    | nil => rfl
    | cons m l ih =>
      obtain ⟨hm, hl⟩ := List.ne_and_not_mem_of_not_mem_cons hl
      rw [List.foldl_cons, if_pos (hsame m (Ne.symm hm))]
      exact ih x hl
  have hrun (l : List (Fin 16)) (x : State) (hnd : l.Nodup) (hl : n ∈ l) :
      l.foldl (fun x n => if (s.meter n).waiting.head? = (t.meter n).waiting.head? then x else evalMeter n x) x = evalMeter n x := by
    induction l generalizing x with
    | nil => cases hl
    | cons m l ih =>
      obtain ⟨hml, hnd⟩ := List.nodup_cons.mp hnd
      rw [List.foldl_cons]
      rcases List.mem_cons.mp hl with rfl | hl
      · have hne : ¬(s.meter n).waiting.head? = (t.meter n).waiting.head? := hn
        rw [if_neg hne]
        exact hskip l _ hml
      · rw [if_pos (hsame m fun e => hml (e ▸ hl))]
        exact ih x hnd hl
  exact hrun _ _ (List.nodup_finRange 16) (List.mem_finRange n)

/-! ### A new record (R31, R49, R56) -/

/-- The record at the end of the list, its pieces counted into its unit, if any. -/
def withNew (r : Request) (s : State) : State := countIn r.unit r.pieces.length (s.setRequests (s.requests ++ [r]))

/-- A new request for meter `n`: its pieces wait, and its target is UP (R59, R82). -/
structure Joins (n : Fin 16) (r : Request) (s : State) : Prop extends NewRecord s r where
  charging : ∀ c ∈ r.pieces, c.state = .charging
  meter    : r.meter = some n
  up       : (s.ports.get r.target).link = .up

section
variable {n : Fin 16} {r q : Request} {s : State}

@[simp] theorem withNew_requests (r : Request) (s : State) : (withNew r s).requests = s.requests ++ [r] := by
  unfold withNew countIn
  cases r.unit <;> rfl

@[simp] theorem withNew_meters (r : Request) (s : State) : (withNew r s).meters = s.meters := by
  unfold withNew countIn
  cases r.unit <;> rfl

@[simp] theorem withNew_ports (r : Request) (s : State) : (withNew r s).ports = s.ports := by
  unfold withNew countIn
  cases r.unit <;> rfl

@[simp] theorem withNew_flags (r : Request) (s : State) : (withNew r s).flags = s.flags := by
  unfold withNew countIn
  cases r.unit <;> rfl

theorem NewRecord.counted (h : NewRecord s r) : r.Counted := by
  refine ⟨h.nums, h.outstanding.trans ?_⟩
  unfold Request.livePieces
  rw [List.filter_eq_self.mpr h.live]

/-- A new record stands alone under its number. -/
theorem NewRecord.lone (h : NewRecord s r) : Lone (withNew r s) r := by
  refine ⟨by simp, fun q hq e => ?_⟩
  rw [withNew_requests] at hq
  rcases List.mem_append.mp hq with hq | hq
  · exact absurd e (h.fresh q hq)
  · exact List.mem_singleton.mp hq

/-- An older record stands alone as before. -/
theorem NewRecord.older (h : NewRecord s r) (hq : Lone s q) : Lone (withNew r s) q := by
  have hne : r.id ≠ q.id := Ne.symm (h.fresh q hq.mem)
  refine ⟨by simp [hq.mem], fun x hx e => ?_⟩
  rw [withNew_requests] at hx
  rcases List.mem_append.mp hx with hx | hx
  · exact hq.only x hx e
  · rw [List.mem_singleton.mp hx] at e
    exact absurd e hne

theorem filter_append_other (hid : q.id ≠ r.id) :
    (s.requests ++ [r]).filter (fun x => decide (x.id ≠ q.id)) = s.requests.filter (fun x => decide (x.id ≠ q.id)) ++ [r] := by
  rw [List.filter_append, List.filter_cons_of_pos (by simpa using Ne.symm hid), List.filter_nil]

/-- A new record that leaves at once leaves the records as they were. -/
theorem NewRecord.filter_self (h : NewRecord s r) : (s.requests ++ [r]).filter (fun x => decide (x.id ≠ r.id)) = s.requests := by
  rw [List.filter_append, List.filter_cons_of_neg (by simp), List.filter_nil, List.append_nil]
  exact List.filter_eq_self.mpr fun x hx => decide_eq_true (h.fresh x hx)

/-! ### The four ways to join (R82, R83) -/

/-- Behind others a request only waits (R82). -/
theorem joinMeter_behind {s : State} (hne : (s.meters.get n).waiting ≠ []) (hl : (s.meters.get n).waiting.length < 96) :
    joinMeter n r s = appendWaiting n r.id s :=
  (if_pos hl).trans (if_neg hne)

/-- The head of an empty list is charged at once (R82, R84). -/
theorem joinMeter_head (h : Joins n r s) (he : (s.meters.get n).waiting = []) :
    Charges n (withRefill n [r.id] (withNew r s)) (joinMeter n r (withNew r s)) := by
  let b := appendWaiting n r.id (withNew r s)
  have hlist : (b.meters.get n).waiting = [r.id] := by
    refine (congrArg Meter.waiting (setAt_get_same _ _ _)).trans ?_
    dsimp only
    rw [withNew_meters, he, List.nil_append]
  have hready : b.Chargeable n := by
    refine ⟨by rw [hlist]; simp, fun id hid => ?_⟩
    rw [hlist] at hid
    refine ⟨r, h.lone.congr rfl, h.counted, (List.mem_singleton.mp hid).symm, h.meter, fun hdown => absurd ?_ hdown⟩
    show ((withNew r s).ports.get r.target).link = .up
    rw [withNew_ports]
    exact h.up
  have hjoin : joinMeter n r (withNew r s) = evalMeter n b := by
    have he' : ((withNew r s).meter n).waiting = [] := (congrArg (fun m => (m.get n).waiting) (withNew_meters r s)).trans he
    have hlen : ((withNew r s).meter n).waiting.length < Config.waitingPlaces := by rw [he']; decide
    exact (if_pos hlen).trans (if_pos he')
  have hstart : withRefill n (b.meters.get n).waiting b = withRefill n [r.id] (withNew r s) := by
    rw [hlist]
    simp only [b, appendWaiting, withRefill, State.modMeter, setAt_get_same, setAt_setAt]
  rw [hjoin, ← hstart]
  exact evalMeter_charges hready (by rw [hlist]; simp)

end

/-! ### A POST that leaves a full list (R83) -/

/-- The CHARGING pieces of a record. -/
def Request.waitingPieces (r : Request) : List Piece := r.pieces.filter (fun c => decide (c.state = .charging))

/-- A record without its CHARGING pieces (R83). -/
def Request.withoutWaiting (r : Request) : Request :=
  { r with
    outstanding := r.outstanding - r.waitingPieces.length
    pieces := r.pieces.map (fun c =>
      if c.state = .charging then { c with state := .removed, ttag := none, deadline := none } else c) }

section
variable {n : Fin 16} {r q : Request} {s : State}

theorem Request.endedBy_charging (r : Request) : r.endedBy (fun st => decide (st = .charging)) .removed = r.withoutWaiting := by
  unfold Request.endedBy Request.withoutWaiting endedPieces Request.waitingPieces
  simp only [mergeEnd, ite_self, decide_eq_true_eq]
  rfl

theorem leavePlaces_charging (r : Request) (l : List Piece) (v : PortState) (h : ∀ c ∈ l, c.state = .charging) : leavePlaces r l v = v := by
  induction l with
  | nil => rfl
  | cons c l ih =>
    have hc : leavePlace r c v = v := by unfold leavePlace; rw [h c List.mem_cons_self]
    show leavePlaces r l (leavePlace r c v) = v
    rw [hc]
    exact ih fun y hy => h y (List.mem_cons_of_mem _ hy)

/-- The CHARGING pieces of a record end; they stand at no port. -/
theorem endPieces_charging (h : Lone s r) (hr : r.Counted) :
    endPieces r.id (fun st => decide (st = .charging)) .removed s =
      { s with
        requests := replaced r r.withoutWaiting s.requests
        units := (countOut r.unit r.waitingPieces.length s).units } := by
  rw [endPieces_lone h hr.1 (fun c _ hc => by rw [of_decide_eq_true hc]; rfl),
    leavePlaces_charging _ _ _ (fun c hc => of_decide_eq_true (List.mem_filter.mp hc).2), PerPort.set_get, Request.endedBy_charging]
  rfl

/-- A POST that has lost its CHARGING pieces ends where nothing of it is left (R83). -/
theorem finishRequest_post {q' : Request} (h : Lone s q') (ht : q'.tag = none) :
    finishRequest q'.id s =
      { s with requests := if q'.outstanding = 0 then s.requests.filter (fun x => decide (x.id ≠ q'.id)) else s.requests } := by
  by_cases h0 : q'.outstanding = 0
  · unfold finishRequest
    rw [h.request, if_pos h0]
    dsimp only
    rw [if_pos h0, ht]
    split <;> rfl
  · rw [finishRequest_stays h h0, if_neg h0]

theorem Request.waitingPieces_le (r : Request) (hr : r.Counted) : r.waitingPieces.length ≤ r.outstanding := by
  rw [hr.2]
  unfold Request.waitingPieces Request.livePieces
  refine (List.monotone_filter_right _ fun c hc => ?_).length_le
  rw [of_decide_eq_true hc]
  rfl

/-- The records after a POST has lost its CHARGING pieces (R83). -/
def withoutPost (q : Request) (l : List Request) : List Request :=
  if q.outstanding = q.waitingPieces.length then l.filter (fun x => decide (x.id ≠ q.id)) else replaced q q.withoutWaiting l

theorem withoutPost_ended (hq : q.Counted) (l : List Request) :
    (if q.withoutWaiting.outstanding = 0 then (replaced q q.withoutWaiting l).filter (fun x => decide (x.id ≠ q.withoutWaiting.id))
      else replaced q q.withoutWaiting l) = withoutPost q l := by
  have hle := q.waitingPieces_le hq
  have hiff : q.withoutWaiting.outstanding = 0 ↔ q.outstanding = q.waitingPieces.length := by
    show q.outstanding - q.waitingPieces.length = 0 ↔ _
    omega
  unfold withoutPost
  simp only [hiff]
  rw [show q.withoutWaiting.id = q.id from rfl, filter_replaced (r := q) (r' := q.withoutWaiting) rfl]

/-- A new POST does not join a full list (R83). -/
theorem joinMeter_fullPost (h : Joins n r s) (hl : 96 ≤ (s.meters.get n).waiting.length) (hk : r.kind = .post) (ht : r.tag = none) :
    joinMeter n r (withNew r s) = withFlag r.dom .throttled s := by
  have hlen : ¬((withNew r s).meter n).waiting.length < Config.waitingPlaces := by
    rw [show (withNew r s).meter n = s.meters.get n from congrArg (fun m => m.get n) (withNew_meters r s)]
    exact Nat.not_lt.mpr hl
  have hall : r.waitingPieces = r.pieces :=
    List.filter_eq_self.mpr fun c hc => decide_eq_true (h.charging c hc)
  have hout : r.withoutWaiting.outstanding = 0 := by
    show r.outstanding - r.waitingPieces.length = 0
    rw [hall, h.outstanding, Nat.sub_self]
  have hunits : (countOut r.unit r.waitingPieces.length (withNew r s)).units = s.units := by
    rw [hall]
    unfold withNew countOut countIn
    cases r.unit with
    | none => rfl
    | some u => simp only [State.modUnit, State.setRequests, setAt_get_same, setAt_setAt, Nat.add_sub_cancel]; exact setAt_self _ _
  have hlone : Lone (setFlag r.dom .throttled { withNew r s with
      requests := replaced r r.withoutWaiting (withNew r s).requests
      units := (countOut r.unit r.waitingPieces.length (withNew r s)).units }) r.withoutWaiting := h.lone.replaced rfl rfl
  have hjoin : joinMeter n r (withNew r s) =
      finishRequest r.id (setFlag r.dom .throttled (endPieces r.id (fun st => decide (st = .charging)) .removed (withNew r s))) :=
    (if_neg hlen).trans (if_pos hk)
  rw [hjoin, endPieces_charging h.lone h.counted]
  refine (finishRequest_post hlone ht).trans ?_
  rw [if_pos hout, hunits]
  have hreq : (replaced r r.withoutWaiting (withNew r s).requests).filter (fun x => decide (x.id ≠ r.id)) = s.requests := by
    rw [filter_replaced (r := r) (r' := r.withoutWaiting) rfl, withNew_requests, h.filter_self]
  have hbase : ({ withNew r s with requests := s.requests, units := s.units } : State) = s := by
    unfold withNew countIn
    cases r.unit <;> rfl
  show ({ setFlag r.dom .throttled { withNew r s with requests := _, units := s.units } with
    requests := (replaced r r.withoutWaiting (withNew r s).requests).filter (fun x => decide (x.id ≠ r.id)) } : State) = _
  rw [hreq]
  exact congrArg (setFlag r.dom .throttled) hbase

/-- The POST that joined last is found (R83). -/
theorem lastPost_eq {before after : List Nat} {s : State} (hw : (s.meters.get n).waiting = before ++ q.id :: after) (hq : Lone s q)
    (hk : q.kind = .post) (hafter : ∀ x ∈ s.requests, x.id ∈ after → x.kind ≠ .post) : lastPost s n = some q := by
  have hnone : (after.filterMap s.request).reverse.find? (fun x => decide (x.kind = .post)) = none := by
    refine List.find?_eq_none.mpr fun x hx => ?_
    obtain ⟨id, hid, hfound⟩ := List.mem_filterMap.mp (List.mem_reverse.mp hx)
    obtain ⟨hmem, rfl⟩ := request_some hfound
    simpa using hafter x hmem hid
  unfold lastPost
  rw [show (s.meter n).waiting = before ++ q.id :: after from hw, List.filterMap_append, List.filterMap_cons_some hq.request,
    List.reverse_append, List.reverse_cons, List.append_assoc, List.find?_append, hnone]
  simp [hk]

/-- A list without its member `q`. -/
theorem withoutListed_middle {v : Meter} {id : Nat} {before after : List Nat} (hw : v.waiting = before ++ id :: after)
    (hn : v.waiting.Nodup) :
    withoutListed (fun i => decide (i = id)) v =
      { v with waiting := before ++ after, release := if before = [] then none else v.release } := by
  rw [hw] at hn
  obtain ⟨-, hcons, hdis⟩ := List.nodup_append.mp hn
  have hb : before.filter (fun i => !decide (i = id)) = before :=
    List.filter_eq_self.mpr fun i hi => by
      have := hdis i hi id List.mem_cons_self
      simpa using this
  have ha : after.filter (fun i => !decide (i = id)) = after :=
    List.filter_eq_self.mpr fun i hi => by
      have : i ≠ id := fun e => (List.nodup_cons.mp hcons).1 (e ▸ hi)
      simpa using this
  have hlist : v.waiting.filter (fun i => !decide (i = id)) = before ++ after := by
    rw [hw, List.filter_append, List.filter_cons_of_neg (by simp), hb, ha]
  unfold withoutListed
  rw [hlist]
  cases before with
  | nil => simp [hw]
  | cons i before =>
    have hi : i ≠ id := hdis i List.mem_cons_self id List.mem_cons_self
    simp [hw, hi]

/-- The POST `q` is taken from its list (R83). -/
theorem takeOffPost_eq (h : Lone s q) (hq : q.Counted) (ht : q.tag = none) :
    takeOffPost q s =
      { s with
        requests := withoutPost q s.requests
        units := (countOut q.unit q.waitingPieces.length s).units
        flags := s.flags.set q.dom { s.flags.get q.dom with throttled := true }
        meters := metersWithout q s.meters } := by
  have hlone : Lone (setFlag q.dom .throttled (leaveMeter q { s with
      requests := replaced q q.withoutWaiting s.requests
      units := (countOut q.unit q.waitingPieces.length s).units })) q.withoutWaiting := by
    rw [leaveMeter_meters]
    exact h.replaced rfl rfl
  unfold takeOffPost
  rw [endPieces_charging h hq]
  refine (finishRequest_post hlone ht).trans ?_
  rw [leaveMeter_meters, ← withoutPost_ended hq]
  rfl

/-- A POST makes room on a full list (R83). -/
theorem takeOffPost_roomMade {before after : List Nat} {id : Nat} (h : Lone s q) (hq : q.Counted) (ht : q.tag = none)
    (hm : q.meter = some n) (hw : (s.meters.get n).waiting = before ++ q.id :: after) (hn : (s.meters.get n).waiting.Nodup) :
    appendWaiting n id (takeOffPost q s) = withRoomMade n q before after id s := by
  have hmeters : metersWithout q s.meters = setAt s.meters n (withoutListed (fun i => decide (i = q.id)) (s.meters.get n)) := by
    unfold metersWithout
    rw [hm]
  have hunits : (countOut q.unit q.waitingPieces.length s).units = (withRoomMade n q before after id s).units := by
    unfold withRoomMade Request.waitingPieces
    dsimp only
    cases q.unit <;> rfl
  rw [takeOffPost_eq h hq ht, hmeters, hunits, withoutListed_middle hw hn]
  simp only [appendWaiting, State.modMeter, setAt_get_same, setAt_setAt]
  rfl

theorem withRoomMade_meter_other {m : Fin 16} {before after : List Nat} {id : Nat} (hm : m ≠ n) :
    (withRoomMade n q before after id s).meters.get m = s.meters.get m := setAt_get_other _ _ hm

theorem withRoomMade_waiting {before after : List Nat} {id : Nat} :
    ((withRoomMade n q before after id s).meters.get n).waiting = before ++ after ++ [id] :=
  congrArg Meter.waiting (setAt_get_same _ _ _)

/-- A request takes the place of the POST that joined last: where that was not the head, the head stays (R83). -/
theorem joinMeter_room {before after : List Nat} (h : Joins n r s) (hl : 96 ≤ (s.meters.get n).waiting.length) (hk : r.kind ≠ .post)
    (hq : Lone s q) (hqc : q.Counted) (hqk : q.kind = .post) (hqt : q.tag = none) (hqm : q.meter = some n)
    (hw : (s.meters.get n).waiting = before ++ q.id :: after) (hn : (s.meters.get n).waiting.Nodup)
    (hafter : ∀ x ∈ s.requests, x.id ∈ after → x.kind ≠ .post) :
    joinMeter n r (withNew r s) = evalNewHeads (withNew r s) (withRoomMade n q before after r.id (withNew r s)) := by
  have hmeter : (withNew r s).meters.get n = s.meters.get n := congrArg (fun m => m.get n) (withNew_meters r s)
  have hlen : ¬((withNew r s).meter n).waiting.length < Config.waitingPlaces := by
    rw [show (withNew r s).meter n = s.meters.get n from hmeter]
    exact Nat.not_lt.mpr hl
  have hlast : lastPost (withNew r s) n = some q := by
    refine lastPost_eq (hmeter ▸ hw) (h.older hq) hqk fun x hx hid => ?_
    rw [withNew_requests] at hx
    rcases List.mem_append.mp hx with hx | hx
    · exact hafter x hx hid
    · rw [List.mem_singleton.mp hx]
      exact hk
  rw [← takeOffPost_roomMade (h.older hq) hqc hqt hqm (hmeter ▸ hw) (hmeter ▸ hn)]
  unfold joinMeter
  dsimp only
  rw [if_neg hlen, if_neg hk, hlast]

theorem joinMeter_roomBehind {before after : List Nat} (h : Joins n r s) (hl : 96 ≤ (s.meters.get n).waiting.length) (hk : r.kind ≠ .post)
    (hq : Lone s q) (hqc : q.Counted) (hqk : q.kind = .post) (hqt : q.tag = none) (hqm : q.meter = some n)
    (hw : (s.meters.get n).waiting = before ++ q.id :: after) (hn : (s.meters.get n).waiting.Nodup)
    (hafter : ∀ x ∈ s.requests, x.id ∈ after → x.kind ≠ .post) (hb : before ≠ []) :
    joinMeter n r (withNew r s) = withRoomMade n q before after r.id (withNew r s) := by
  rw [joinMeter_room h hl hk hq hqc hqk hqt hqm hw hn hafter]
  refine evalNewHeads_heads fun m => ?_
  by_cases hm : m = n
  · subst hm
    rw [withRoomMade_waiting, withNew_meters, hw]
    cases before with
    | nil => exact absurd rfl hb
    | cons i before => rfl
  · rw [withRoomMade_meter_other hm]

/-- Where the POST that makes room was the head, the new head is charged (R83, R89). -/
theorem joinMeter_roomHead {after : List Nat} (h : Joins n r s) (hl : 96 ≤ (s.meters.get n).waiting.length) (hk : r.kind ≠ .post)
    (hc : s.CountLaw) (hwait : s.WaitingLaw) (hq : q ∈ s.requests) (hqk : q.kind = .post) (hqt : q.tag = none) (hqm : q.meter = some n)
    (hw : (s.meters.get n).waiting = q.id :: after) (hafter : ∀ x ∈ s.requests, x.id ∈ after → x.kind ≠ .post) :
    Charges n (withRefill n (after ++ [r.id]) (withRoomMade n q [] after r.id (withNew r s))) (joinMeter n r (withNew r s)) := by
  have hwaits := Waits.of_law hc hwait
  have hn := hwaits.nodup n
  have hqn := hn
  rw [hw] at hqn
  obtain ⟨hqa, hna⟩ := List.nodup_cons.mp hqn
  have hnew : r.id ∉ (s.meters.get n).waiting := fun hid => by
    obtain ⟨x, hx, e, -⟩ := hwaits.listed n r.id hid
    exact h.fresh x hx e
  have hlist : ((withRoomMade n q [] after r.id (withNew r s)).meters.get n).waiting = after ++ [r.id] := withRoomMade_waiting
  have hcount : (withRoomMade n q [] after r.id (withNew r s)).CountLaw := by
    have hmeter : (withNew r s).meters.get n = s.meters.get n := congrArg (fun m => m.get n) (withNew_meters r s)
    rw [← takeOffPost_roomMade (h.older (hc.lone hq)) (hc.counted hq) hqt hqm (hmeter ▸ hw) (hmeter ▸ hn)]
    have hmoves : Moves true s (withNew r s) := .one (.enter s r rfl h.toNewRecord)
    exact hc.moves ((hmoves.trans (Moves.takeOffPost q _)).trans (Moves.appendWaiting n r.id _))
  have hports : (withRoomMade n q [] after r.id (withNew r s)).ports = s.ports := withNew_ports r s
  have hmem (x : Request) (hx : x ∈ s.requests ++ [r]) (hne : x.id ≠ q.id) :
      x ∈ (withRoomMade n q [] after r.id (withNew r s)).requests := by
    have hin : x ∈ (withNew r s).requests := by rw [withNew_requests]; exact hx
    unfold withRoomMade
    dsimp only
    split
    · exact List.mem_filter.mpr ⟨hin, decide_eq_true hne⟩
    · exact List.mem_map.mpr ⟨x, hin, if_neg hne⟩
  have hready : (withRoomMade n q [] after r.id (withNew r s)).Chargeable n := by
    refine hcount.chargeable ?_ fun id hid => ?_
    · rw [hlist]
      refine List.nodup_append.mpr ⟨hna, by simp, fun a ha b hb e => ?_⟩
      rw [List.mem_singleton.mp hb] at e
      exact hnew (by rw [hw, ← e]; exact List.mem_cons_of_mem _ ha)
    · rw [hlist] at hid
      unfold State.MayWait
      rw [hports]
      rcases List.mem_append.mp hid with hid | hid
      · obtain ⟨x, hx, rfl, hxm, -, hxd⟩ := hwaits.listed n id (by rw [hw]; exact List.mem_cons_of_mem _ hid)
        exact ⟨x, hmem x (List.mem_append_left _ hx) fun e => hqa (e ▸ hid), rfl, hxm, fun hd => ⟨hxd hd, hwaits.opened x hx⟩⟩
      · exact ⟨r, hmem r (by simp) (Ne.symm (h.fresh q hq)), (List.mem_singleton.mp hid).symm, h.meter,
          fun hd => absurd h.up hd⟩
  rw [joinMeter_room h hl hk (hc.lone hq) (hc.counted hq) hqk hqt hqm (before := []) hw hn hafter, evalNewHeads_one (n := n)]
  · have := evalMeter_charges hready (by rw [hlist]; simp)
    rw [hlist] at this
    exact this
  · rw [hlist, withNew_meters, hw]
    intro e
    cases after with
    | nil => exact h.fresh q hq (Option.some.inj e)
    | cons i after => exact hqa (Option.some.inj e ▸ List.mem_cons_self)
  · exact fun m hm => withRoomMade_meter_other hm

end

end Sys2Proof.Machine
end

section
/-! PROOFS. A metered request that is taken joins the list of its meter (R59, R82 to R89). -/

namespace Sys2Proof.Machine

open Sys2Proof

theorem SameDecision.countLaw {s t : State} (h : SameDecision s t) (hc : s.CountLaw) : t.CountLaw :=
  hc.congr h.requests fun u => by rw [h.units]

theorem SameDecision.waitingLaw {s t : State} (h : SameDecision s t) (hw : s.WaitingLaw) : t.WaitingLaw := by
  unfold State.WaitingLaw at hw ⊢
  simpa only [h.requests, h.meters, h.units, h.link] using hw

theorem RequestArrives.flags {d : Domain} {kind : Kind} {tag : Fin 32} {code : Byte} {addr : Addr} {payload : List Byte} {s s1 : State}
    (h : RequestArrives d kind tag code addr payload s s1) : (withTag d kind tag s1).flags = s.flags := by
  obtain ⟨rest, rfl⟩ := h.1.spec
  unfold withTag
  split <;> rfl

/-- A new metered record joins: its pieces are those of the split, all CHARGING (R58, R59). -/
theorem joins_admitted {q : Arrival} {e : EntryCopy} {n : Fin 16} {s : State} (hm : e.meter = some n)
    (hup : (s.ports.get e.target).link = .up) : Joins n (admittedRecord s q e) s where
  toNewRecord := Moves.newRecord_admitted s q e
  charging c hc := by
    have := (Moves.splitFrom_state _ _ _ _ _ _ c hc).1
    rw [hm] at this
    exact this
  meter := hm
  up := hup

/-- A metered request toward an UP port joins its meter's list (R31, R82). -/
theorem admitRequest_metered {q : Arrival} {e : EntryCopy} {n : Fin 16} {s : State} (hm : e.meter = some n)
    (hup : (s.ports.get e.target).link = .up) :
    admitRequest q e s = joinMeter n (admittedRecord s q e) (withNew (admittedRecord s q e) s) := by
  rw [admitRequest_up hup, hm]
  rfl

/-- Settles O34: by the length of the list, and on a full list by the kind of the request. -/
theorem meteredRequestJoinsItsList : Obligations.MeteredRequestJoinsItsList := by
  intro d kind tag code addr payload i n s s1 h hp hm e len cfg taddr pieces id record s2 v ha hmeter hup hu
  have hsame : SameDecision s s2 := h.sameDecision
  have hcopy : (e.copy i.1).meter = some n := hmeter
  have hup2 : (s2.ports.get (e.copy i.1).target).link = .up := by rw [hsame.link]; exact hup
  have hrecord : admittedRecord s2 (arrivalOf d kind tag code addr payload) (e.copy i.1) = record := by
    simp only [admittedRecord, hcopy, hsame.requests, State.port, hsame.config]
    rfl
  have hjoins : Joins n record s2 := hrecord ▸ joins_admitted hcopy hup2
  have hexec : exec (.requestTaken d.port kind tag code addr payload) s = .next (joinMeter n record (withNew record s2)) := by
    rw [requestTaken_admitted h hp hm ha .charging hu, admitRequest_metered hcopy hup2, hrecord]
  have hv : s2.meters.get n = v := by rw [hsame.meters]
  have hunits2 : (withTag d kind tag s1).units = s.units := hsame.units
  have hnew : withNew record s2 = { s2 with
      requests := s.requests ++ [record]
      units := (countIn e.unit pieces.length s).units } := by
    unfold withNew
    rw [hsame.requests, show record.unit = e.unit from rfl]
    simp only [countIn, State.modUnit, State.setRequests, hsame.units]
    cases e.unit <;> rfl
  have hunits : (countIn e.unit pieces.length s).units = match e.unit with
      | none => s.units
      | some u => setAt s.units u { s.units.get u with inFlight := (s.units.get u).inFlight + pieces.length } := by
    cases e.unit <;> rfl
  refine ⟨fun hne hl => ?_, fun he => ⟨_, hexec, ?_⟩, fun hk hl => ?_, fun q before after hk hl hc hunit hw hb hn hq hqk hqt hqm hqu hall hafter => ?_,
    fun q before after hk hl hc hwait hw hq hqk hqt hafter => ?_⟩
  · rw [hexec, joinMeter_behind (by rw [withNew_meters, hv]; exact hne) (by rw [withNew_meters, hv]; exact hl), hnew, hunits]
    simp only [appendWaiting, State.modMeter, hsame.meters]
    rfl
  · have := joinMeter_head hjoins (by rw [hv]; exact he)
    rw [hnew, hunits] at this
    rw [hnew, hunits]
    exact this
  · have hs2 : s2 = s1 := if_pos hk
    rw [hexec, joinMeter_fullPost hjoins (by rw [hv]; exact hl) hk (if_pos hk), hs2]
  · have hne : record.id ≠ q.id := Ne.symm (Moves.freshRecord_ne s.requests q hq)
    have hgone : (q.pieces.filter (fun c => decide (c.state = .charging))).length = q.outstanding := by
      have hlive : q.pieces.filter (fun c => c.state.live) = q.pieces :=
        List.filter_eq_self.mpr fun c hc => by rw [hall c hc]; rfl
      rw [List.filter_eq_self.mpr fun c hc => decide_eq_true (hall c hc), (hc.counted hq).2, Request.livePieces, hlive]
    have hlast := joinMeter_roomBehind hjoins (by rw [hv]; exact hl) hk ((hsame.countLaw hc).lone (hsame.requests ▸ hq))
      (hc.counted hq) hqk hqt hqm (by rw [hv]; exact hw) (by rw [hv]; exact hn) (by rw [hsame.requests]; exact hafter) hb
    rw [hexec, hlast, hnew]
    simp only [withRoomMade, hgone, hqu, hb, if_true, if_false, filter_append_other (s := s) (r := record) (Ne.symm hne), hsame.meters,
      h.flags, hunit, countIn, s2, hunits2]
    rfl
  · intro gone rest counted taken
    have hwaits := Waits.of_law hc hwait
    have hqm : q.meter = some n := (hwaits.meter_of_listed hq (n := n) (by
      show q.id ∈ v.waiting
      rw [hw]
      simp)).1
    have htaken : withRoomMade n q before after id (withNew record s2) = taken := by
      have hne : q.id ≠ record.id := Moves.freshRecord_ne s.requests q hq
      have hlist : withoutPost q (s.requests ++ [record]) = withoutPost q s.requests ++ [record] := by
        unfold withoutPost replaced
        rw [filter_append_other hne, List.map_append, List.map_singleton, if_neg (Ne.symm hne)]
        split <;> rfl
      have hroom : (withRoomMade n q before after id (withNew record s2)).requests = withoutPost q (withNew record s2).requests := rfl
      rw [withNew_requests, hsame.requests, hlist] at hroom
      have hrest : (withRoomMade n q before after id (withNew record s2)) =
          { taken with requests := (withRoomMade n q before after id (withNew record s2)).requests } := by
        rw [hnew, hunits]
        simp only [withRoomMade, taken, counted, gone, hsame.meters, h.flags, s2]
        rfl
      rw [hrest, hroom]
      rfl
    have hqs : Lone s2 q := (hsame.countLaw hc).lone (hsame.requests ▸ hq)
    have hqafter : ∀ x ∈ s2.requests, x.id ∈ after → x.kind ≠ .post := by rw [hsame.requests]; exact hafter
    refine ⟨_, hexec, fun hb => ?_, fun hb => ?_⟩
    · rw [← htaken]
      exact joinMeter_roomBehind hjoins (by rw [hv]; exact hl) hk hqs (hc.counted hq) hqk hqt hqm (by rw [hv]; exact hw)
        (by rw [hv]; exact hwaits.nodup n) hqafter hb
    · subst hb
      rw [← htaken]
      exact joinMeter_roomHead hjoins (by rw [hv]; exact hl) hk (hsame.countLaw hc) (hsame.waitingLaw hwait) (hsame.requests ▸ hq) hqk
        hqt hqm (by rw [hv]; exact hw) hqafter

end Sys2Proof.Machine
end

section
/-! PROOFS. What the request tracker does, cut into its single changes: pieces that end, pieces that are queued, requests that end, meters
and flags (R50, R56, R59, R69, R84). -/

namespace Sys2Proof.Machine

open Sys2Proof

/-! ### Single changes -/

/-- One change that the tracker makes. Where the accounts hold (`counted`), a piece that ends is a live piece of its record; a SENT piece ends
only where pieces are cut (`cuts`). -/
inductive Track (counted cuts : Prop) : State → State → Prop
  | ends (s : State) (r : Request) (c : Piece) (st : PieceState) : st.live = false → (c.state = .sent → cuts) →
      (counted → ∃ q ∈ s.requests, q.id = r.id ∧ q.target = r.target ∧ q.dom = r.dom ∧ c ∈ q.pieces ∧ c.state.live = true) →
      Track counted cuts s (endPiece ⟨r.id, c.num⟩ st (vacate r c s))
  | queues (s : State) (r : Request) (c : Piece) : s.piece ⟨r.id, c.num⟩ = some (r, c) → c.state = .charging →
      (s.ports.get r.target).link = .up →
      Track counted cuts s
        (enqueuePiece r.target r.dom ⟨r.id, c.num⟩ (setPiece ⟨r.id, c.num⟩ (fun y => { y with state := .queued }) s))
  | finishes (s : State) (r : Request) : s.request r.id = some r → r.outstanding = 0 → Track counted cuts s (finishRequest r.id s)
  | meters (s : State) (m : Vector Meter 16) : Track counted cuts s { s with meters := m }
  | flags (s : State) (v : PerDomain Sticky) : Track counted cuts s { s with flags := v }

/-- Some changes that the tracker makes, one after another. -/
def Tracks (counted cuts : Prop) (s t : State) : Prop := Relation.ReflTransGen (Track counted cuts) s t

section
variable {counted cuts : Prop} {s t u : State}

theorem Track.countLaw (h : Track counted cuts s t) (hs : s.CountLaw) : t.CountLaw := by
  cases h with
  | ends r c st hst _ _ => exact hs.moves ((Moves.vacate r c s).trans (Moves.endPiece hst _))
  | queues r c hf hc _ =>
    refine hs.moves ((Moves.setPiece (fun y => { y with state := .queued }) hf ?_ (fun _ => rfl) fun _ => rfl).trans
      (Moves.enqueuePiece _ _ _ _))
    rw [hc]; rfl
  | finishes r => exact hs.moves (Moves.finishRequest r.id s)
  | meters m => exact State.CountLaw.congr (s := s) rfl (fun _ => rfl) hs
  | flags v => exact State.CountLaw.congr (s := s) rfl (fun _ => rfl) hs

namespace Tracks

theorem refl (s : State) : Tracks counted cuts s s := Relation.ReflTransGen.refl

theorem trans (h : Tracks counted cuts s t) (g : Tracks counted cuts t u) : Tracks counted cuts s u := Relation.ReflTransGen.trans h g

theorem one (h : Track counted cuts s t) : Tracks counted cuts s t := Relation.ReflTransGen.single h

/-- What every change keeps, the tracker keeps. -/
theorem keep {P : State → Prop} (h : ∀ s t, Track counted cuts s t → P s → P t) (m : Tracks counted cuts s t) (hs : P s) : P t := by
  induction m with
  | refl => exact hs
  | tail _ g ih => exact h _ _ g ih

theorem countLaw (h : Tracks counted cuts s t) (hs : counted → s.CountLaw) (hc : counted) : t.CountLaw :=
  h.keep (P := State.CountLaw) (fun _ _ g hp => g.countLaw hp) (hs hc)

/-- Changes one after another, where each keeps the accounts. -/
theorem foldl {α : Type} {f : State → α → State} (h : ∀ s x, (counted → s.CountLaw) → Tracks counted cuts s (f s x)) (l : List α)
    (hs : counted → s.CountLaw) : Tracks counted cuts s (l.foldl f s) := by
  induction l generalizing s with
  | nil => exact refl s
  | cons x xs ih => exact (h s x hs).trans (ih ((h s x hs).countLaw hs))

theorem modMeter (n : Fin 16) (f : Meter → Meter) (s : State) : Tracks counted cuts s (s.modMeter n f) := one (.meters s _)

theorem setFlag (d : Domain) (f : Flag) (s : State) : Tracks counted cuts s (setFlag d f s) := one (.flags s _)

theorem finishRequest (id : Nat) (s : State) : Tracks counted cuts s (finishRequest id s) := by
  cases hr : s.request id with
  | none =>
    unfold Machine.finishRequest
    rw [hr]
    exact refl s
  | some r =>
    obtain ⟨-, rfl⟩ := request_some hr
    by_cases h0 : r.outstanding = 0
    · exact one (.finishes s r hr h0)
    · unfold Machine.finishRequest
      rw [hr]
      dsimp only
      rw [if_neg h0]
      exact refl s

theorem leaveMeter (r : Request) (s : State) : Tracks counted cuts s (leaveMeter r s) := by
  rw [leaveMeter_meters]
  exact one (.meters s _)

/-! ### Pieces that end together -/

/-- The pieces of a record that are left to end, where the accounts hold. -/
def Left (r : Request) (l : List Piece) (s : State) : Prop :=
  ∃ q ∈ s.requests, q.id = r.id ∧ q.target = r.target ∧ q.dom = r.dom ∧ (∀ c ∈ l, c ∈ q.pieces ∧ c.state.live = true) ∧
    (l.map (fun c => c.num)).Nodup

theorem foldl_endPiece {r : Request} {st : PieceState} (hst : st.live = false) (l : List Piece) (hcut : ∀ c ∈ l, c.state = .sent → cuts) :
    ∀ {s : State}, (counted → s.CountLaw) → (counted → Left r l s) →
      Tracks counted cuts s (l.foldl (fun t c => endPiece ⟨r.id, c.num⟩ st (vacate r c t)) s) := by
  induction l with
  | nil => exact fun _ _ => refl _
  | cons c l ih =>
    intro s hs hl
    have hstep : Track counted cuts s (endPiece ⟨r.id, c.num⟩ st (vacate r c s)) := .ends s r c st hst (hcut c List.mem_cons_self) fun hc => by
      obtain ⟨q, hq, hid, ht, hd, hall, -⟩ := hl hc
      exact ⟨q, hq, hid, ht, hd, hall c List.mem_cons_self⟩
    refine (one hstep).trans (ih (fun y hy => hcut y (List.mem_cons_of_mem _ hy)) (fun hc => hstep.countLaw (hs hc)) fun hc => ?_)
    obtain ⟨q, hq, hid, ht, hd, hall, hn⟩ := hl hc
    obtain ⟨hcl, hn⟩ := List.nodup_cons.mp hn
    obtain ⟨hcq, hlive⟩ := hall c List.mem_cons_self
    rw [← hid, endPiece_vacate ((hs hc).lone hq) (((hs hc).counted hq).lonePiece hcq) hlive]
    refine ⟨q.ended c st, (mem_replaced hq).mpr (.inl rfl), hid, ht, hd, fun y hy => ⟨?_, (hall y (List.mem_cons_of_mem _ hy)).2⟩, hn⟩
    have hne : y.num ≠ c.num := fun e =>
      hcl (List.mem_map.mpr ⟨y, hy, e⟩)
    exact List.mem_map.mpr ⟨y, (hall y (List.mem_cons_of_mem _ hy)).1, if_neg hne⟩

theorem endPieces (id : Nat) {f : PieceState → Bool} {st : PieceState} (hst : st.live = false)
    (hf : ∀ x, f x = true → x.live = true) (hcut : f .sent = true → cuts) (hs : counted → s.CountLaw) : Tracks counted cuts s (endPieces id f st s) := by
  unfold Machine.endPieces
  split
  · exact refl s
  · rename_i r hr
    obtain ⟨hmem, rfl⟩ := request_some hr
    refine foldl_endPiece hst _ (fun c hcm e => hcut ?_) hs fun hc => ⟨r, hmem, rfl, rfl, rfl, fun c hcm => ?_, ?_⟩
    · rw [← e]
      exact (List.mem_filter.mp hcm).2
    · obtain ⟨hcm, hcf⟩ := List.mem_filter.mp hcm
      exact ⟨hcm, hf _ hcf⟩
    · exact ((hs hc).counted hmem).1.sublist (List.filter_sublist.map _)

theorem removeUnsent (id : Nat) (hs : counted → s.CountLaw) : Tracks counted cuts s (removeUnsent id s) := by
  unfold Machine.removeUnsent
  split
  · exact refl s
  · exact (endPieces _ rfl (fun _ => PieceState.unsent_live) (fun e => nomatch e) hs).trans (leaveMeter _ _)

/-! ### Meters (R84) -/

/-- A CHARGING piece that is found enters QUEUED, or ends with its request (R59, R77). -/
theorem enterQueued {r : Request} {c : Piece} (hf : s.piece ⟨r.id, c.num⟩ = some (r, c)) (hc : c.state = .charging)
    (hs : counted → s.CountLaw) : Tracks counted cuts s (enterQueued r c.num s) := by
  unfold Machine.enterQueued
  split
  · rename_i hup
    exact one (.queues s r c hf hc ((State.isUp_iff _ _).mp hup))
  · obtain ⟨hr, -, hcm, -⟩ := piece_some hf
    have hlive : c.state.live = true := by rw [hc]; rfl
    have hstay : vacate r c s = s := by unfold vacate; rw [hc]
    have hend : Tracks counted cuts s (endPiece ⟨r.id, c.num⟩ (.resolved .linkDown) s) := by
      have := Track.ends (counted := counted) (cuts := cuts) s r c (.resolved .linkDown) rfl (fun e => by rw [hc] at e; cases e) fun _ => ⟨r, hr, rfl, rfl, rfl, hcm, hlive⟩
      rw [hstay] at this
      exact one this
    exact hend.trans ((removeUnsent _ (hend.countLaw hs)).trans (finishRequest _ _))

theorem chargePieces (n : Fin 16) (id : Nat) (nums : List Nat) :
    ∀ {s : State}, (counted → s.CountLaw) → Tracks counted cuts s (chargePieces n id nums s).1 := by
  induction nums with
  | nil => exact fun _ => refl _
  | cons num nums ih =>
    intro s hs
    unfold Machine.chargePieces
    split
    · exact ih hs
    · rename_i r c hf
      obtain ⟨-, rfl, -, rfl⟩ := piece_some hf
      split
      · rename_i hc
        split
        · rename_i credit _
          have hpaid := modMeter (counted := counted) (cuts := cuts) n (fun v => { v with credit := credit }) s
          have hin := enterQueued (cuts := cuts) (s := s.modMeter n (fun v => { v with credit := credit })) (r := r) (c := c) hf hc (hpaid.countLaw hs)
          exact hpaid.trans (hin.trans (ih (hin.countLaw (hpaid.countLaw hs))))
        · have hpaid := (modMeter (counted := counted) (cuts := cuts) n (fun v => { v with credit := 0 }) s).trans (setFlag r.dom .clamped _)
          have hin := enterQueued (cuts := cuts) (s := Machine.setFlag r.dom .clamped (s.modMeter n (fun v => { v with credit := 0 }))) (r := r) (c := c)
            hf hc (hpaid.countLaw hs)
          exact hpaid.trans (hin.trans (ih (hin.countLaw (hpaid.countLaw hs))))
        · exact (modMeter n _ s).trans (setFlag _ _ _)
      · exact ih hs

theorem chargeHeads (n : Fin 16) (ids : List Nat) : ∀ {s : State}, (counted → s.CountLaw) → Tracks counted cuts s (chargeHeads n ids s) := by
  induction ids with
  | nil => exact fun _ => modMeter _ _ _
  | cons id rest ih =>
    intro s hs
    unfold Machine.chargeHeads
    dsimp only
    have hlist := modMeter (counted := counted) (cuts := cuts) n (fun v => { v with waiting := id :: rest }) s
    have h := hlist.trans
      (chargePieces n id (pieceNums (s.modMeter n (fun v => { v with waiting := id :: rest })) id) (hlist.countLaw hs))
    split
    · rename_i e; rw [e] at h; exact h
    · rename_i e; rw [e] at h; exact h.trans (ih (h.countLaw hs))

theorem evalMeter (n : Fin 16) (hs : counted → s.CountLaw) : Tracks counted cuts s (evalMeter n s) := by
  unfold Machine.evalMeter
  split
  · exact refl s
  · have := modMeter (counted := counted) (cuts := cuts) n (fun v => { v.refill s.gateTime with release := none }) s
    exact this.trans (chargeHeads _ _ (this.countLaw hs))

theorem evalNewHeads (before : State) (hs : counted → s.CountLaw) : Tracks counted cuts s (evalNewHeads before s) := by
  refine foldl (fun t n ht => ?_) _ hs
  split
  · exact refl t
  · exact evalMeter n ht

theorem appendWaiting (n : Fin 16) (id : Nat) (s : State) : Tracks counted cuts s (appendWaiting n id s) := modMeter _ _ s

theorem charging_live {x : PieceState} (h : decide (x = .charging) = true) : x.live = true := by rw [of_decide_eq_true h]; rfl

theorem takeOffPost (r : Request) (hs : counted → s.CountLaw) : Tracks counted cuts s (takeOffPost r s) :=
  (endPieces _ rfl (fun _ => charging_live) (fun e => nomatch e) hs).trans ((leaveMeter _ _).trans ((setFlag _ _ _).trans (finishRequest _ _)))

theorem joinMeter (n : Fin 16) (r : Request) (hs : counted → s.CountLaw) : Tracks counted cuts s (joinMeter n r s) := by
  unfold Machine.joinMeter
  dsimp only
  split
  · split
    · have := appendWaiting (counted := counted) (cuts := cuts) n r.id s
      exact this.trans (evalMeter _ (this.countLaw hs))
    · exact appendWaiting _ _ s
  · split
    · exact (endPieces _ rfl (fun _ => charging_live) (fun e => nomatch e) hs).trans ((setFlag _ _ _).trans (finishRequest _ _))
    · split
      · exact appendWaiting _ _ s
      · rename_i q _
        have := (takeOffPost (counted := counted) (cuts := cuts) q hs).trans (appendWaiting n r.id _)
        exact this.trans (evalNewHeads _ (this.countLaw hs))

end Tracks

end

/-! ### What the tracker leaves alone -/

/-- `t` is `s` but for the target side of the ports, the counts of the units, the requests, the meters and the flags: packets to initiators
wait as before, more behind them. -/
structure Confined (s t : State) : Prop where
  rest : t = { s with ports := t.ports, units := t.units, requests := t.requests, meters := t.meters, flags := t.flags }
  port : ∀ p, ∃ tags arbiter out, t.ports.get p = { s.ports.get p with tags := tags, arbiter := arbiter, outbound := out } ∧
    arbiter.turn = (s.ports.get p).arbiter.turn ∧ arbiter.scrub = (s.ports.get p).arbiter.scrub ∧
    ∀ pkt ∈ (s.ports.get p).outbound, requestTags [pkt] = [] → pkt ∈ out
  unit : ∀ u, ∃ k, t.units.get u = { s.units.get u with inFlight := k }

namespace Confined

variable {s t u : State}

theorem refl (s : State) : Confined s s :=
  ⟨rfl, fun _ => ⟨_, _, _, rfl, rfl, rfl, fun _ h _ => h⟩, fun _ => ⟨_, rfl⟩⟩

theorem trans (h : Confined s t) (g : Confined t u) : Confined s u := by
  refine ⟨?_, fun p => ?_, fun w => ?_⟩
  · have hg := g.rest
    rw [h.rest] at hg
    exact hg
  · obtain ⟨_, a1, _, e1, ht1, hs1, ho1⟩ := h.port p
    obtain ⟨tags, a2, out, e2, ht2, hs2, ho2⟩ := g.port p
    rw [e1] at e2 ht2 hs2 ho2
    exact ⟨tags, a2, out, e2, ht2.trans ht1, hs2.trans hs1, fun pkt hp hr => ho2 pkt (ho1 pkt hp hr) hr⟩
  · obtain ⟨_, e1⟩ := h.unit w
    obtain ⟨k, e2⟩ := g.unit w
    exact ⟨k, by rw [e2, e1]⟩

theorem link (h : Confined s t) (p : Port) : (t.ports.get p).link = (s.ports.get p).link := by
  obtain ⟨_, _, _, e, -⟩ := h.port p; rw [e]

theorem domains (h : Confined s t) : t.domains = s.domains := by rw [h.rest]

theorem foldl {α : Type} {f : State → α → State} (h : ∀ s x, Confined s (f s x)) (l : List α) (s : State) : Confined s (l.foldl f s) := by
  induction l generalizing s with
  | nil => exact refl s
  | cons x xs ih => exact (h s x).trans (ih _)

/-- A change that the ports and units do not take part in. -/
theorem of_same (hr : t = { s with requests := t.requests, meters := t.meters, flags := t.flags }) : Confined s t := by
  have hp : t.ports = s.ports := by rw [hr]
  have hu : t.units = s.units := by rw [hr]
  refine ⟨?_, fun p => ?_, fun w => ?_⟩
  · rw [hp, hu]; exact hr
  · rw [hp]; exact ⟨_, _, _, rfl, rfl, rfl, fun _ h _ => h⟩
  · rw [hu]; exact ⟨_, rfl⟩

theorem modPort {p : Port} {f : PortState → PortState} {s : State}
    (h : ∀ v, ∃ tags arbiter out, f v = { v with tags := tags, arbiter := arbiter, outbound := out } ∧ arbiter.turn = v.arbiter.turn ∧
      arbiter.scrub = v.arbiter.scrub ∧ ∀ pkt ∈ v.outbound, requestTags [pkt] = [] → pkt ∈ out) : Confined s (s.modPort p f) := by
  refine ⟨rfl, fun q => ?_, fun _ => ⟨_, rfl⟩⟩
  by_cases hq : q = p
  · subst hq
    rw [show (s.modPort q f).ports.get q = f (s.ports.get q) from PerPort.get_set_same _ _ _]
    exact h _
  · rw [show (s.modPort p f).ports.get q = s.ports.get q from PerPort.get_set_other _ _ hq]
    exact ⟨_, _, _, rfl, rfl, rfl, fun _ h _ => h⟩

theorem modUnit {w : Fin 8} {f : CustodyUnit → CustodyUnit} {s : State} (h : ∀ v, ∃ k, f v = { v with inFlight := k }) :
    Confined s (s.modUnit w f) := by
  refine ⟨rfl, fun _ => ⟨_, _, _, rfl, rfl, rfl, fun _ h _ => h⟩, fun x => ?_⟩
  by_cases hx : x = w
  · subst hx
    rw [show (s.modUnit x f).units.get x = f (s.units.get x) from setAt_get_same _ _ _]
    exact h _
  · rw [show (s.modUnit w f).units.get x = s.units.get x from setAt_get_other _ _ hx]
    exact ⟨_, rfl⟩

theorem countOut (u : Option (Fin 8)) (n : Nat) (s : State) : Confined s (countOut u n s) := by
  cases u with
  | none => exact refl s
  | some u => exact modUnit fun v => ⟨_, rfl⟩

theorem countIn (u : Option (Fin 8)) (n : Nat) (s : State) : Confined s (countIn u n s) := by
  cases u with
  | none => exact refl s
  | some u => exact modUnit fun v => ⟨_, rfl⟩

theorem modQueue_turn (x : Arbiter) (d : Domain) (f : List PieceRef → List PieceRef) :
    (x.modQueue d f).turn = x.turn ∧ (x.modQueue d f).scrub = x.scrub := by
  cases d <;> exact ⟨rfl, rfl⟩

theorem modQueue (p : Port) (d : Domain) (f : List PieceRef → List PieceRef) (s : State) :
    Confined s (s.modPort p (fun x => { x with arbiter := x.arbiter.modQueue d f })) :=
  modPort fun v => ⟨_, _, _, rfl, (modQueue_turn v.arbiter d f).1, (modQueue_turn v.arbiter d f).2, fun _ h _ => h⟩

theorem endPiece (ref : PieceRef) (st : PieceState) (s : State) : Confined s (endPiece ref st s) := by
  unfold Machine.endPiece
  split
  · exact refl s
  · split
    · exact (of_same (by rfl)).trans (countOut _ _ _)
    · exact refl s

theorem vacate (r : Request) (c : Piece) (s : State) : Confined s (vacate r c s) := by
  unfold Machine.vacate
  split
  · exact refl s
  · exact modQueue _ _ _ s
  · split
    · refine modPort fun v => ⟨_, _, _, rfl, rfl, rfl, fun pkt hp hr => List.mem_filter.mpr ⟨hp, ?_⟩⟩
      cases pkt <;> simp [requestTags] at hr ⊢
    · exact refl s
  · split
    · exact modPort fun v => ⟨_, _, _, rfl, rfl, rfl, fun _ h _ => h⟩
    · exact refl s
  · exact refl s
  · exact refl s

theorem placeOut (p : Port) (pkt : OutPacket) (s : State) : Confined s (placeOut p pkt s) := by
  unfold Machine.placeOut
  split
  · exact modPort fun v => ⟨_, _, _, rfl, rfl, rfl, fun _ h _ => List.mem_append_left _ h⟩
  · exact refl s

theorem answerTo (d : Domain) (tag : Option (Fin 32)) (st : AnswerStatus) (data : List Byte) (s : State) :
    Confined s (answerTo d tag st data s) := by
  cases tag with
  | none => exact refl s
  | some t => exact placeOut _ _ s

theorem finishRequest (id : Nat) (s : State) : Confined s (finishRequest id s) := by
  unfold Machine.finishRequest
  split
  · exact refl s
  · split
    · dsimp only
      split
      · exact of_same (by rfl)
      · exact (of_same (by rfl)).trans (answerTo _ _ _ _ _)
    · exact refl s

theorem track {counted cuts : Prop} (h : Track counted cuts s t) : Confined s t := by
  cases h with
  | ends r c st => exact (vacate r c s).trans (endPiece _ _ _)
  | queues r c => exact (of_same (by rfl)).trans (modQueue r.target r.dom _ _)
  | finishes r => exact finishRequest _ _
  | meters m => exact of_same (by rfl)
  | flags v => exact of_same (by rfl)

theorem tracks {counted cuts : Prop} (h : Tracks counted cuts s t) : Confined s t := by
  induction h with
  | refl => exact refl s
  | tail _ g ih => exact ih.trans (track g)

/-- A request that is admitted, recorded or answered, leaves the rest alone (R31, R60). -/
theorem admitRequest (q : Arrival) (e : EntryCopy) (s : State) : Confined s (admitRequest q e s) := by
  unfold Machine.admitRequest
  split
  · dsimp only
    have hin := (of_same (s := s) (t := s.setRequests (s.requests ++ [admittedRecord s q e])) (by rfl)).trans
      (countIn (admittedRecord s q e).unit (admittedRecord s q e).pieces.length _)
    refine hin.trans ?_
    split
    · exact tracks (Tracks.joinMeter (counted := False) (cuts := False) _ _ False.elim)
    · generalize Machine.countIn _ _ _ = x
      generalize (admittedRecord s q e).pieces = l
      induction l generalizing x with
      | nil => exact refl x
      | cons c l ih => exact (modQueue _ _ _ x).trans (ih _)
  · exact answerTo _ _ _ _ s

end Confined

end Sys2Proof.Machine
end

section
/-! PROOFS. The settle delay ends in the grant, and the parked requests are decided again (R53, R94, R105, R107 to R109). -/

namespace Sys2Proof.Machine

open Sys2Proof

/-! ### What deciding again leaves (R53) -/

/-- `t` is `s` after requests were admitted, answered or denied: links, styles and fills stay, a unit changes in its count alone, and packets
to initiators wait as before, more behind them. -/
structure Decided (s t : State) : Prop where
  port : ∀ p, (t.ports.get p).link = (s.ports.get p).link ∧
    ∀ pkt ∈ (s.ports.get p).outbound, requestTags [pkt] = [] → pkt ∈ (t.ports.get p).outbound
  domain : ∀ d, (t.domains.get d).style = (s.domains.get d).style ∧ (t.domains.get d).fill = (s.domains.get d).fill
  unit : ∀ u, ∃ k, t.units.get u = { s.units.get u with inFlight := k }

namespace Decided

variable {s t x : State}

theorem refl (s : State) : Decided s s := ⟨fun _ => ⟨rfl, fun _ h _ => h⟩, fun _ => ⟨rfl, rfl⟩, fun _ => ⟨_, rfl⟩⟩

theorem trans (h : Decided s t) (g : Decided t x) : Decided s x := by
  refine ⟨fun p => ⟨(g.port p).1.trans (h.port p).1, fun pkt hp hr => (g.port p).2 pkt ((h.port p).2 pkt hp hr) hr⟩,
    fun d => ⟨(g.domain d).1.trans (h.domain d).1, (g.domain d).2.trans (h.domain d).2⟩, fun u => ?_⟩
  obtain ⟨_, e1⟩ := h.unit u
  obtain ⟨k, e2⟩ := g.unit u
  exact ⟨k, by rw [e2, e1]⟩

theorem foldl {α : Type} {f : State → α → State} (h : ∀ s x, Decided s (f s x)) (l : List α) (s : State) : Decided s (l.foldl f s) := by
  induction l generalizing s with
  | nil => exact refl s
  | cons x xs ih => exact (h s x).trans (ih _)

theorem of_confined (h : Confined s t) : Decided s t := by
  refine ⟨fun p => ?_, fun d => by rw [h.domains]; exact ⟨rfl, rfl⟩, h.unit⟩
  obtain ⟨_, _, _, e, -, -, ho⟩ := h.port p
  rw [e]
  exact ⟨rfl, ho⟩

theorem of_tells (h : Tells s t) : Decided s t := by
  refine ⟨fun p => ⟨h.link p, fun pkt hp _ => ?_⟩, fun d => ⟨h.style d, h.fill d⟩, fun u => ⟨_, by rw [h.units]⟩⟩
  obtain ⟨_, -, e⟩ := h.port p
  rw [e]
  exact List.mem_append_left _ hp

theorem redecideOne (u : Fin 8) (s : State) (k : Parked) : Decided s (redecideOne u s k) := by
  unfold Machine.redecideOne
  split
  · exact of_confined (Confined.admitRequest _ _ s)
  · exact of_tells (Tells.denyRequest _ _ _ _ _ s)
  · exact of_tells (Tells.denyRequest _ _ _ _ _ s)

end Decided

/-- The packet with which a READ or WRITE of tag `x` is denied (R33, R34). -/
def denialPacket (style : DomainStyle) (x : Fin 32) (data : List Byte) : OutPacket :=
  match style with
  | .refuse => .completion x .denied []
  | .mask => .completion x .ok data

/-- A denial places its COMPLETION at an UP port (R33, R34). -/
theorem withCustodyDenial_packet {style : DomainStyle} {q : Arrival} {e : EntryCopy} {u : Fin 8} {s : State} {x : Fin 32}
    (hx : q.tag = some x) (hup : (s.ports.get q.dom.port).link = .up) :
    denialPacket style x (if q.kind = .read then List.replicate q.len (s.domains.get q.dom).fill else []) ∈
      ((withCustodyDenial style q e u s).ports.get q.dom.port).outbound := by
  have hlate (st : AnswerStatus) (data : List Byte) :
      OutPacket.completion x st data ∈ ((withLateAnswer q st data s).ports.get q.dom.port).outbound := by
    unfold withLateAnswer
    rw [hx]
    dsimp only
    rw [if_pos hup]
    show _ ∈ ((s.ports.set q.dom.port _).get q.dom.port).outbound
    rw [PerPort.get_set_same]
    simp
  unfold withCustodyDenial
  refine ((Decided.of_tells (Tells.raiseFault _ _)).port _).2 _ ?_ (by cases style <;> rfl)
  cases style with
  | refuse => exact hlate .denied []
  | mask => exact hlate .ok _

theorem piecesOf_length {s : State} {q : Arrival} {e : EntryCopy} (st : PieceState) (h : 1 ≤ q.len) :
    (piecesOf s q e st).length = piecesThrough s q e := splitRequest_length _ _ _ h

/-- A unit that does not let a request in, or has no room for it, denies it when it decides again (R49, R53). -/
theorem redecideOne_denies {u : Fin 8} {k : Parked} {s : State}
    (h : ¬((s.units.get u).state.Admits k.req.dom ∧ (s.units.get u).inFlight + piecesThrough s k.req k.entry ≤ 1632)) :
    redecideOne u s k =
      withCustodyDenial ((s.units.get u).style.effective (s.domains.get k.req.dom).style) k.req k.entry u s := by
  rw [← denyCustody_eq]
  unfold redecideOne
  cases ha : (s.unit u).answer k.req.dom (piecesThrough s k.req k.entry) with
  | enter => exact absurd (CustodyUnit.answer_eq_enter ha) h
  | park => rfl
  | deny => rfl

theorem redecideOne_admits {u : Fin 8} {k : Parked} {s : State} (h : (s.units.get u).state.Admits k.req.dom)
    (hn : (s.units.get u).inFlight + piecesThrough s k.req k.entry ≤ 1632) : redecideOne u s k = admitRequest k.req k.entry s := by
  unfold redecideOne
  rw [show (s.unit u).answer k.req.dom (piecesThrough s k.req k.entry) = .enter from CustodyUnit.answer_enter h hn]

/-- A parked request that the state keeps out gets its denial, whatever is decided before and after it (R53). -/
theorem redecided_denial {u : Fin 8} {k : Parked} {l : List Parked} {s : State} {x : Fin 32} (hk : k ∈ l) (hx : k.req.tag = some x)
    (hno : ¬(s.units.get u).state.Admits k.req.dom) (hup : (s.ports.get k.req.dom.port).link = .up) :
    denialPacket ((s.units.get u).style.effective (s.domains.get k.req.dom).style) x
        (if k.req.kind = .read then List.replicate k.req.len (s.domains.get k.req.dom).fill else []) ∈
      ((l.foldl (redecideOne u) s).ports.get k.req.dom.port).outbound := by
  obtain ⟨before, after, rfl⟩ := List.append_of_mem hk
  rw [List.foldl_append, List.foldl_cons]
  have hbefore := Decided.foldl (Decided.redecideOne u) before s
  have hafter := Decided.foldl (Decided.redecideOne u) after (redecideOne u (before.foldl (redecideOne u) s) k)
  refine (hafter.port _).2 _ ?_ (by cases (s.units.get u).style.effective (s.domains.get k.req.dom).style <;> rfl)
  obtain ⟨n, hunit⟩ := hbefore.unit u
  rw [redecideOne_denies (fun h => hno (by rw [hunit] at h; exact h.1)), hunit, (hbefore.domain _).1, ← (hbefore.domain _).2]
  exact withCustodyDenial_packet hx (by rw [(hbefore.port _).1]; exact hup)

/-! ### The end of the handover (R107 to R109) -/

theorem Resting.admits_iff (a : Resting) (d : Domain) : a.admits d = true ↔ a = .opened ∨ a = .held d := by
  cases a with
  | opened => simp [Resting.admits]
  | held h => simp [Resting.admits, eq_comm]
  | failed => simp [Resting.admits]

/-- Each domain that one of two states admits and the other does not is told, APP first (R108). -/
theorem sendNotices_told (a b : Resting) (s : State) :
    let told := fun (d : Domain) (x : State) => if a.admits d = b.admits d then x else handCustodyNotice d x
    sendNotices a b s = told .rad (told .pay (told .app s)) := by
  intro told
  have hfold : sendNotices a b s = allDomains.foldl (fun x d => told d x) s := by
    unfold sendNotices
    rw [List.foldl_filter]
    congr 1
    funext x d
    simp only [told, bne_iff_ne, ne_eq, ite_not]
  rw [hfold]
  rfl

/-- A CUSTODY_NOTICE does not read the units. -/
theorem handCustodyNotice_setUnits (d : Domain) (v : Vector CustodyUnit 8) (s : State) :
    handCustodyNotice d (s.setUnits v) = (handCustodyNotice d s).setUnits v := by
  have hout (p : Port) (pkt : OutPacket) : placeOut p pkt (s.setUnits v) = (placeOut p pkt s).setUnits v := by
    unfold placeOut
    rw [show (s.setUnits v).isUp p = s.isUp p from rfl]
    split <;> rfl
  unfold handCustodyNotice
  rw [show ((s.setUnits v).init d).custodyNotice = (s.init d).custodyNotice from rfl, show (s.setUnits v).isUp d.port = s.isUp d.port from rfl,
    hout]
  cases (s.init d).custodyNotice with
  | empty => dsimp only; split <;> rfl
  | held => rfl
  | waiting => rfl

/-- The grant of a settle delay, with the domains told as the model's specification says it (R107, R108). -/
theorem sendNotices_granted (a : Resting) (g : Holding) (s : State) :
    let told := fun (d : Domain) (x : State) =>
      if (a = .opened ∨ a = .held d) ↔ (g = .opened ∨ g = .held d) then x else handCustodyNotice d x
    sendNotices a g.resting s = told .rad (told .pay (told .app s)) := by
  have hg (d : Domain) : g.resting.admits d = true ↔ g = .opened ∨ g = .held d := by
    rw [Resting.admits_iff]
    cases g <;> simp [Holding.resting]
  have hiff (d : Domain) : a.admits d = g.resting.admits d ↔ ((a = .opened ∨ a = .held d) ↔ (g = .opened ∨ g = .held d)) := by
    rw [← hg, ← Resting.admits_iff, Bool.eq_iff_iff]
  simp only [sendNotices_told, hiff]

/-- A settle delay that has not expired goes on (R105). -/
theorem settleExpiry_early {u : Fin 8} {g : Holding} {s : State} {e : Nat} (hs : (s.units.get u).state = .scrubbing g)
    (he : (s.units.get u).hand.settleTimer = some e) (hlt : s.gateTime < e) : exec (.settleExpiry u) s = .next s := by
  have htimer : settleTimerOf s u = some (g, e) := by
    unfold settleTimerOf
    rw [show (s.unit u).state = .scrubbing g from hs]
    dsimp only
    rw [show (s.unit u).hand.settleTimer = some e from he]
    rfl
  simp only [exec, execSettleExpiry, htimer, if_neg (Nat.not_le.mpr hlt)]

/-- The end of a handover clears the unit's working part, and keeps what waits for initiators (R94, R108, R109). -/
theorem handoverEnds_unit (u : Fin 8) (a b : Resting) (st : ReplyStatus) (result : List Byte) (s : State) :
    (handoverEnds u a b st result s).units =
      setAt s.units u { s.units.get u with pendingTake := none, hand := Handover.idle } := by
  unfold handoverEnds
  rw [(Tells.endCommand _ _ _ _).units, clearHandover, State.modUnit_units, (Tells.sendNotices a b s).units]

theorem handoverEnds_outbound {u : Fin 8} {a b : Resting} {st : ReplyStatus} {result : List Byte} {s : State} {p : Port} {pkt : OutPacket}
    (hr : requestTags [pkt] = []) (h : pkt ∈ (s.ports.get p).outbound) :
    pkt ∈ ((handoverEnds u a b st result s).ports.get p).outbound := by
  have htold := ((Decided.of_tells (Tells.sendNotices a b s)).port p).2 pkt h hr
  exact ((Decided.of_tells (Tells.endCommand (.custody u) st result (clearHandover u (sendNotices a b s)))).port p).2 pkt htold hr

/-- The grant with the parts that the statement names. -/
theorem grantUnit_ends (u : Fin 8) (g : Holding) (s : State) :
    grantUnit u g s = handoverEnds u (s.units.get u).hand.starting g.resting .ok
      [BitVec.ofNat 8 u.1, g.toState.byte, BitVec.ofNat 8 (s.units.get u).hand.cutCount,
        BitVec.ofNat 8 ((s.units.get u).hand.cutCount / 256), 0]
      (redecideParked u (granted u g s)) := by
  rw [grantUnit_eq]
  rfl

theorem granted_unit (u : Fin 8) (g : Holding) (s : State) : (granted u g s).units.get u =
    { s.units.get u with
      state := g.toState
      previous := if (s.units.get u).hand.op = some .giveBack then .opened else (s.units.get u).previous
      hand := { (s.units.get u).hand with settleTimer := none } } := setAt_get_same _ _ _

/-- The grant leaves the unit at rest in its target state (R94, R107). -/
theorem grantUnit_unit (u : Fin 8) (g : Holding) (s : State) : ∃ k, (grantUnit u g s).units.get u =
    { s.units.get u with
      state := g.toState
      previous := if (s.units.get u).hand.op = some .giveBack then .opened else (s.units.get u).previous
      inFlight := k, parked := [], pendingTake := none, hand := Handover.idle } := by
  have hdecide := Decided.foldl (Decided.redecideOne u) ((granted u g s).units.get u).parked
    ((granted u g s).modUnit u (fun v => { v with parked := [] }))
  obtain ⟨k, hk⟩ := hdecide.unit u
  refine ⟨k, ?_⟩
  rw [grantUnit_ends, handoverEnds_unit, setAt_get_same]
  rw [show (redecideParked u (granted u g s)).units.get u = _ from hk, State.modUnit_units, setAt_get_same, granted_unit]

/-! ### One parked request (R31, R49, R53, R58, R82, R83) -/

theorem withNew_withRecord {r : Request} {u : Fin 8} (h : r.unit = some u) (s : State) : withNew r s = withRecord r u s := by
  unfold withNew countIn
  rw [h]
  rfl

/-- A parked request that is let in without a meter is queued (R31, R61). -/
theorem admitRequest_queued {q : Arrival} {e : EntryCopy} {u : Fin 8} {s : State} (hu : e.unit = some u) (hm : e.meter = none)
    (hup : (s.ports.get e.target).link = .up) :
    let r := recordOf s q e .queued
    admitRequest q e s =
      { withRecord r u s with
        ports := s.ports.set r.target
          { s.ports.get r.target with
            arbiter := (s.ports.get r.target).arbiter.modQueue r.dom (fun l => l ++ r.pieces.map (fun c => ⟨r.id, c.num⟩)) } } := by
  intro r
  have hr : admittedRecord s q e = r := by
    simp only [admittedRecord, hm, r, recordOf, piecesOf]
    rfl
  have hfold := foldl_enqueuePiece r.target r.dom (r.pieces.map (fun c => (⟨r.id, c.num⟩ : PieceRef))) (withNew r s)
  rw [List.foldl_map] at hfold
  rw [admitRequest_up hup, hm, hr]
  refine hfold.trans ?_
  rw [withNew_withRecord hu]
  rfl

theorem admittedRecord_charging {q : Arrival} {e : EntryCopy} {m : Fin 16} {s : State} (hm : e.meter = some m) :
    admittedRecord s q e = recordOf s q e .charging := by
  simp only [admittedRecord, hm, recordOf, piecesOf]
  rfl

/-- Settles O46: the grant with what deciding again makes of each parked request. -/
theorem settleExpiryGrants : Obligations.SettleExpiryGrants := by
  refine ⟨fun u g e s hs he => ?_, fun u s => rfl, fun u k s hunit hlen hlen' => ?_⟩
  · intro v previous state told result granted'
    have hgranted : granted u g s = granted' := by
      cases g <;> rfl
    have hends (x : State) : handoverEnds u v.hand.starting g.resting .ok
        [BitVec.ofNat 8 u.1, g.toState.byte, BitVec.ofNat 8 v.hand.cutCount, BitVec.ofNat 8 (v.hand.cutCount / 256), 0] x =
        endCommand (.custody u) .ok result
          { told .rad (told .pay (told .app x)) with
            units := setAt (told .rad (told .pay (told .app x))).units u
              { (told .rad (told .pay (told .app x))).units.get u with pendingTake := none, hand := Handover.idle } } := by
      unfold handoverEnds
      rw [sendNotices_granted]
      cases g <;> rfl
    refine ⟨settleExpiry_early hs he, fun hle => ?_, fun hle hnone => ?_, fun hle => ?_⟩
    · intro s2
      rw [settleExpiry_grants hs he hle, grantUnit_ends, hgranted]
      exact congrArg _ (hends _)
    · have hempty : redecideParked u granted' = granted' :=
        redecideParked_empty ((congrArg CustodyUnit.parked (setAt_get_same _ _ _)).trans hnone)
      have htold (w : Vector CustodyUnit 8) (d : Domain) (x : State) : told d (x.setUnits w) = (told d x).setUnits w := by
        simp only [told]
        split
        · rfl
        · exact handCustodyNotice_setUnits d w x
      have hunits (d : Domain) (x : State) : (told d x).units = x.units := by
        simp only [told]
        split
        · rfl
        · exact (Tells.handCustodyNotice d x).units
      rw [settleExpiry_grants hs he hle, grantUnit_ends, hgranted, hempty]
      refine congrArg _ ((hends _).trans ?_)
      rw [hunits, hunits, hunits]
      refine congrArg (endCommand (.custody u) .ok result) ?_
      have hclear : setAt granted'.units u { granted'.units.get u with pendingTake := none, hand := Handover.idle } =
          setAt s.units u { v with state := state, previous := previous, pendingTake := none, hand := Handover.idle } := by
        simp only [granted', setAt_get_same, setAt_setAt]
      rw [hclear]
      have hset := (htold (setAt s.units u { v with state := state, previous := previous, pendingTake := none, hand := Handover.idle })
        .app granted')
      exact (congrArg (told .rad) ((congrArg (told .pay) hset).trans (htold _ .pay _))).trans (htold _ .rad _) |>.symm
    · obtain ⟨k, hk⟩ := grantUnit_unit u g s
      have hstate : g.toState = state := by cases g <;> rfl
      refine ⟨_, settleExpiry_grants hs he hle, by rw [hk]; exact hstate, by rw [hk], by rw [hk], by rw [hk], by rw [hk],
        fun k hk x hx hno hup => ?_⟩
      have hsame : (granted u g s).modUnit u (fun v => { v with parked := [] }) = s.modUnit u (fun w => { w with
          state := g.toState
          previous := if w.hand.op = some .giveBack then .opened else w.previous
          hand := { w.hand with settleTimer := none }, parked := [] }) := modUnit_modUnit _ _ _ _
      have hget : (s.modUnit u (fun w => { w with
          state := g.toState
          previous := if w.hand.op = some .giveBack then .opened else w.previous
          hand := { w.hand with settleTimer := none }, parked := [] })).units.get u = _ := setAt_get_same _ _ _
      have hdenied := redecided_denial (u := u) (k := k) (s := s.modUnit u (fun w => { w with
          state := g.toState
          previous := if w.hand.op = some .giveBack then .opened else w.previous
          hand := { w.hand with settleTimer := none }, parked := [] })) hk hx (by rw [hget]; exact hstate ▸ hno) hup
      rw [hget, style_effective] at hdenied
      have hall : redecideParked u (granted u g s) = v.parked.foldl (redecideOne u) (s.modUnit u (fun w => { w with
          state := g.toState
          previous := if w.hand.op = some .giveBack then .opened else w.previous
          hand := { w.hand with settleTimer := none }, parked := [] })) := by
        rw [← hsame]
        show ((granted u g s).units.get u).parked.foldl _ _ = _
        rw [granted_unit]
      rw [grantUnit_ends, hall]
      refine handoverEnds_outbound ?_ ?_
      · cases v.style <;> cases (s.domains.get k.req.dom).style <;> rfl
      · exact hdenied
  · intro v q n style
    have hn : n = piecesThrough s k.req k.entry := piecesOf_length .queued hlen
    have hstyle : style = v.style.effective (s.domains.get q.dom).style := (style_effective _ _).symm
    refine ⟨fun hno => ?_, fun hadm hroom => ?_⟩
    · rw [hstyle]
      exact redecideOne_denies (by rw [← hn]; exact hno)
    have hrun : redecideOne u s k = admitRequest q k.entry s := redecideOne_admits hadm (by rw [← hn]; exact hroom)
    refine ⟨fun hdown => ?_, fun hup => ⟨fun hm => ?_, fun m hm => ?_⟩⟩
    · rw [hrun, admitRequest_down hdown, answerTo_late]
    · rw [hrun]
      exact admitRequest_queued hunit hm hup
    · intro r list
      have hr : admittedRecord s q k.entry = r := admittedRecord_charging hm
      have hjoins : Joins m r s := hr ▸ joins_admitted hm hup
      have hjoin : redecideOne u s k = joinMeter m r (withNew r s) := by
        rw [hrun, admitRequest_metered hm hup, hr]
      rw [hjoin]
      have hnew : withNew r s = withRecord r u s := withNew_withRecord hunit s
      refine ⟨fun he => ?_, fun hne hl => ?_, fun hl hk ht => ?_, fun x before after hl hk hc hw hlist hx hxk hxt hafter => ?_⟩
      · rw [← hnew]
        exact joinMeter_head hjoins he
      · rw [hnew]
        exact joinMeter_behind (s := withRecord r u s) hne hl
      · exact joinMeter_fullPost hjoins hl hk ht
      · intro taken
        have hwaits := Waits.of_law hc hw
        have hxm : x.meter = some m := (hwaits.meter_of_listed hx (n := m) (by
          show x.id ∈ list
          rw [hlist]
          simp)).1
        refine ⟨fun hb => ?_, fun hb => ?_⟩
        · show _ = withRoomMade m x before after r.id (withRecord r u s)
          rw [← hnew]
          exact joinMeter_roomBehind hjoins hl hk (hc.lone hx) (hc.counted hx) hxk hxt hxm hlist (hwaits.nodup m) hafter hb
        · subst hb
          show Charges m (withRefill m (after ++ [r.id]) (withRoomMade m x [] after r.id (withRecord r u s))) _
          rw [← hnew]
          exact joinMeter_roomHead hjoins hl hk hc hw hx hxk hxt hxm hlist hafter

end Sys2Proof.Machine
end

section
/-! PROOFS. The pieces and requests that a port reset takes from a target port and from an initiator port (R12, R70, R76, R89). -/

namespace Sys2Proof.Machine

open Sys2Proof

/-! ### One request -/

/-- A record that a reset of its target reached: its pieces at the target resolved LINK_DOWN, its others removed (R70, R76). -/
def Request.downed (r : Request) : Request :=
  (r.endedBy PieceState.atTarget (.resolved .linkDown)).endedBy PieceState.unsent .removed

/-- A record whose initiator's port was reset: abandoned, its unsent pieces removed (R12). -/
def Request.deserted (r : Request) : Request := Request.endedBy { r with abandoned := true } PieceState.unsent .removed

theorem PieceState.atTarget_live {st : PieceState} (h : st.atTarget = true) : st.live = true := by
  revert h
  cases st <;> simp [PieceState.atTarget, PieceState.live]

theorem endedPieces_nums (f : PieceState → Bool) (st : PieceState) (l : List Piece) :
    (endedPieces f st l).map (fun c => c.num) = l.map (fun c => c.num) := by
  unfold endedPieces
  rw [List.map_map]
  refine List.map_congr_left fun c _ => ?_
  simp only [Function.comp_apply]
  split <;> rfl

theorem withoutPieces_state (r : Request) (gone : List Piece) (s : State) (hport : (s.ports.get r.target).without r gone = s.ports.get r.target) :
    withoutPieces r gone s = { s with units := (countOut r.unit gone.length s).units, meters := metersWithout r s.meters } := by
  rw [withoutPieces_eq, hport, PerPort.set_get]

/-- One request that a reset of its target reaches (R70, R76). -/
theorem linkDownRequest_lone {r : Request} {s : State} (h : Lone s r) (hr : r.Counted) :
    linkDownRequest s r.id =
      { s with
        requests := replaced r r.downed s.requests
        units := (linkDownRequest s r.id).units
        ports := s.ports.set r.target
          (leavePlaces r (r.pieces.filter (fun c => c.state.atTarget)) (s.ports.get r.target))
        meters := metersWithout r s.meters } := by
  let r1 := r.endedBy PieceState.atTarget (.resolved .linkDown)
  have hfirst := endPieces_lone (f := PieceState.atTarget) (st := .resolved .linkDown) h hr.1 (fun _ _ => PieceState.atTarget_live)
  have hlone : Lone (endPieces r.id PieceState.atTarget (.resolved .linkDown) s) r1 := h.replaced rfl (by rw [hfirst])
  have hnums : (r1.pieces.map (fun c => c.num)).Nodup := (endedPieces_nums _ _ _).symm ▸ hr.1
  have hgone : ∀ y ∈ r1.pieces.filter (fun c => c.state.unsent), y.state ≠ .queued ∧ y.state ≠ .granted := by
    intro y hy
    obtain ⟨hmem, -⟩ := List.mem_filter.mp hy
    obtain ⟨c, -, rfl⟩ := List.mem_map.mp hmem
    split
    · exact ⟨fun e => (nomatch e), fun e => (nomatch e)⟩
    · rename_i hc
      constructor <;> (intro e; exact hc (by rw [e]; rfl))
  have hsecond := removeUnsent_lone hlone hnums
  rw [withoutPieces_state _ _ _ (PortState.without_none _ _ hgone)] at hsecond
  have hall : linkDownRequest s r.id = removeUnsent r1.id (endPieces r.id PieceState.atTarget (.resolved .linkDown) s) := rfl
  have hreq : (endPieces r.id PieceState.atTarget (.resolved .linkDown) s).requests = replaced r r1 s.requests := by rw [hfirst]
  rw [hall, hsecond, hreq, replaced_replaced (r := r) (r1 := r1) rfl, hfirst]
  rfl

/-- One request of a reset initiator port (R12). -/
theorem abandonRequest_lone {r : Request} {s : State} (h : Lone s r) (hr : r.Counted) :
    abandonRequest s r.id =
      { s with
        requests := replaced r r.deserted s.requests
        units := (abandonRequest s r.id).units
        ports := s.ports.set r.target ((s.ports.get r.target).without r (r.pieces.filter (fun c => c.state.unsent)))
        meters := metersWithout r s.meters } := by
  let r1 : Request := { r with abandoned := true }
  have hfirst : s.modRequest r.id (fun q => { q with abandoned := true }) = { s with requests := replaced r r1 s.requests } :=
    h.modRequest _
  have hlone : Lone ({ s with requests := replaced r r1 s.requests } : State) r1 := h.replaced rfl rfl
  have hall : abandonRequest s r.id = removeUnsent r1.id { s with requests := replaced r r1 s.requests } := by
    unfold abandonRequest
    rw [hfirst]
  rw [hall, removeUnsent_lone hlone hr.1, replaced_replaced (r := r) (r1 := r1) rfl, withoutPieces_eq]
  rfl

/-! ### Several requests -/

theorem replaced_map {l : List Request} {ids : List Nat} {r : Request} {f : Request → Request} (hf : ∀ q, (f q).id = q.id)
    (hr : ∀ q ∈ l, q.id = r.id → q = r) (hn : r.id ∉ ids) :
    (replaced r (f r) l).map (fun q => if q.id ∈ ids then f q else q) = l.map (fun q => if q.id ∈ r.id :: ids then f q else q) := by
  unfold replaced
  rw [List.map_map]
  refine List.map_congr_left fun q hq => ?_
  simp only [Function.comp_apply]
  by_cases h : q.id = r.id
  · rw [if_pos h, if_neg (by rw [hf]; exact hn), if_pos (by rw [h]; exact List.mem_cons_self), hr q hq h]
  · rw [if_neg h]
    by_cases hm : q.id ∈ ids
    · rw [if_pos hm, if_pos (List.mem_cons_of_mem _ hm)]
    · rw [if_neg hm, if_neg fun e => (List.mem_cons.mp e).elim h hm]

/-- Requests leave one after another: the records change by `f`, each target port by `g`, each meter loses the request. -/
theorem foldl_leaves {op : State → Request → State} {f : Request → Request} {g : Request → PortState → PortState}
    (hf : ∀ q, (f q).id = q.id)
    (hop : ∀ (s : State) (r : Request), s.CountLaw → r ∈ s.requests → (op s r).CountLaw ∧
      op s r =
        { s with
          requests := replaced r (f r) s.requests
          units := (op s r).units
          ports := s.ports.set r.target (g r (s.ports.get r.target))
          meters := metersWithout r s.meters }) (l : List Request) :
    ∀ {s : State}, s.CountLaw → (∀ r ∈ l, r ∈ s.requests) → (l.map (fun r => r.id)).Nodup →
      (l.foldl op s).CountLaw ∧
      l.foldl op s =
        { s with
          requests := s.requests.map (fun q => if q.id ∈ l.map (fun r => r.id) then f q else q)
          units := (l.foldl op s).units
          ports := l.foldl (fun v r => v.set r.target (g r (v.get r.target))) s.ports
          meters := l.foldl (fun m r => metersWithout r m) s.meters } := by
  induction l with
  | nil =>
    intro s hs _ _
    refine ⟨hs, ?_⟩
    have hsame : s.requests.map (fun q => if q.id ∈ ([] : List Request).map (fun r => r.id) then f q else q) = s.requests :=
      (List.map_congr_left fun q _ => if_neg (by simp)).trans (List.map_id _)
    rw [hsame]
    rfl
  | cons r l ih =>
    intro s hs hl hn
    obtain ⟨hrl, hn⟩ := List.nodup_cons.mp hn
    have hr := hl r List.mem_cons_self
    obtain ⟨hcount, hone⟩ := hop s r hs hr
    have hreq : (op s r).requests = replaced r (f r) s.requests := by rw [hone]
    have hmem : ∀ q ∈ l, q ∈ (op s r).requests := fun q hq => by
      rw [hreq, mem_replaced hr]
      exact .inr ⟨hl q (List.mem_cons_of_mem _ hq), fun e => hrl (List.mem_map.mpr ⟨q, hq, e⟩)⟩
    obtain ⟨hdone, hall⟩ := ih hcount hmem hn
    refine ⟨hdone, ?_⟩
    have hports : (op s r).ports = s.ports.set r.target (g r (s.ports.get r.target)) := by rw [hone]
    have hmeters : (op s r).meters = metersWithout r s.meters := by rw [hone]
    have hlist := replaced_map (l := s.requests) hf (fun q hq => hs.eq_of_id hr hq) hrl
    rw [hreq, hports, hmeters, hlist] at hall
    have hrest (a : List Request) (b : Vector CustodyUnit 8) (c : PerPort PortState) (m : Vector Meter 16) :
        ({ op s r with requests := a, units := b, ports := c, meters := m } : State) =
          { s with requests := a, units := b, ports := c, meters := m } := by rw [hone]
    exact hall.trans (hrest _ _ _ _)

/-! ### The places and lists that requests leave -/

theorem withoutListed_withoutListed (f g : Nat → Bool) (v : Meter) :
    withoutListed g (withoutListed f v) = withoutListed (fun i => f i || g i) v := by
  unfold withoutListed
  cases hw : v.waiting with
  | nil => rfl
  | cons i rest =>
    cases hf : f i with
    | true =>
      simp only [List.filter_cons, hf, Bool.not_true, Bool.false_eq_true, if_false, Bool.true_or, if_true, List.filter_filter,
        Meter.mk.injEq, true_and]
      refine ⟨List.filter_congr fun j _ => by rw [Bool.not_or, Bool.and_comm], ?_⟩
      split
      · rfl
      · split <;> rfl
    | false =>
      simp only [List.filter_cons, hf, Bool.not_false, if_true, Bool.false_or, List.filter_filter, Meter.mk.injEq, true_and,
        Bool.false_eq_true, if_false]
      refine ⟨?_, trivial⟩
      have : rest.filter (fun a => !g a && !f a) = rest.filter (fun i => !(f i || g i)) :=
        List.filter_congr fun j _ => by rw [Bool.not_or, Bool.and_comm]
      rw [this]

theorem withoutListed_congr {f g : Nat → Bool} {v : Meter} (h : ∀ i ∈ v.waiting, f i = g i) : withoutListed f v = withoutListed g v := by
  unfold withoutListed
  rw [List.filter_congr fun i hi => by rw [h i hi]]
  cases hw : v.waiting with
  | nil => rfl
  | cons i rest => dsimp only; rw [h i (by rw [hw]; exact List.mem_cons_self)]

theorem withoutListed_false (v : Meter) : withoutListed (fun _ => false) v = v := by
  unfold withoutListed
  cases v with
  | mk rate depth credit last waiting release => cases waiting <;> simp

/-- The meters that requests leave. -/
theorem foldl_metersWithout (l : List Request) (m : Vector Meter 16) (n : Fin 16) :
    (l.foldl (fun m r => metersWithout r m) m).get n =
      withoutListed (fun i => l.any (fun r => decide (r.id = i ∧ r.meter = some n))) (m.get n) := by
  induction l generalizing m with
  | nil => exact (withoutListed_false _).symm
  | cons r l ih =>
    rw [List.foldl_cons, ih, metersWithout_get]
    by_cases hm : r.meter = some n
    · rw [if_pos hm, withoutListed_withoutListed]
      refine withoutListed_congr fun i _ => ?_
      simp [hm, eq_comm]
    · rw [if_neg hm]
      refine withoutListed_congr fun i _ => ?_
      simp [hm]

/-- The ports that requests leave, one port at a time. -/
theorem foldl_ports (g : Request → PortState → PortState) (l : List Request) (v : PerPort PortState) (q : Port) :
    (l.foldl (fun v r => v.set r.target (g r (v.get r.target))) v).get q =
      (l.filter (fun r => decide (r.target = q))).foldl (fun x r => g r x) (v.get q) := by
  induction l generalizing v with
  | nil => rfl
  | cons r l ih =>
    rw [List.foldl_cons, ih]
    by_cases h : r.target = q
    · rw [List.filter_cons_of_pos (by simpa using h), List.foldl_cons, h, PerPort.get_set_same]
    · rw [List.filter_cons_of_neg (by simpa using h), PerPort.get_set_other _ _ (Ne.symm h)]

theorem emptyPort_leavePlace (r : Request) (c : Piece) (v : PortState) : emptyPort (leavePlace r c v) = emptyPort v := by
  unfold leavePlace
  cases c.state with
  | queued =>
    unfold emptyPort
    simp only [(Confined.modQueue_turn _ _ _).1]
  | granted => cases c.ttag <;> rfl
  | sent => cases c.ttag <;> rfl
  | charging => rfl
  | resolved st => rfl
  | removed => rfl

theorem emptyPort_leavePlaces (r : Request) (l : List Piece) (v : PortState) : emptyPort (leavePlaces r l v) = emptyPort v := by
  induction l generalizing v with
  | nil => rfl
  | cons c l ih => exact (ih (leavePlace r c v)).trans (emptyPort_leavePlace r c v)

/-- A port that records of `l` have left with what is unsent of them. -/
def PortState.deserted (l : List Request) (v : PortState) : PortState :=
  l.foldl (fun x r => x.without r (r.pieces.filter (fun c => c.state.unsent))) v

section
variable {l : List Request} {v : PortState}

/-- A tag that a GRANTED piece of `l` holds. -/
def grantedIn (l : List Request) (t : Fin 16) : Bool := l.any (fun r => freedBy (r.pieces.filter (fun c => c.state.unsent)) t)

theorem PortState.deserted_tags (l : List Request) (v : PortState) (t : Fin 16) :
    (v.deserted l).tags.get t = if grantedIn l t then .free else v.tags.get t := by
  unfold PortState.deserted
  induction l generalizing v with
  | nil => rfl
  | cons r l ih =>
    rw [List.foldl_cons, ih]
    simp only [grantedIn, List.any_cons, PortState.without, Vector.get_ofFn]
    by_cases hf : freedBy (r.pieces.filter (fun c => c.state.unsent)) t = true
    · simp only [hf, Bool.true_or, if_true, ite_self]
    · simp only [Bool.eq_false_iff.mpr hf, Bool.false_or, Bool.false_eq_true, if_false]

theorem PortState.deserted_outbound (l : List Request) (v : PortState) :
    (v.deserted l).outbound = keptPackets (grantedIn l) v.outbound := by
  unfold PortState.deserted
  induction l generalizing v with
  | nil => exact (keptPackets_all (fun _ => rfl) _).symm
  | cons r l ih =>
    rw [List.foldl_cons, ih]
    exact keptPackets_keptPackets _ _ _

theorem Arbiter.queueOf_modQueue_same (x : Arbiter) (d : Domain) (f : List PieceRef → List PieceRef) :
    (x.modQueue d f).queueOf d = f (x.queueOf d) := by cases d <;> rfl

theorem Arbiter.queueOf_modQueue_other (x : Arbiter) {d d' : Domain} (h : d' ≠ d) (f : List PieceRef → List PieceRef) :
    (x.modQueue d f).queueOf d' = x.queueOf d' := by
  cases d <;> cases d' <;> simp_all [Arbiter.modQueue, Arbiter.queueOf]

/-- The queues that requests of one domain leave. -/
theorem PortState.deserted_queue {d : Domain} (l : List Request) (v : PortState) (hl : ∀ r ∈ l, r.dom = d) (d' : Domain) :
    (v.deserted l).arbiter.queueOf d' =
      if d' = d then (v.arbiter.queueOf d').filter (fun ref =>
        !l.any (fun r => queuedIn r (r.pieces.filter (fun c => c.state.unsent)) ref))
      else v.arbiter.queueOf d' := by
  unfold PortState.deserted
  induction l generalizing v with
  | nil => split <;> simp
  | cons r l ih =>
    have hr : r.dom = d := hl r List.mem_cons_self
    rw [List.foldl_cons, ih _ fun q hq => hl q (List.mem_cons_of_mem _ hq)]
    by_cases h : d' = d
    · subst h
      rw [if_pos rfl, if_pos rfl]
      simp only [PortState.without, ← hr, Arbiter.queueOf_modQueue_same, List.filter_filter, List.any_cons]
      refine List.filter_congr fun ref _ => ?_
      rw [Bool.not_or, Bool.and_comm]
    · rw [if_neg h, if_neg h]
      simp only [PortState.without, hr, Arbiter.queueOf_modQueue_other _ h]

/-- Nothing else of a port is left by requests that go. -/
theorem PortState.deserted_rest (l : List Request) (v : PortState) :
    v.deserted l = { v with
      tags := (v.deserted l).tags, outbound := (v.deserted l).outbound, arbiter := (v.deserted l).arbiter } ∧
    (v.deserted l).arbiter.turn = v.arbiter.turn ∧ (v.deserted l).arbiter.scrub = v.arbiter.scrub := by
  unfold PortState.deserted
  induction l generalizing v with
  | nil => exact ⟨rfl, rfl, rfl⟩
  | cons r l ih =>
    rw [List.foldl_cons]
    obtain ⟨h1, h2, h3⟩ := ih (v.without r (r.pieces.filter (fun c => c.state.unsent)))
    refine ⟨h1.trans rfl, h2.trans ?_, h3.trans ?_⟩
    · exact (Confined.modQueue_turn _ _ _).1
    · exact (Confined.modQueue_turn _ _ _).2

end

end Sys2Proof.Machine
end

section
/-! PROOFS. The state of a port reset before the meters go on: the port emptied, its requests ended and abandoned (R10 to R13, R76). -/

namespace Sys2Proof.Machine

open Sys2Proof

theorem PerPort.ext_get {α : Type} {v w : PerPort α} (h : ∀ p, v.get p = w.get p) : v = w := by
  cases v
  cases w
  have hP := h .P
  have hA := h .A
  have hM := h .M
  have hK := h .K
  have hC := h .C
  have hD := h .D
  have hS := h .S
  simp_all [PerPort.get]

/-! ### The target side (R76) -/

/-- The requests that a reset of `p` reaches. -/
def reachedBy (p : Port) (s : State) : List Request := s.requests.filter (fun r => r.reached p)

/-- Port `p` at its reset: in its new link state, its buffers, tags and queues empty (R10, R11, R62, R64). -/
def PortState.atReset (link : LinkState) (hold : Option Nat) (v : PortState) : PortState :=
  emptyPort { v with link := link, established := false, hold := hold }

/-- The state of a port reset once the requests toward the port have ended (R76). -/
def targetReset (p : Port) (link : LinkState) (hold : Option Nat) (s : State) : State :=
  (((reachedBy p s).map (fun r => r.id)).foldl linkDownRequest
    (s.modPort p (fun v => { v with link := link, established := false, hold := hold }))).modPort p emptyPort

/-- A record as a reset of `p` leaves it at the target. -/
def Request.downedAt (p : Port) (r : Request) : Request := if r.reached p then r.downed else r

/-- A request on the list of meter `n` that is one of `l`. -/
def listedOf (l : List Request) (n : Fin 16) (id : Nat) : Bool := l.any (fun r => decide (r.id = id ∧ r.meter = some n))

theorem Request.reached_target {p : Port} {r : Request} (h : r.reached p = true) : r.target = p := by
  unfold Request.reached at h
  exact of_decide_eq_true (Bool.and_eq_true_iff.mp h).1

section
variable {p : Port} {link : LinkState} {hold : Option Nat} {s : State}

theorem linkDownRequest_countLaw {s : State} (h : s.CountLaw) (id : Nat) : (linkDownRequest s id).CountLaw :=
  h.moves ((Moves.endPieces id _ rfl s).trans (Moves.removeUnsent _ _))

theorem targetReset_eq (h : s.CountLaw) : (targetReset p link hold s).CountLaw ∧
    targetReset p link hold s =
      { s with
        requests := s.requests.map (Request.downedAt p)
        units := (targetReset p link hold s).units
        ports := s.ports.set p ((s.ports.get p).atReset link hold)
        meters := (reachedBy p s).foldl (fun m r => metersWithout r m) s.meters } := by
  let s1 := s.modPort p (fun v => { v with link := link, established := false, hold := hold })
  have h1 : s1.CountLaw := State.CountLaw.congr (s := s) rfl (fun _ => rfl) h
  obtain ⟨hdone, hall⟩ := foldl_leaves (op := fun s r => linkDownRequest s r.id) (f := Request.downed)
    (g := fun r v => leavePlaces r (r.pieces.filter (fun c => c.state.atTarget)) v) (fun _ => rfl)
    (fun s r hs hr => ⟨linkDownRequest_countLaw hs r.id, linkDownRequest_lone (hs.lone hr) (hs.counted hr)⟩) (reachedBy p s) (s := s1) h1
    (fun r hr => (List.mem_filter.mp hr).1) (h.ids.sublist (List.filter_sublist.map _))
  rw [← List.foldl_map (f := fun r : Request => r.id)] at hdone hall
  refine ⟨State.CountLaw.congr (s := ((reachedBy p s).map (fun r => r.id)).foldl linkDownRequest s1) rfl (fun _ => rfl) hdone, ?_⟩
  have hreq : s1.requests.map (fun q => if q.id ∈ (reachedBy p s).map (fun r => r.id) then q.downed else q) =
      s.requests.map (Request.downedAt p) := by
    refine List.map_congr_left fun q hq => ?_
    have hiff : q.id ∈ (reachedBy p s).map (fun r => r.id) ↔ q.reached p = true := by
      refine ⟨fun hm => ?_, fun hm => List.mem_map.mpr ⟨q, List.mem_filter.mpr ⟨hq, hm⟩, rfl⟩⟩
      obtain ⟨r, hr, e⟩ := List.mem_map.mp hm
      obtain ⟨hr, hreach⟩ := List.mem_filter.mp hr
      rw [h.eq_of_id hr hq e.symm]
      exact hreach
    unfold Request.downedAt
    simp only [hiff]
  have hports : (((reachedBy p s).map (fun r => r.id)).foldl linkDownRequest s1).ports.set p
      (emptyPort ((((reachedBy p s).map (fun r => r.id)).foldl linkDownRequest s1).ports.get p)) =
      s.ports.set p ((s.ports.get p).atReset link hold) := by
    have hp : (((reachedBy p s).map (fun r => r.id)).foldl linkDownRequest s1).ports =
        (reachedBy p s).foldl (fun v r => v.set r.target
          (leavePlaces r (r.pieces.filter (fun c => c.state.atTarget)) (v.get r.target))) s1.ports := by rw [hall]
    rw [hp]
    have hempty (l : List Request) (v : PortState) :
        emptyPort (l.foldl (fun x r => leavePlaces r (r.pieces.filter (fun c => c.state.atTarget)) x) v) = emptyPort v := by
      induction l generalizing v with
      | nil => rfl
      | cons r l ih => exact (ih _).trans (emptyPort_leavePlaces _ _ _)
    refine PerPort.ext_get fun q => ?_
    by_cases hq : q = p
    · subst hq
      rw [PerPort.get_set_same, PerPort.get_set_same, foldl_ports, hempty]
      rw [show s1.ports.get q = _ from PerPort.get_set_same _ _ _]
      rfl
    · have hnone : (reachedBy p s).filter (fun r => decide (r.target = q)) = [] :=
        List.filter_eq_nil_iff.mpr fun r hr e =>
          hq ((of_decide_eq_true e).symm.trans (Request.reached_target (List.mem_filter.mp hr).2))
      rw [PerPort.get_set_other _ _ hq, PerPort.get_set_other _ _ hq, foldl_ports, hnone]
      exact PerPort.get_set_other _ _ hq
  have hmod : targetReset p link hold s =
      { ((reachedBy p s).map (fun r => r.id)).foldl linkDownRequest s1 with
        ports := (((reachedBy p s).map (fun r => r.id)).foldl linkDownRequest s1).ports.set p
          (emptyPort ((((reachedBy p s).map (fun r => r.id)).foldl linkDownRequest s1).ports.get p)) } := rfl
  rw [hmod, hports, ← hreq]
  rw [hreq] at hall ⊢
  have hrest (a : PerPort PortState) : ({ ((reachedBy p s).map (fun r => r.id)).foldl linkDownRequest s1 with ports := a } : State) =
      { s with
        requests := s.requests.map (Request.downedAt p)
        units := (((reachedBy p s).map (fun r => r.id)).foldl linkDownRequest s1).units
        ports := a
        meters := (reachedBy p s).foldl (fun m r => metersWithout r m) s.meters } := by
    rw [hall]
    rfl
  exact hrest _

end

/-! ### The initiator side (R12, R13, R157) -/

/-- The records that were taken on the port of `d`. -/
def ownOf (d : Domain) (s : State) : List Request := s.requests.filter (fun r => decide (r.dom = d))

/-- The requests of `d` abandoned. -/
def desertedBy (d : Domain) (s : State) : State := (requestsOf s d).foldl abandonRequest s

section
variable {d : Domain} {s : State}

theorem abandonRequest_countLaw {s : State} (h : s.CountLaw) (id : Nat) : (abandonRequest s id).CountLaw :=
  h.moves (Moves.abandonRequest s id)

theorem desertedBy_eq (h : s.CountLaw) : (desertedBy d s).CountLaw ∧
    desertedBy d s =
      { s with
        requests := s.requests.map (fun q => if q.dom = d then q.deserted else q)
        units := (desertedBy d s).units
        ports := (desertedBy d s).ports
        meters := (ownOf d s).foldl (fun m r => metersWithout r m) s.meters } ∧
    ∀ q : Port, (desertedBy d s).ports.get q =
      (s.ports.get q).deserted ((ownOf d s).filter (fun r => decide (r.target = q))) := by
  obtain ⟨hdone, hall⟩ := foldl_leaves (op := fun s r => abandonRequest s r.id) (f := Request.deserted)
    (g := fun r v => v.without r (r.pieces.filter (fun c => c.state.unsent))) (fun _ => rfl)
    (fun s r hs hr => ⟨abandonRequest_countLaw hs r.id, abandonRequest_lone (hs.lone hr) (hs.counted hr)⟩) (ownOf d s) h
    (fun r hr => (List.mem_filter.mp hr).1) (h.ids.sublist (List.filter_sublist.map _))
  rw [← List.foldl_map (f := fun r : Request => r.id)] at hdone hall
  have hreq : s.requests.map (fun q => if q.id ∈ (ownOf d s).map (fun r => r.id) then q.deserted else q) =
      s.requests.map (fun q => if q.dom = d then q.deserted else q) := by
    refine List.map_congr_left fun q hq => ?_
    have hiff : q.id ∈ (ownOf d s).map (fun r => r.id) ↔ q.dom = d := by
      refine ⟨fun hm => ?_, fun hm => List.mem_map.mpr ⟨q, List.mem_filter.mpr ⟨hq, decide_eq_true hm⟩, rfl⟩⟩
      obtain ⟨r, hr, e⟩ := List.mem_map.mp hm
      obtain ⟨hr, hd⟩ := List.mem_filter.mp hr
      rw [h.eq_of_id hr hq e.symm]
      exact of_decide_eq_true hd
    simp only [hiff]
  have hfold : desertedBy d s = ((ownOf d s).map (fun r => r.id)).foldl abandonRequest s := rfl
  rw [hreq, ← hfold] at hall
  have hports : (desertedBy d s).ports = (ownOf d s).foldl (fun v r => v.set r.target
      ((v.get r.target).without r (r.pieces.filter (fun c => c.state.unsent)))) s.ports := by rw [hall]
  refine ⟨hfold ▸ hdone, ?_, fun q => ?_⟩
  · rw [hports]
    exact hall
  · rw [hports, foldl_ports]
    rfl

/-- A command of P that is marked ends without a reply (R158). -/
theorem endCommand_marked {c : Carrier} {st : ReplyStatus} {res : List Byte} (h : ∀ x ∈ (s.inits.get .pay).commands, x.discard = true) :
    ∃ l, (∀ x ∈ l, x ∈ (s.inits.get .pay).commands) ∧ endCommand c st res s = s.modInit .pay (fun v => { v with commands := l }) := by
  have hself : s = s.modInit .pay (fun v => { v with commands := (s.inits.get .pay).commands }) := by
    unfold State.modInit
    dsimp only
    rw [show ({ s.inits.get .pay with commands := (s.inits.get .pay).commands } : InitState) = s.inits.get .pay from rfl, PerDomain.set_get]
  unfold endCommand
  cases hf : (s.init .pay).commands.find? (fun x => decide (x.carrier = some c)) with
  | none => exact ⟨_, fun _ hx => hx, hself⟩
  | some x =>
    have hx : x.discard = true := h x (List.mem_of_find?_eq_some hf)
    dsimp only
    rw [if_pos hx]
    exact ⟨(s.inits.get .pay).commands.filter (fun y => decide (y.carrier ≠ some c)), fun y hy => (List.mem_filter.mp hy).1, rfl⟩

theorem dropParked_rest (d : Domain) (s : State) : dropParked d s = { s with units := (dropParked d s).units } := by
  unfold dropParked
  generalize allUnits = l
  induction l generalizing s with
  | nil => rfl
  | cons u l ih => exact (ih _).trans (by rfl)

/-- What a reset of an initiator port leaves: of the initiator side as it clears it, the notice re-armed, the parked requests of the domain
gone, a validation aborted at P (R12, R13, R157). -/
theorem resetInitiator_rest (d : Domain) (s : State) :
    (∃ l, (∀ x ∈ l, x.discard = true) ∧
      resetInitiator d s =
        { desertedBy d s with
          units := (dropParked d (desertedBy d s)).units
          inits := s.inits.set d { emptyInit (s.inits.get d) with commands := l }
          supQ := (setArmed d true s).supQ
          ownQ := (setArmed d true s).ownQ
          commit := if d = .pay then none else s.commit }) := by
  have hconf : Confined s (desertedBy d s) := Confined.foldl (fun t id => (Confined.of_same (by rfl)).trans
    (Confined.tracks (Tracks.removeUnsent (counted := False) (cuts := False) id False.elim))) _ s
  have hmarked : ∀ x ∈ (emptyInit (s.inits.get d)).commands, x.discard = true := by
    intro x hx
    obtain ⟨y, -, rfl⟩ := List.mem_map.mp hx
    rfl
  have hbase : setArmed d true ((dropParked d (desertedBy d s)).modInit d emptyInit) =
      { desertedBy d s with
        units := (dropParked d (desertedBy d s)).units
        inits := s.inits.set d (emptyInit (s.inits.get d))
        supQ := (setArmed d true s).supQ
        ownQ := (setArmed d true s).ownQ } := by
    rw [dropParked_rest, hconf.rest]
    cases d <;> rfl
  have hcommit : (desertedBy d s).commit = s.commit := by rw [hconf.rest]
  have hrun : resetInitiator d s = if d = .pay then abortCommit (setArmed d true ((dropParked d (desertedBy d s)).modInit d emptyInit))
    else setArmed d true ((dropParked d (desertedBy d s)).modInit d emptyInit) := rfl
  rw [hrun, hbase]
  by_cases hd : d = .pay
  · subst hd
    rw [if_pos rfl, if_pos rfl]
    unfold abortCommit
    split
    · let b : State := State.setCommit none { desertedBy .pay s with
        units := (dropParked .pay (desertedBy .pay s)).units
        inits := s.inits.set .pay (emptyInit (s.inits.get .pay))
        supQ := (setArmed .pay true s).supQ
        ownQ := (setArmed .pay true s).ownQ }
      have hb : b.inits.get .pay = emptyInit (s.inits.get .pay) :=
        PerDomain.get_set_same s.inits .pay (emptyInit (s.inits.get .pay))
      obtain ⟨l, hl, e⟩ := endCommand_marked (c := .commit) (st := .aborted) (res := []) (s := b) (by rw [hb]; exact hmarked)
      refine ⟨l, fun x hx => hmarked x (hb ▸ hl x hx), ?_⟩
      refine e.trans ?_
      unfold State.modInit
      rw [hb]
      simp only [b, State.setCommit, PerDomain.set_set]
    · rename_i hnone
      refine ⟨_, hmarked, ?_⟩
      have hc : (desertedBy .pay s).commit = none := by simpa using hnone
      rw [show ({ emptyInit (s.inits.get .pay) with commands := (emptyInit (s.inits.get .pay)).commands } : InitState) =
        emptyInit (s.inits.get .pay) from rfl, ← hc]
  · rw [if_neg hd, if_neg hd]
    refine ⟨_, hmarked, ?_⟩
    rw [← hcommit]

end

end Sys2Proof.Machine
end

section
/-! PROOFS. What the tracker keeps while meters go on and requests end: a port that is not UP, records with nothing left to send, target
tags (R12, R56, R63, R76, R89). -/

namespace Sys2Proof.Machine

open Sys2Proof

section
variable {counted cuts : Prop} {s t : State} {p : Port}

/-! ### A port that was reset -/

theorem endPiece_ports (ref : PieceRef) (st : PieceState) (s : State) : (endPiece ref st s).ports = s.ports := by
  unfold endPiece
  split
  · rfl
  · split
    · unfold countOut
      split <;> rfl
    · rfl

theorem freeTag (i : Fin 16) : setAt (Vector.replicate 16 TagState.free) i .free = Vector.replicate 16 .free := by
  refine Vector.ext_get fun j => ?_
  rw [setAt_get]
  split
  · exact (replicate_get TagState.free j).symm
  · rfl

/-- Pieces that have not gone out leave nothing at an empty port. -/
theorem leavePlace_atReset (r : Request) {c : Piece} (hc : c.state ≠ .sent) (link : LinkState) (hold : Option Nat) (v : PortState) :
    leavePlace r c (v.atReset link hold) = v.atReset link hold := by
  unfold leavePlace
  cases hs : c.state with
  | sent => exact absurd hs hc
  | queued => cases r.dom <;> rfl
  | granted =>
    cases c.ttag with
    | none => rfl
    | some i =>
      have := freeTag i
      simp only [PortState.atReset, emptyPort, this]
      rfl
  | charging => rfl
  | resolved st => rfl
  | removed => rfl

/-- The tracker leaves a port that was reset as it is, while it is not UP. -/
theorem Track.atReset (h : Track counted False s t) {link : LinkState} {hold : Option Nat} {v : PortState} (hl : link ≠ .up)
    (hp : s.ports.get p = v.atReset link hold) : t.ports.get p = v.atReset link hold := by
  have hdown : (s.ports.get p).link ≠ .up := by rw [hp]; exact hl
  have hset (q : Port) (x : PortState) (hq : q = p → x = v.atReset link hold) : (s.ports.set q x).get p = v.atReset link hold := by
    rw [PerPort.get_set]
    split
    · rename_i e; exact hq e.symm
    · exact hp
  cases h with
  | ends r c st _ hcut _ =>
    rw [endPiece_ports, vacate_eq]
    refine hset _ _ fun e => ?_
    rw [e, hp]
    exact leavePlace_atReset r hcut link hold v
  | queues r c _ _ hup => exact hset _ _ fun e => absurd (e ▸ hup) hdown
  | finishes r hr h0 =>
    unfold finishRequest
    rw [hr]
    dsimp only
    rw [if_pos h0]
    split
    · exact hp
    · unfold answerTo placeOut
      cases r.tag with
      | none => exact hp
      | some x =>
        dsimp only
        split
        · rename_i hu
          refine hset _ _ fun e => absurd ?_ hdown
          rw [← e]
          exact (State.isUp_iff _ _).mp hu
        · exact hp
  | meters m => exact hp
  | flags f => exact hp

theorem Tracks.atReset (h : Tracks counted False s t) {link : LinkState} {hold : Option Nat} {v : PortState} (hl : link ≠ .up)
    (hp : s.ports.get p = v.atReset link hold) : t.ports.get p = v.atReset link hold :=
  h.keep (P := fun s => s.ports.get p = v.atReset link hold) (fun _ _ g hp => g.atReset hl hp) hp

/-! ### Where records come from -/

/-- What the tracker never changes of a record. -/
structure SameRequest (r q : Request) : Prop where
  id : q.id = r.id
  dom : q.dom = r.dom
  tag : q.tag = r.tag
  kind : q.kind = r.kind
  target : q.target = r.target
  unit : q.unit = r.unit
  meter : q.meter = r.meter
  abandoned : q.abandoned = r.abandoned

theorem SameRequest.refl (r : Request) : SameRequest r r := ⟨rfl, rfl, rfl, rfl, rfl, rfl, rfl, rfl⟩

theorem SameRequest.trans {r q x : Request} (h : SameRequest r q) (g : SameRequest q x) : SameRequest r x :=
  ⟨g.id.trans h.id, g.dom.trans h.dom, g.tag.trans h.tag, g.kind.trans h.kind, g.target.trans h.target, g.unit.trans h.unit,
    g.meter.trans h.meter, g.abandoned.trans h.abandoned⟩

/-- The records of `t` are records of `s`, changed or not. -/
def Origins (s t : State) : Prop := ∀ q ∈ t.requests, ∃ r ∈ s.requests, SameRequest r q

theorem Origins.refl (s : State) : Origins s s := fun q hq => ⟨q, hq, .refl q⟩

theorem Origins.trans {u : State} (h : Origins s t) (g : Origins t u) : Origins s u := fun q hq => by
  obtain ⟨r, hr, e⟩ := g q hq
  obtain ⟨x, hx, f⟩ := h r hr
  exact ⟨x, hx, f.trans e⟩

theorem Origins.of_modRequest {id : Nat} {f : Request → Request} (hf : ∀ r, SameRequest r (f r)) (s : State) :
    Origins s (s.modRequest id f) := fun q hq => by
  obtain ⟨r, hr, rfl⟩ := List.mem_map.mp hq
  refine ⟨r, hr, ?_⟩
  split
  · exact hf r
  · exact .refl r

theorem Origins.endPiece (ref : PieceRef) (st : PieceState) (s : State) : Origins s (endPiece ref st s) := by
  unfold Machine.endPiece
  split
  · exact .refl s
  · split
    · intro q hq
      rw [countOut_requests] at hq
      exact of_modRequest (fun r => by constructor <;> rfl) s q hq
    · exact .refl s

theorem finishRequest_requests (id : Nat) (s : State) :
    (finishRequest id s).requests = s.requests ∨ (finishRequest id s).requests = s.requests.filter (fun x => decide (x.id ≠ id)) := by
  unfold finishRequest
  split
  · exact .inl rfl
  · split
    · right
      dsimp only
      split
      · rfl
      · rw [(Tells.answerTo _ _ _ _ _).requests]
        rfl
    · exact .inl rfl

theorem Origins.finishRequest (id : Nat) (s : State) : Origins s (finishRequest id s) := fun q hq => by
  rcases finishRequest_requests id s with e | e <;> rw [e] at hq
  · exact ⟨q, hq, .refl q⟩
  · exact ⟨q, (List.mem_filter.mp hq).1, .refl q⟩

theorem vacate_requests (r : Request) (c : Piece) (s : State) : (vacate r c s).requests = s.requests := by rw [vacate_eq]

theorem Track.origins (h : Track counted cuts s t) : Origins s t := by
  cases h with
  | ends r c st =>
    intro q hq
    obtain ⟨x, hx, e⟩ := Origins.endPiece _ _ _ q hq
    rw [vacate_requests] at hx
    exact ⟨x, hx, e⟩
  | queues r c => exact Origins.of_modRequest (fun r => by constructor <;> rfl) s
  | finishes r => exact Origins.finishRequest _ _
  | meters m => exact .refl s
  | flags f => exact .refl s

theorem Tracks.origins (h : Tracks counted cuts s t) : Origins s t := by
  induction h with
  | refl => exact .refl s
  | tail _ g ih => exact ih.trans g.origins

/-! ### Where live pieces come from, where the accounts hold -/

/-- A live piece `y` of `q` was a piece of `r`, as it is or CHARGING and queued since (R84). -/
def PieceFrom (up : Port → Prop) (r : Request) (y : Piece) : Prop :=
  ∃ c ∈ r.pieces, y = c ∨ (c.state = .charging ∧ y = { c with state := .queued } ∧ up r.target)

/-- The live pieces of `t` are pieces of `s`. -/
def PiecesFrom (s t : State) : Prop :=
  ∀ q ∈ t.requests, ∃ r ∈ s.requests, SameRequest r q ∧ ∀ y ∈ q.pieces, y.state.live = true → PieceFrom s.ups r y

theorem PiecesFrom.refl (s : State) : PiecesFrom s s := fun q hq => ⟨q, hq, .refl q, fun y hy _ => ⟨y, hy, .inl rfl⟩⟩

theorem PiecesFrom.trans {u : State} (h : PiecesFrom s t) (g : PiecesFrom t u) (hups : t.ups = s.ups) : PiecesFrom s u := fun q hq => by
  obtain ⟨r, hr, e, hy⟩ := g q hq
  obtain ⟨x, hx, f, hz⟩ := h r hr
  refine ⟨x, hx, f.trans e, fun y hyq hl => ?_⟩
  obtain ⟨c, hc, rfl | ⟨hcs, rfl, hup⟩⟩ := hy y hyq hl
  · exact hz y hc hl
  · obtain ⟨b, hb, rfl | ⟨hbs, rfl, -⟩⟩ := hz c hc (by rw [hcs]; rfl)
    · refine ⟨c, hb, .inr ⟨hcs, rfl, ?_⟩⟩
      rw [hups, f.target] at hup
      exact hup
    · exact absurd hcs (by simp)

theorem Confined.ups (h : Confined s t) : t.ups = s.ups := by
  funext p
  unfold State.ups
  rw [h.link]

/-- A record changed in one piece. -/
theorem PiecesFrom.of_replaced {r r' : Request} (hr : r ∈ s.requests) (ht : ∀ q ∈ t.requests, q = r' ∨ q ∈ s.requests)
    (h : SameRequest r r') (hp : ∀ y ∈ r'.pieces, y.state.live = true → PieceFrom s.ups r y) : PiecesFrom s t := fun q hq => by
  rcases ht q hq with rfl | hq
  · exact ⟨r, hr, h, hp⟩
  · exact ⟨q, hq, .refl q, fun y hy _ => ⟨y, hy, .inl rfl⟩⟩

theorem Track.piecesFrom (h : Track True cuts s t) (hs : s.CountLaw) : PiecesFrom s t := by
  cases h with
  | ends r c st hst _ hlive =>
    obtain ⟨q, hq, hid, -, -, hc, hl⟩ := hlive trivial
    rw [← hid, endPiece_vacate (hs.lone hq) ((hs.counted hq).lonePiece hc) hl]
    refine .of_replaced (r' := q.ended c st) hq (fun x hx => ?_) ⟨rfl, rfl, rfl, rfl, rfl, rfl, rfl, rfl⟩ fun y hy hly => ?_
    · exact ((mem_replaced hq).mp hx).imp id fun h => h.1
    · obtain ⟨b, hb, rfl⟩ := List.mem_map.mp hy
      split at hly
      · rw [hst] at hly; cases hly
      · rw [if_neg ‹_›]
        exact ⟨b, hb, .inl rfl⟩
  | queues r c hf hc hup =>
    obtain ⟨hr, -, hcm, -⟩ := piece_some hf
    rw [setPiece_lone (hs.lone hr) ((hs.counted hr).lonePiece hcm)]
    refine .of_replaced (r' := { r with pieces := replacedPiece c { c with state := .queued } r.pieces }) hr (fun x hx => ?_)
      ⟨rfl, rfl, rfl, rfl, rfl, rfl, rfl, rfl⟩ fun y hy hly => ?_
    · exact ((mem_replaced hr).mp hx).imp id fun h => h.1
    · obtain ⟨b, hb, rfl⟩ := List.mem_map.mp hy
      split
      · exact ⟨c, hcm, .inr ⟨hc, rfl, hup⟩⟩
      · exact ⟨b, hb, .inl rfl⟩
  | finishes r =>
    intro q hq
    rcases finishRequest_requests r.id s with e | e <;> rw [e] at hq
    · exact PiecesFrom.refl s q hq
    · exact PiecesFrom.refl s q (List.mem_filter.mp hq).1
  | meters m => exact .refl s
  | flags f => exact .refl s

theorem Tracks.piecesFrom (h : Tracks True cuts s t) (hs : s.CountLaw) : PiecesFrom s t ∧ t.CountLaw := by
  induction h with
  | refl => exact ⟨.refl s, hs⟩
  | tail m g ih =>
    obtain ⟨hp, hc⟩ := ih
    exact ⟨hp.trans (g.piecesFrom hc) (Confined.tracks m).ups, g.countLaw hc⟩

/-! ### Records with nothing left to send -/

/-- Nothing of the record waits to go out. -/
def Request.Idle (r : Request) : Prop := ∀ c ∈ r.pieces, c.state.live = true → c.state = .sent

/-- The COMPLETION with which an ended record is answered (R71, R72). -/
def Request.completionFor (r : Request) (x : Fin 32) : OutPacket :=
  .completion x r.worst.answer (if r.kind = .read ∧ r.worst = .ok then r.readData else [])

/-- The record has ended: it is released, and it was answered where its initiator's port is UP (R56, R71). -/
def Request.Over (r : Request) (t : State) : Prop :=
  (∀ q ∈ t.requests, q.id ≠ r.id) ∧
    ∀ x, r.tag = some x → r.abandoned = false → (t.ports.get r.dom.port).link = .up →
      r.completionFor x ∈ (t.ports.get r.dom.port).outbound

theorem Request.Over.confined {r : Request} (h : r.Over s) (ho : Origins s t) (hc : Confined s t) : r.Over t := by
  refine ⟨fun q hq e => ?_, fun x hx ha hup => ?_⟩
  · obtain ⟨y, hy, same⟩ := ho q hq
    exact h.1 y hy (same.id ▸ e)
  · rw [hc.link] at hup
    obtain ⟨_, _, _, e, -, -, hout⟩ := hc.port r.dom.port
    rw [e]
    exact hout _ (h.2 x hx ha hup) rfl

theorem Track.over {r : Request} (h : Track counted cuts s t) (ho : r.Over s) : r.Over t := ho.confined h.origins (Confined.track h)

/-- A request with nothing outstanding ends, answered where its initiator's port is UP. -/
theorem finishRequest_over {r : Request} (h : Lone s r) (h0 : r.outstanding = 0) : r.Over (finishRequest r.id s) := by
  have hreq (x : State) (hx : x.requests = s.requests.filter (fun q => decide (q.id ≠ r.id))) : ∀ q ∈ x.requests, q.id ≠ r.id := by
    intro q hq
    rw [hx] at hq
    exact of_decide_eq_true (List.mem_filter.mp hq).2
  unfold finishRequest
  rw [h.request]
  dsimp only
  rw [if_pos h0]
  split
  · rename_i ha
    exact ⟨hreq _ rfl, fun x hx hab => absurd ha (by simp [hab])⟩
  · refine ⟨hreq _ (Tells.answerTo _ _ _ _ _).requests, fun x hx _ hup => ?_⟩
    rw [(Tells.answerTo _ _ _ _ _).link] at hup
    rw [hx]
    unfold answerTo placeOut
    dsimp only
    rw [if_pos ((State.isUp_iff _ _).mpr hup)]
    show _ ∈ ((s.ports.set r.dom.port _).get r.dom.port).outbound
    rw [PerPort.get_set_same]
    exact List.mem_append_right _ List.mem_cons_self

/-- The tracker leaves a record with nothing left to send alone, or it ends. -/
theorem Track.idle {q : Request} (h : Track True False s t) (hs : s.CountLaw) (hq : q ∈ s.requests) (hi : q.Idle) :
    q ∈ t.requests ∨ (q.outstanding = 0 ∧ q.Over t) := by
  cases h with
  | ends r c st _ hcut hlive =>
    obtain ⟨x, hx, hid, -, -, hc, hl⟩ := hlive trivial
    left
    rw [← hid, endPiece_vacate (hs.lone hx) ((hs.counted hx).lonePiece hc) hl, mem_replaced hx]
    refine .inr ⟨hq, fun e => hcut ?_⟩
    rw [hs.eq_of_id hq hx e.symm] at hc
    exact hi c hc hl
  | queues r c hf hc hup =>
    obtain ⟨hr, -, hcm, -⟩ := piece_some hf
    left
    show q ∈ (setPiece ⟨r.id, c.num⟩ (fun y => { y with state := .queued }) s).requests
    rw [setPiece_lone (hs.lone hr) ((hs.counted hr).lonePiece hcm), mem_replaced hr]
    refine .inr ⟨hq, fun e => ?_⟩
    rw [hs.eq_of_id hq hr e.symm] at hcm
    have := hi c hcm (by rw [hc]; rfl)
    rw [hc] at this
    cases this
  | finishes r hr h0 =>
    obtain ⟨hmem, -⟩ := request_some hr
    by_cases e : r.id = q.id
    · obtain rfl := hs.eq_of_id hq hmem e
      exact .inr ⟨h0, finishRequest_over (hs.lone hq) h0⟩
    · left
      rcases finishRequest_requests r.id s with e' | e' <;> rw [e']
      · exact hq
      · exact List.mem_filter.mpr ⟨hq, decide_eq_true (Ne.symm e)⟩
  | meters m => exact .inl hq
  | flags f => exact .inl hq

theorem Tracks.idle {q : Request} (h : Tracks True False s t) (hs : s.CountLaw) (hq : q ∈ s.requests) (hi : q.Idle) :
    q ∈ t.requests ∨ (q.outstanding = 0 ∧ q.Over t) := by
  induction h with
  | refl => exact .inl hq
  | tail m g ih =>
    rcases ih with hmem | ⟨h0, ho⟩
    · exact g.idle (Tracks.countLaw m (fun _ => hs) trivial) hmem hi
    · exact .inr ⟨h0, g.over ho⟩

/-- Requests that are looked at one after another: one of them with nothing outstanding has ended after it. -/
theorem foldl_finishRequest_over {q : Request} (h0 : q.outstanding = 0) (l : List Nat) (hl : q.id ∈ l) :
    ∀ {s : State}, s.CountLaw → (q ∈ s.requests ∨ q.Over s) → q.Over (l.foldl (fun t id => finishRequest id t) s) := by
  have hrest (l : List Nat) (s : State) (ho : q.Over s) : q.Over (l.foldl (fun t id => finishRequest id t) s) := by
    induction l generalizing s with
    | nil => exact ho
    | cons id l ih => exact ih _ (ho.confined (Origins.finishRequest id s) (Confined.finishRequest id s))
  induction l with
  | nil => cases hl
  | cons id l ih =>
    intro s hs hq
    rw [List.foldl_cons]
    rcases hq with hq | ho
    · by_cases e : q.id = id
      · subst e
        exact hrest l _ (finishRequest_over (hs.lone hq) h0)
      · refine ih ((List.mem_cons.mp hl).resolve_left e) (hs.moves (Moves.finishRequest id s)) (.inl ?_)
        rcases finishRequest_requests id s with e' | e' <;> rw [e']
        · exact hq
        · exact List.mem_filter.mpr ⟨hq, decide_eq_true e⟩
    · exact hrest l _ (ho.confined (Origins.finishRequest id s) (Confined.finishRequest id s))

/-! ### Target tags -/

/-- The port that the tracker leaves: no tag but of pieces that leave becomes FREE, none else changes, and no piece is placed. -/
theorem Track.tag_free {x : Fin 16} (h : Track counted False s t) (hf : (s.ports.get p).tags.get x = .free)
    (ho : x ∉ requestTags (s.ports.get p).outbound) :
    (t.ports.get p).tags.get x = .free ∧ x ∉ requestTags (t.ports.get p).outbound := by
  cases h with
  | ends r c st _ hcut _ =>
    rw [endPiece_ports, vacate_eq]
    dsimp only
    rw [PerPort.get_set]
    split
    · rename_i e
      subst e
      unfold leavePlace
      cases hs : c.state with
      | sent => exact (hcut hs).elim
      | granted =>
        cases c.ttag with
        | none => exact ⟨hf, ho⟩
        | some i =>
          refine ⟨?_, fun hm => ho ?_⟩
          · dsimp only
            rw [setAt_get]
            split
            · rfl
            · exact hf
          · unfold requestTags at hm ⊢
            obtain ⟨pkt, hpkt, e⟩ := List.mem_filterMap.mp hm
            exact List.mem_filterMap.mpr ⟨pkt, (List.mem_filter.mp hpkt).1, e⟩
      | queued => exact ⟨hf, ho⟩
      | charging => exact ⟨hf, ho⟩
      | resolved st => exact ⟨hf, ho⟩
      | removed => exact ⟨hf, ho⟩
    · exact ⟨hf, ho⟩
  | queues r c _ _ hup =>
    show (((s.ports.set r.target _).get p).tags.get x = .free ∧ x ∉ requestTags ((s.ports.set r.target _).get p).outbound)
    rw [PerPort.get_set]
    split
    · rename_i e; subst e; exact ⟨hf, ho⟩
    · exact ⟨hf, ho⟩
  | finishes r hr h0 =>
    have htells : Tells (s.setRequests (finishRequest r.id s).requests) (finishRequest r.id s) := by
      unfold finishRequest
      rw [hr]
      dsimp only
      rw [if_pos h0]
      split
      · exact Tells.refl _
      · have := Tells.answerTo r.dom r.tag r.worst.answer (if r.kind = .read ∧ r.worst = .ok then r.readData else [])
          (s.setRequests (s.requests.filter (fun x => decide (x.id ≠ r.id))))
        rw [this.requests]
        exact this
    obtain ⟨more, hm, e⟩ := htells.port p
    rw [e]
    refine ⟨hf, fun hx => ho ?_⟩
    unfold requestTags at hx hm ⊢
    rw [List.filterMap_append, hm, List.append_nil] at hx
    exact hx
  | meters m => exact ⟨hf, ho⟩
  | flags f => exact ⟨hf, ho⟩

/-- No piece toward `p` is GRANTED under tag `x`. -/
def NoGrant (p : Port) (x : Fin 16) (s : State) : Prop :=
  ∀ r ∈ s.requests, r.target = p → ∀ c ∈ r.pieces, c.state = .granted → c.ttag ≠ some x

theorem NoGrant.piecesFrom {x : Fin 16} (h : NoGrant p x s) (hp : PiecesFrom s t) : NoGrant p x t := by
  intro q hq ht y hy hg
  obtain ⟨r, hr, e, hfrom⟩ := hp q hq
  obtain ⟨c, hc, rfl | ⟨-, rfl, -⟩⟩ := hfrom y hy (by rw [hg]; rfl)
  · exact h r hr (e.target ▸ ht) y hc hg
  · cases hg

/-- The tracker changes no tag but of GRANTED pieces. -/
theorem Track.tag_kept {x : Fin 16} (h : Track True False s t) (hno : NoGrant p x s) :
    (t.ports.get p).tags.get x = (s.ports.get p).tags.get x := by
  cases h with
  | ends r c st _ hcut hlive =>
    obtain ⟨q, hq, -, ht, -, hc, -⟩ := hlive trivial
    rw [endPiece_ports, vacate_eq]
    dsimp only
    rw [PerPort.get_set]
    split
    · rename_i e
      subst e
      unfold leavePlace
      cases hs : c.state with
      | sent => exact (hcut hs).elim
      | granted =>
        cases hi : c.ttag with
        | none => rfl
        | some i =>
          have hne : x ≠ i := fun e => hno q hq ht c hc hs (e ▸ hi)
          exact setAt_get_other _ _ hne
      | queued => rfl
      | charging => rfl
      | resolved st => rfl
      | removed => rfl
    · rfl
  | queues r c _ _ hup =>
    show ((s.ports.set r.target _).get p).tags.get x = _
    rw [PerPort.get_set]
    split
    · rename_i e; subst e; rfl
    · rfl
  | finishes r hr h0 =>
    unfold finishRequest
    rw [hr]
    dsimp only
    rw [if_pos h0]
    split
    · rfl
    · obtain ⟨more, -, e⟩ := (Tells.answerTo r.dom r.tag r.worst.answer (if r.kind = .read ∧ r.worst = .ok then r.readData else [])
          (s.setRequests (s.requests.filter (fun x => decide (x.id ≠ r.id))))).port p
      rw [e]
      rfl
  | meters m => rfl
  | flags f => rfl

theorem Tracks.tag_kept {x : Fin 16} (h : Tracks True False s t) (hs : s.CountLaw) (hno : NoGrant p x s) :
    (t.ports.get p).tags.get x = (s.ports.get p).tags.get x := by
  induction h with
  | refl => rfl
  | tail m g ih => exact (g.tag_kept (hno.piecesFrom (Tracks.piecesFrom m hs).1)).trans ih

theorem Tracks.tag_free {x : Fin 16} (h : Tracks counted False s t) (hf : (s.ports.get p).tags.get x = .free)
    (ho : x ∉ requestTags (s.ports.get p).outbound) :
    (t.ports.get p).tags.get x = .free ∧ x ∉ requestTags (t.ports.get p).outbound :=
  h.keep (P := fun s => (s.ports.get p).tags.get x = .free ∧ x ∉ requestTags (s.ports.get p).outbound)
    (fun _ _ g hp => g.tag_free hp.1 hp.2) ⟨hf, ho⟩

/-! ### Queues and lists that stay empty of a request -/

/-- Pieces of a domain that has none CHARGING do not join a queue. -/
theorem Track.queue_empty {d : Domain} (h : Track counted cuts s t) (hs : ∀ r ∈ s.requests, r.dom = d → ∀ c ∈ r.pieces, c.state ≠ .charging)
    (hq : ∀ q : Port, (s.ports.get q).arbiter.queueOf d = []) (q : Port) : (t.ports.get q).arbiter.queueOf d = [] := by
  cases h with
  | ends r c st =>
    rw [endPiece_ports, vacate_eq]
    dsimp only
    rw [PerPort.get_set]
    split
    · rename_i e
      subst e
      unfold leavePlace
      cases c.state with
      | queued =>
        dsimp only
        by_cases hd : d = r.dom
        · subst hd
          rw [Arbiter.queueOf_modQueue_same, hq]
          rfl
        · rw [Arbiter.queueOf_modQueue_other _ hd, hq]
      | granted => cases c.ttag <;> exact hq _
      | sent => cases c.ttag <;> exact hq _
      | charging => exact hq _
      | resolved st => exact hq _
      | removed => exact hq _
    · exact hq q
  | queues r c hf hc _ =>
    obtain ⟨hr, -, hcm, -⟩ := piece_some hf
    show ((s.ports.set r.target _).get q).arbiter.queueOf d = []
    rw [PerPort.get_set]
    split
    · rename_i e
      subst e
      have hd : d ≠ r.dom := fun e => hs r hr e.symm c hcm hc
      exact (Arbiter.queueOf_modQueue_other _ hd _).trans (hq _)
    · exact hq q
  | finishes r hr h0 =>
    unfold finishRequest
    rw [hr]
    dsimp only
    rw [if_pos h0]
    split
    · exact hq q
    · obtain ⟨more, -, e⟩ := (Tells.answerTo r.dom r.tag r.worst.answer (if r.kind = .read ∧ r.worst = .ok then r.readData else [])
          (s.setRequests (s.requests.filter (fun x => decide (x.id ≠ r.id))))).port q
      rw [e]
      exact hq q
  | meters m => exact hq q
  | flags f => exact hq q

/-- Every list of `t` holds requests of the same list of `s`. -/
def Shrinks (s t : State) : Prop := ∀ n : Fin 16, (t.meters.get n).waiting ⊆ (s.meters.get n).waiting

theorem Shrinks.of_eq (h : t.meters = s.meters) : Shrinks s t := fun n => by rw [h]; exact List.Subset.refl _

theorem Shrinks.trans {u : State} (h : Shrinks s t) (g : Shrinks t u) : Shrinks s u := fun n => List.Subset.trans (g n) (h n)

theorem Shrinks.modMeter {n : Fin 16} {f : Meter → Meter} (h : ∀ v, (f v).waiting ⊆ v.waiting) (s : State) : Shrinks s (s.modMeter n f) := by
  intro m
  show ((setAt s.meters n _).get m).waiting ⊆ _
  rw [setAt_get]
  split
  · rename_i e; rw [e]; exact h _
  · exact List.Subset.refl _

theorem Shrinks.setFlag (d : Domain) (f : Flag) (s : State) : Shrinks s (setFlag d f s) := .of_eq rfl

theorem endPiece_meters (ref : PieceRef) (st : PieceState) (s : State) : (endPiece ref st s).meters = s.meters := by
  unfold endPiece
  split
  · rfl
  · split
    · unfold countOut
      split <;> rfl
    · rfl

theorem finishRequest_meters (id : Nat) (s : State) : (finishRequest id s).meters = s.meters := by
  unfold finishRequest
  split
  · rfl
  · split
    · dsimp only
      split
      · rfl
      · exact (Tells.answerTo _ _ _ _ _).meters
    · rfl

theorem endPieces_meters (id : Nat) (f : PieceState → Bool) (st : PieceState) (s : State) : (endPieces id f st s).meters = s.meters := by
  unfold endPieces
  split
  · rfl
  · rename_i r _
    have hfold (l : List Piece) (x : State) :
        (l.foldl (fun t c => endPiece ⟨id, c.num⟩ st (vacate r c t)) x).meters = x.meters := by
      induction l generalizing x with
      | nil => rfl
      | cons c l ih => rw [List.foldl_cons, ih, endPiece_meters, vacate_eq]
    exact hfold _ s

theorem Shrinks.removeUnsent (id : Nat) (s : State) : Shrinks s (removeUnsent id s) := by
  unfold Machine.removeUnsent
  split
  · exact .of_eq rfl
  · intro n
    rw [leaveMeter_meters]
    dsimp only
    rw [metersWithout_get, endPieces_meters]
    split
    · exact List.filter_subset_self _
    · exact List.Subset.refl _

theorem Shrinks.enterQueued (r : Request) (num : Nat) (s : State) : Shrinks s (enterQueued r num s) := by
  unfold Machine.enterQueued
  split
  · exact .of_eq rfl
  · exact (Shrinks.of_eq (endPiece_meters _ _ s)).trans ((Shrinks.removeUnsent _ _).trans (.of_eq (finishRequest_meters _ _)))

theorem Shrinks.chargePieces (n : Fin 16) (id : Nat) (nums : List Nat) (s : State) : Shrinks s (chargePieces n id nums s).1 := by
  induction nums generalizing s with
  | nil => exact .of_eq rfl
  | cons num nums ih =>
    unfold Machine.chargePieces
    split
    · exact ih s
    · split
      · split
        · rename_i credit _
          refine Shrinks.trans ?_ ((Shrinks.enterQueued _ _ _).trans (ih _))
          exact Shrinks.modMeter (n := n) (f := fun v => { v with credit := credit }) (fun _ => List.Subset.refl _) s
        · refine Shrinks.trans ?_ ((Shrinks.setFlag _ _ _).trans ((Shrinks.enterQueued _ _ _).trans (ih _)))
          exact Shrinks.modMeter (n := n) (f := fun v => { v with credit := 0 }) (fun _ => List.Subset.refl _) s
        · rename_i shortfall _
          refine Shrinks.trans ?_ (Shrinks.setFlag _ _ _)
          exact Shrinks.modMeter (n := n) (f := fun v => { v with release := v.releaseAt s.gateTime shortfall }) (fun _ => List.Subset.refl _) s
      · exact ih s

theorem chargeHeads_lists (n : Fin 16) (ids : List Nat) (s : State) (m : Fin 16) :
    ((chargeHeads n ids s).meters.get m).waiting ⊆ if m = n then ids else (s.meters.get m).waiting := by
  induction ids generalizing s with
  | nil =>
    show ((setAt s.meters n _).get m).waiting ⊆ _
    rw [setAt_get]
    split
    · exact List.nil_subset _
    · exact List.Subset.refl _
  | cons id rest ih =>
    unfold Machine.chargeHeads
    dsimp only
    let s1 := s.modMeter n (fun v => { v with waiting := id :: rest })
    have hstart : (s1.meters.get m).waiting = if m = n then id :: rest else (s.meters.get m).waiting := by
      show ((setAt s.meters n _).get m).waiting = _
      rw [setAt_get]
      split <;> rfl
    have hcharge := Shrinks.chargePieces n id (pieceNums s1 id) s1 m
    rw [hstart] at hcharge
    split
    · rename_i e
      rw [e] at hcharge
      exact hcharge
    · rename_i e
      rw [e] at hcharge
      refine List.Subset.trans (ih _) ?_
      split
      · exact List.subset_cons_self _ _
      · rename_i hm
        rw [if_neg hm] at hcharge
        exact hcharge

theorem Shrinks.evalMeter (n : Fin 16) (s : State) : Shrinks s (evalMeter n s) := by
  unfold Machine.evalMeter
  split
  · exact .of_eq rfl
  · rename_i id rest hw
    intro m
    refine List.Subset.trans (chargeHeads_lists n _ _ m) ?_
    split
    · rename_i e
      rw [e, show (s.meters.get n).waiting = id :: rest from hw]
      exact List.Subset.refl _
    · rename_i e
      rw [show (s.modMeter n _).meters.get m = s.meters.get m from setAt_get_other _ _ e]
      exact List.Subset.refl _

theorem Shrinks.evalNewHeads (before s : State) : Shrinks s (evalNewHeads before s) := by
  unfold Machine.evalNewHeads
  have hfold (l : List (Fin 16)) (x : State) : Shrinks x (l.foldl (fun t n =>
      if (before.meter n).waiting.head? = (s.meter n).waiting.head? then t else Machine.evalMeter n t) x) := by
    induction l generalizing x with
    | nil => exact .of_eq rfl
    | cons n l ih =>
      rw [List.foldl_cons]
      refine Shrinks.trans ?_ (ih _)
      split
      · exact .of_eq rfl
      · exact Shrinks.evalMeter n x
  exact hfold _ s

end

end Sys2Proof.Machine
end

section
/-! PROOFS. What answers, notices, faults and failed scrubs leave of a port that is not UP, of the commands and of the supervisor queue
(R10, R120, R121, R129, R131, R158). -/

namespace Sys2Proof.Machine

open Sys2Proof

/-- `t` is `s` after answers, notices, faults and ends of P's commands: a port that is not UP is as it was, and its notice and its initiator
side, but that a CUSTODY_NOTICE may be HELD for it; commands stay marked; a PORT_RESET stays carried; records are added alone. -/
structure Spoken (s t : State) : Prop where
  link     : ∀ p, (t.ports.get p).link = (s.ports.get p).link
  down     : ∀ p, (s.ports.get p).link ≠ .up → t.ports.get p = s.ports.get p
  init     : ∀ d : Domain, (s.ports.get d.port).link ≠ .up → ∃ n l, t.inits.get d = { s.inits.get d with custodyNotice := n, commands := l } ∧
    ((s.inits.get d).custodyNotice ≠ .waiting → n ≠ .waiting)
  commands : ∀ d, ∀ c ∈ (t.inits.get d).commands, ∃ x ∈ (s.inits.get d).commands, c.discard = x.discard
  carried  : ∀ d q, ∀ c ∈ (s.inits.get d).commands, c.carrier = some (.port q) → c ∈ (t.inits.get d).commands
  armed    : ∀ d : Domain, (s.ports.get d.port).link ≠ .up → noticeArmed t d = noticeArmed s d
  records  : s.supQ.records <+: t.supQ.records

namespace Spoken

variable {s t u : State}

theorem refl (s : State) : Spoken s s :=
  ⟨fun _ => rfl, fun _ _ => rfl, fun _ _ => ⟨_, _, rfl, id⟩, fun _ c hc => ⟨c, hc, rfl⟩, fun _ _ _ hc _ => hc, fun _ _ => rfl,
    List.prefix_rfl⟩

theorem trans (h : Spoken s t) (g : Spoken t u) : Spoken s u := by
  refine ⟨fun p => (g.link p).trans (h.link p), fun p hp => ?_, fun d hd => ?_, fun d c hc => ?_, fun d q c hc hq => ?_, fun d hd => ?_,
    h.records.trans g.records⟩
  · exact (g.down p (by rw [h.link]; exact hp)).trans (h.down p hp)
  · obtain ⟨n, l, e, hn⟩ := h.init d hd
    obtain ⟨m, k, e', hm⟩ := g.init d (by rw [h.link]; exact hd)
    rw [e] at e' hm
    exact ⟨m, k, e', fun hw => hm (hn hw)⟩
  · obtain ⟨x, hx, e⟩ := g.commands d c hc
    obtain ⟨y, hy, e'⟩ := h.commands d x hx
    exact ⟨y, hy, e.trans e'⟩
  · exact g.carried d q c (h.carried d q c hc hq) hq
  · exact (g.armed d (by rw [h.link]; exact hd)).trans (h.armed d hd)

theorem foldl {α : Type} {f : State → α → State} (h : ∀ s x, Spoken s (f s x)) (l : List α) (s : State) : Spoken s (l.foldl f s) := by
  induction l generalizing s with
  | nil => exact refl s
  | cons x xs ih => exact (h s x).trans (ih _)

/-- What is said of everything but ports, initiator sides and fault queues is not asked. -/
theorem of_eq (h : (t.ports, t.inits, t.supQ, t.ownQ) = (s.ports, s.inits, s.supQ, s.ownQ)) : Spoken s t := by
  have hp : t.ports = s.ports := congrArg (fun x => x.1) h
  have hi : t.inits = s.inits := congrArg (fun x => x.2.1) h
  have hs : t.supQ = s.supQ := congrArg (fun x => x.2.2.1) h
  have ho : t.ownQ = s.ownQ := congrArg (fun x => x.2.2.2) h
  refine ⟨fun _ => by rw [hp], fun _ _ => by rw [hp], fun d _ => ⟨_, _, by rw [hi], id⟩, fun d c hc => ⟨c, hi ▸ hc, rfl⟩,
    fun d q c hc _ => by rw [hi]; exact hc, fun d _ => ?_, by rw [hs]⟩
  cases d <;> simp only [noticeArmed, hs, ho]

theorem placeOut (p : Port) (pkt : OutPacket) (s : State) : Spoken s (placeOut p pkt s) := by
  unfold Machine.placeOut
  split
  · rename_i hu
    have hup : (s.ports.get p).link = .up := (State.isUp_iff _ _).mp hu
    have hget (q : Port) (hq : q ≠ p) : (s.modPort p (fun v => { v with outbound := v.outbound ++ [pkt] })).ports.get q = s.ports.get q :=
      PerPort.get_set_other _ _ hq
    refine ⟨fun q => ?_, fun q hq => hget q (by rintro rfl; exact hq hup), fun _ _ => ⟨_, _, rfl, id⟩, fun _ c hc => ⟨c, hc, rfl⟩,
      fun _ _ _ hc _ => hc, fun d _ => by cases d <;> rfl, List.prefix_rfl⟩
    by_cases hq : q = p
    · subst hq
      exact (congrArg PortState.link (PerPort.get_set_same s.ports q { s.ports.get q with outbound := _ })).trans rfl
    · rw [hget q hq]
  · exact refl s

theorem answerTo (d : Domain) (tag : Option (Fin 32)) (st : AnswerStatus) (data : List Byte) (s : State) :
    Spoken s (answerTo d tag st data s) := by
  cases tag with
  | none => exact refl s
  | some t => exact placeOut _ _ s

theorem setFlag (d : Domain) (f : Flag) (s : State) : Spoken s (setFlag d f s) := of_eq rfl

theorem modUnit (u : Fin 8) (f : CustodyUnit → CustodyUnit) (s : State) : Spoken s (s.modUnit u f) := of_eq rfl

/-- A change of one initiator side that keeps its commands, where its port is UP or but the CUSTODY_NOTICE changes. -/
theorem modInit {d : Domain} {f : InitState → InitState} {s : State} (hc : ∀ v, (f v).commands = v.commands)
    (h : (s.ports.get d.port).link ≠ .up → ∃ n, f (s.inits.get d) = { s.inits.get d with custodyNotice := n } ∧ n ≠ .waiting) :
    Spoken s (s.modInit d f) := by
  have hget (e : Domain) : (s.modInit d f).inits.get e = if e = d then f (s.inits.get d) else s.inits.get e := PerDomain.get_set _ _ _ _
  have hcmd (e : Domain) : ((s.modInit d f).inits.get e).commands = (s.inits.get e).commands := by
    rw [hget]
    split
    · rename_i h; rw [hc, h]
    · rfl
  refine ⟨fun _ => rfl, fun _ _ => rfl, fun e he => ?_, fun e c hm => ⟨c, hcmd e ▸ hm, rfl⟩, fun e q c hm _ => by rw [hcmd]; exact hm,
    fun e _ => by cases e <;> rfl, List.prefix_rfl⟩
  rw [hget]
  split
  · rename_i h'
    subst h'
    obtain ⟨n, e, hn⟩ := h he
    exact ⟨n, _, e, fun _ => hn⟩
  · exact ⟨_, _, rfl, id⟩

theorem handCustodyNotice (d : Domain) (s : State) : Spoken s (handCustodyNotice d s) := by
  unfold Machine.handCustodyNotice
  split
  · split
    · rename_i hu
      refine (placeOut _ _ s).trans (modInit (fun _ => rfl) fun hd => absurd ?_ hd)
      rw [(placeOut d.port (.notice .custody) s).link]
      exact (State.isUp_iff _ _).mp hu
    · exact modInit (fun _ => rfl) fun _ => ⟨.held, rfl, by decide⟩
  · exact refl s
  · exact refl s

theorem sendNotices (a b : Resting) (s : State) : Spoken s (sendNotices a b s) := foldl (fun t d => handCustodyNotice d t) _ s

theorem handFaultNotice (d : Domain) (s : State) : Spoken s (handFaultNotice d s) := by
  unfold Machine.handFaultNotice
  split
  · rename_i h
    refine (placeOut _ _ s).trans (modInit (fun _ => rfl) fun hd => absurd ?_ hd)
    rw [(placeOut d.port (.notice .fault) s).link]
    exact (State.isUp_iff _ _).mp h.1
  · exact refl s

theorem setArmed (d : Domain) (b : Bool) (s : State) (hu : (s.ports.get d.port).link = .up) : Spoken s (setArmed d b s) := by
  cases d with
  | pay =>
    refine ⟨fun _ => rfl, fun _ _ => rfl, fun _ _ => ⟨_, _, rfl, id⟩, fun _ c hc => ⟨c, hc, rfl⟩, fun _ _ _ hc _ => hc, fun e he => ?_,
      List.prefix_rfl⟩
    cases e with
    | pay => exact absurd hu he
    | app => rfl
    | rad => rfl
  | app =>
    refine ⟨fun _ => rfl, fun _ _ => rfl, fun _ _ => ⟨_, _, rfl, id⟩, fun _ c hc => ⟨c, hc, rfl⟩, fun _ _ _ hc _ => hc, fun e he => ?_,
      List.prefix_rfl⟩
    cases e with
    | app => exact absurd hu he
    | pay => rfl
    | rad => rfl
  | rad =>
    refine ⟨fun _ => rfl, fun _ _ => rfl, fun _ _ => ⟨_, _, rfl, id⟩, fun _ c hc => ⟨c, hc, rfl⟩, fun _ _ _ hc _ => hc, fun e he => ?_,
      List.prefix_rfl⟩
    cases e with
    | rad => exact absurd hu he
    | pay => rfl
    | app => rfl

theorem afterPlacing (d : Domain) (n : Nat) (s : State) : Spoken s (afterPlacing d n s) := by
  unfold Machine.afterPlacing
  split
  · rename_i h
    exact (setArmed d false s ((State.isUp_iff _ _).mp h.2.2)).trans (handFaultNotice d _)
  · exact refl s

theorem put_armed {α : Type} (n : Nat) (mk : Half → α) (q : FaultQueue α) : (q.put n mk).armed = q.armed := by
  unfold FaultQueue.put
  split <;> rfl

theorem put_records {α : Type} (n : Nat) (mk : Half → α) (q : FaultQueue α) : q.records <+: (q.put n mk).records := by
  unfold FaultQueue.put
  split
  · exact List.prefix_append _ _
  · exact List.prefix_rfl

theorem recordFault (e : FaultEvent) (s : State) : Spoken s (recordFault e s) := by
  unfold Machine.recordFault
  split
  · split
    · rename_i x _
      refine Spoken.trans ?_ (afterPlacing _ _ _)
      refine ⟨fun _ => rfl, fun _ _ => rfl, fun _ _ => ⟨_, _, rfl, id⟩, fun _ c hc => ⟨c, hc, rfl⟩, fun _ _ _ hc _ => hc, fun d _ => ?_,
        List.prefix_rfl⟩
      cases x <;> cases d <;> simp only [noticeArmed, State.setOwnQ, PerScored.set, PerScored.get, put_armed]
    · refine Spoken.trans ?_ (afterPlacing _ _ _)
      refine ⟨fun _ => rfl, fun _ _ => rfl, fun _ _ => ⟨_, _, rfl, id⟩, fun _ c hc => ⟨c, hc, rfl⟩, fun _ _ _ hc _ => hc, fun d _ => ?_,
        put_records _ _ _⟩
      cases d <;> simp only [noticeArmed, State.setSupQ, put_armed]
  · exact refl s

theorem raiseFault (e : FaultEvent) (s : State) : Spoken s (raiseFault e s) := by
  have hscore (x : Scored) (f : ScoreRecord → ScoreRecord) (s : State) : Spoken s (s.modScore x f) := of_eq rfl
  have hmode (d : Domain) (f : DomainRecord → DomainRecord) (s : State) : Spoken s (s.modDomain d f) := of_eq rfl
  have hadvisory (x : Scored) (s : State) : Spoken s (judgeAdvisory x s) := by
    unfold judgeAdvisory
    dsimp only
    split
    · exact refl s
    · split
      · exact hscore _ _ s
      · split
        · exact (hscore _ _ s).trans (recordFault _ _)
        · exact refl s
  have hquarantine (x : Scored) (s : State) : Spoken s (judgeQuarantine x s) := by
    unfold judgeQuarantine
    dsimp only
    split
    · exact (hmode _ _ s).trans (recordFault _ _)
    · exact refl s
  unfold Machine.raiseFault chargeFault
  refine (recordFault e s).trans ?_
  split
  · split
    · exact (hscore _ _ _).trans ((hadvisory _ _).trans (hquarantine _ _))
    · exact refl _
  · exact refl _

theorem endCommand {c : Carrier} (hc : ∀ q, c ≠ .port q) (st : ReplyStatus) (res : List Byte) (s : State) : Spoken s (endCommand c st res s) := by
  have hinit (f : List Command → List Command) (hmark : ∀ l, ∀ x ∈ f l, ∃ y ∈ l, x.discard = y.discard)
      (hcarry : ∀ l q, ∀ x ∈ l, x.carrier = some (.port q) → x ∈ f l) :
      Spoken s (s.modInit .pay (fun v => { v with commands := f v.commands })) := by
    have hget (e : Domain) : (s.modInit .pay (fun v => { v with commands := f v.commands })).inits.get e =
        if e = .pay then { s.inits.get .pay with commands := f (s.inits.get .pay).commands } else s.inits.get e := PerDomain.get_set _ _ _ _
    refine ⟨fun _ => rfl, fun _ _ => rfl, fun e _ => ?_, fun e x hx => ?_, fun e q x hx hq => ?_, fun e _ => by cases e <;> rfl,
      List.prefix_rfl⟩
    · rw [hget]
      split
      · rename_i h; subst h; exact ⟨_, _, rfl, id⟩
      · exact ⟨_, _, rfl, id⟩
    · rw [hget] at hx
      split at hx
      · rename_i h; subst h; exact hmark _ x hx
      · exact ⟨x, hx, rfl⟩
    · rw [hget]
      split
      · rename_i h; subst h; exact hcarry _ q x hx hq
      · exact hx
  unfold Machine.endCommand
  split
  · exact refl s
  · split
    · refine hinit (fun l => l.filter (fun y => decide (y.carrier ≠ some c))) (fun l x hx => ⟨x, (List.mem_filter.mp hx).1, rfl⟩)
        fun l q x hx hq => List.mem_filter.mpr ⟨hx, decide_eq_true ?_⟩
      rw [hq]
      exact fun e => hc q (Option.some.inj e).symm
    · refine Spoken.trans (hinit (fun l => l.map (fun y => if y.carrier = some c then { y with carrier := none } else y))
        (fun l x hx => ?_) fun l q x hx hq => ?_) (placeOut _ _ _)
      · obtain ⟨y, hy, rfl⟩ := List.mem_map.mp hx
        refine ⟨y, hy, ?_⟩
        split <;> rfl
      · refine List.mem_map.mpr ⟨x, hx, if_neg ?_⟩
        rw [hq]
        exact fun e => hc q (Option.some.inj e).symm

theorem denyRequest (c : FaultClass) (q : Arrival) (e : Option EntryCopy) (u : Option (Fin 8)) (style : Style) (s : State) :
    Spoken s (denyRequest c q e u style s) := by
  unfold Machine.denyRequest
  split
  · exact (answerTo _ _ _ _ s).trans ((setFlag _ _ _).trans (raiseFault _ _))
  · exact (answerTo _ _ _ _ s).trans ((setFlag _ _ _).trans (raiseFault _ _))

/-- A unit that FAILED decides its parked requests again by denials alone. -/
theorem redecideParked_failed {u : Fin 8} {s : State} (hf : (s.units.get u).state = .failed) : Spoken s (redecideParked u s) := by
  rw [Machine.redecideParked_failed hf]
  refine Spoken.trans (t := s.setUnits (setAt s.units u { s.units.get u with parked := [] })) (of_eq rfl) (foldl (fun x k => ?_) _ _)
  unfold withCustodyDenial
  simp only [← answerTo_late]
  refine Spoken.trans ?_ (raiseFault _ _)
  cases (s.units.get u).style.effective (s.domains.get k.req.dom).style with
  | refuse => exact (answerTo _ _ _ _ x).trans (setFlag _ .denied _)
  | mask => exact (answerTo _ _ _ _ x).trans (setFlag _ .masked _)

theorem scrubFail (u : Fin 8) (s : State) : Spoken s (scrubFail u s) := by
  rw [scrubFail_eq]
  unfold handoverEnds scrubFaulted
  have hfail : ((Machine.raiseFault (portFault .scrubFailed (unitPortByte (s.units.get u)) (some u)
      ((s.units.get u).step.map (fun st => st.addr)) (s.units.get u).hand.scrubPos)
      (s.setUnits (setAt s.units u (s.units.get u).failed))).units.get u).state = .failed := by
    rw [(Tells.raiseFault _ _).units, State.setUnits, setAt_get_same]
    rfl
  exact Spoken.trans (t := s.setUnits (setAt s.units u (s.units.get u).failed)) (of_eq rfl) ((raiseFault _ _).trans
    ((redecideParked_failed hfail).trans ((sendNotices _ _ _).trans ((modUnit _ _ _).trans (endCommand (fun _ => by simp) _ _ _)))))

theorem withScrubFailed (u : Fin 8) (s : State) : Spoken s (withScrubFailed u s) := by
  unfold Machine.withScrubFailed
  dsimp only
  split
  · rename_i g _
    exact Spoken.trans (t := drainEnded u g s) (of_eq rfl) (scrubFail u _)
  · exact scrubFail u s

end Spoken

/-! ### The failures that end a port reset (R110) -/

/-- What failed scrubs leave: of a unit that failed the definition and the count, nothing parked; of the ports what was there, and more
packets to initiators. -/
structure Failed (s t : State) : Prop where
  spoken   : Spoken s t
  quiet    : Quiet s t
  requests : t.requests = s.requests
  meters   : t.meters = s.meters
  port     : ∀ p, ∃ more : List OutPacket, requestTags more = [] ∧
    t.ports.get p = { s.ports.get p with outbound := (s.ports.get p).outbound ++ more }
  unit     : ∀ u, (t.units.get u).inFlight = (s.units.get u).inFlight ∧ ∀ k ∈ (t.units.get u).parked, k ∈ (s.units.get u).parked

namespace Failed

variable {s t u : State}

theorem refl (s : State) : Failed s s :=
  ⟨.refl s, .refl s, rfl, rfl, fun _ => ⟨[], rfl, by simp⟩, fun _ => ⟨rfl, fun _ h => h⟩⟩

theorem trans (h : Failed s t) (g : Failed t u) : Failed s u := by
  refine ⟨h.spoken.trans g.spoken, h.quiet.trans g.quiet, g.requests.trans h.requests, g.meters.trans h.meters, fun p => ?_, fun w => ?_⟩
  · obtain ⟨m1, t1, e1⟩ := h.port p
    obtain ⟨m2, t2, e2⟩ := g.port p
    refine ⟨m1 ++ m2, ?_, by rw [e2, e1]; simp⟩
    unfold requestTags at t1 t2 ⊢
    rw [List.filterMap_append, t1, t2]
    rfl
  · obtain ⟨h1, h2⟩ := h.unit w
    obtain ⟨g1, g2⟩ := g.unit w
    exact ⟨g1.trans h1, fun k hk => h2 k (g2 k hk)⟩

theorem foldl {α : Type} {f : State → α → State} (h : ∀ s x, Failed s (f s x)) (l : List α) (s : State) : Failed s (l.foldl f s) := by
  induction l generalizing s with
  | nil => exact refl s
  | cons x xs ih => exact (h s x).trans (ih _)

theorem of_tells (h : Tells s t) (hs : Spoken s t) (hq : Quiet s t) : Failed s t :=
  ⟨hs, hq, h.requests, h.meters, h.port, fun u => by rw [h.units]; exact ⟨rfl, fun _ hk => hk⟩⟩

theorem raiseFault (e : FaultEvent) (s : State) : Failed s (raiseFault e s) :=
  of_tells (Tells.raiseFault e s) (Spoken.raiseFault e s) (Quiet.raiseFault e s)

theorem scrubFail (u : Fin 8) (s : State) : Failed s (scrubFail u s) := by
  have h := scrubFail_tells u s
  refine ⟨Spoken.scrubFail u s, Quiet.scrubFail u s, h.requests, h.meters, h.port, fun w => ?_⟩
  rw [h.units]
  unfold State.setUnits
  dsimp only
  rw [setAt_get]
  split
  · rename_i e
    subst e
    exact ⟨rfl, fun k hk => nomatch hk⟩
  · exact ⟨rfl, fun _ hk => hk⟩

theorem withScrubFailed (u : Fin 8) (s : State) : Failed s (withScrubFailed u s) := by
  unfold Machine.withScrubFailed
  dsimp only
  split
  · rename_i g _
    refine Failed.trans (t := drainEnded u g s) ⟨.of_eq rfl, ⟨rfl, fun _ => rfl⟩, rfl, rfl, fun _ => ⟨[], rfl, by simp [drainEnded]⟩,
      fun w => ?_⟩ (scrubFail u _)
    show ((setAt s.units u _).get w).inFlight = _ ∧ ∀ k ∈ ((setAt s.units u _).get w).parked, _
    rw [setAt_get]
    split
    · rename_i e; subst e; exact ⟨rfl, fun _ hk => hk⟩
    · exact ⟨rfl, fun _ hk => hk⟩
  · exact scrubFail u s

end Failed

/-- A unit whose scrub failed (R94, R106). -/
theorem withScrubFailed_own (u : Fin 8) (s : State) : ∃ v : CustodyUnit, (withScrubFailed u s).units.get u =
    { v with state := .failed, parked := [], pendingTake := none, hand := Handover.idle } := by
  have h (x : State) : (scrubFail u x).units.get u = (x.units.get u).scrubFailed := by
    rw [(scrubFail_tells u x).units]
    exact setAt_get_same _ _ _
  unfold withScrubFailed
  dsimp only
  split
  · exact ⟨_, h _⟩
  · exact ⟨_, h s⟩

theorem foldl_withScrubFailed_own {u : Fin 8} {l : List (Fin 8)} (hn : l.Nodup) (hu : u ∈ l) (s : State) :
    ∃ v : CustodyUnit, (l.foldl (fun x w => withScrubFailed w x) s).units.get u =
      { v with state := .failed, parked := [], pendingTake := none, hand := Handover.idle } := by
  induction l generalizing s with
  | nil => cases hu
  | cons w ws ih =>
    obtain ⟨hw, hn⟩ := List.nodup_cons.mp hn
    rw [List.foldl_cons]
    rcases List.mem_cons.mp hu with rfl | hu
    · rw [foldl_withScrubFailed_other hw]
      exact withScrubFailed_own u s
    · exact ih hn hu _

end Sys2Proof.Machine
end

section
/-! PROOFS. The state of a port reset in which its pieces are ended and its requests abandoned, before the meters go on (R10 to R13, R76). -/

namespace Sys2Proof.Machine

open Sys2Proof

/-- A port reset of `p` before the meters go on. -/
def resetStart (p : Port) (link : LinkState) (hold : Option Nat) (s : State) : State :=
  match p.domain with
  | some d => resetInitiator d (targetReset p link hold s)
  | none => targetReset p link hold s

/-- The requests that a port reset of `p` looks at for their end. -/
def resetIds (p : Port) (link : LinkState) (hold : Option Nat) (s : State) : List Nat :=
  (reachedBy p s).map (fun r => r.id) ++
    (match p.domain with
      | some d => requestsOf (targetReset p link hold s) d
      | none => [])

/-- A port reset of `p` before its LINK_DOWN fault. -/
def resetEnded (p : Port) (link : LinkState) (hold : Option Nat) (s : State) : State :=
  (resetIds p link hold s).foldl (fun t id => finishRequest id t) (evalNewHeads s (resetStart p link hold s))

theorem resetBody_eq (p : Port) (link : LinkState) (hold : Option Nat) (s : State) :
    resetBody p link hold s = raiseFault (linkDownFault p (reachedBy p s).length) (resetEnded p link hold s) := by
  unfold resetEnded resetIds resetStart resetBody
  simp only [List.length_map, reachedBy]
  rfl

section
variable {p : Port} {link : LinkState} {hold : Option Nat} {s : State}

/-! ### What holds of every state -/

theorem Confined.linkDownRequest (s : State) (id : Nat) : Confined s (linkDownRequest s id) :=
  Confined.tracks (counted := False) (cuts := True)
    ((Tracks.endPieces id rfl (fun _ => PieceState.atTarget_live) (fun _ => trivial) False.elim).trans (Tracks.removeUnsent id False.elim))

theorem Confined.abandonRequest (s : State) (id : Nat) : Confined s (abandonRequest s id) :=
  (Confined.of_same (by rfl)).trans (Confined.tracks (Tracks.removeUnsent (counted := False) (cuts := False) id False.elim))

theorem Confined.desertedBy (d : Domain) (s : State) : Confined s (desertedBy d s) := Confined.foldl Confined.abandonRequest _ s

theorem Confined.static (h : Confined s t) : t.inits = s.inits ∧ t.supQ = s.supQ ∧ t.ownQ = s.ownQ ∧ t.scores = s.scores ∧
    t.domains = s.domains ∧ t.fixed = s.fixed := by
  rw [h.rest]
  exact ⟨rfl, rfl, rfl, rfl, rfl, rfl⟩

/-- The target side of a port reset: the port itself, and what it leaves alone. -/
theorem targetReset_static (p : Port) (link : LinkState) (hold : Option Nat) (s : State) :
    (targetReset p link hold s).ports.get p = (s.ports.get p).atReset link hold ∧
    (∀ q, q ≠ p → ((targetReset p link hold s).ports.get q).face = (s.ports.get q).face) ∧
    (∀ u, ∃ k, (targetReset p link hold s).units.get u = { s.units.get u with inFlight := k }) ∧
    (targetReset p link hold s).inits = s.inits ∧ (targetReset p link hold s).supQ = s.supQ ∧
    (targetReset p link hold s).ownQ = s.ownQ ∧ (targetReset p link hold s).scores = s.scores ∧
    (targetReset p link hold s).domains = s.domains ∧ (targetReset p link hold s).fixed = s.fixed := by
  let s1 := s.modPort p (fun v => { v with link := link, established := false, hold := hold })
  have h : Confined s1 (((reachedBy p s).map (fun r => r.id)).foldl linkDownRequest s1) := Confined.foldl Confined.linkDownRequest _ s1
  obtain ⟨hi, hsup, hown, hsc, hdo, hfix⟩ := h.static
  refine ⟨?_, fun q hq => ?_, h.unit, hi, hsup, hown, hsc, hdo, hfix⟩
  · obtain ⟨tags, arbiter, out, e, hturn, -⟩ := h.port p
    have hget : s1.ports.get p = { s.ports.get p with link := link, established := false, hold := hold } := PerPort.get_set_same _ _ _
    refine (PerPort.get_set_same _ p _).trans ?_
    rw [hget] at hturn e
    rw [e]
    unfold PortState.atReset emptyPort
    dsimp only
    rw [hturn]
  · obtain ⟨tags, arbiter, out, e, -⟩ := h.port q
    have hget : s1.ports.get q = s.ports.get q := PerPort.get_set_other _ _ hq
    rw [hget] at e
    refine (congrArg PortState.face (PerPort.get_set_other _ _ hq)).trans ?_
    rw [e]
    rfl

/-- Abandoned requests leave a port that was reset as it is. -/
theorem desertedBy_atReset {v : PortState} (hl : link ≠ .up) (d : Domain) {s : State} (h : s.ports.get p = v.atReset link hold) :
    (desertedBy d s).ports.get p = v.atReset link hold := by
  unfold desertedBy
  generalize requestsOf s d = l
  induction l generalizing s with
  | nil => exact h
  | cons id l ih =>
    refine ih ?_
    exact (Tracks.removeUnsent (counted := False) (cuts := False)
      (s := s.modRequest id (fun r => { r with abandoned := true })) id False.elim).atReset hl h

/-- Every request of the domain is abandoned. -/
theorem desertedBy_abandoned (d : Domain) (s : State) : ∀ r ∈ (desertedBy d s).requests, r.dom = d → r.abandoned = true := by
  have hfold (l : List Nat) : ∀ s : State, (∀ r ∈ s.requests, r.dom = d → r.abandoned = true ∨ r.id ∈ l) →
      ∀ r ∈ (l.foldl abandonRequest s).requests, r.dom = d → r.abandoned = true := by
    induction l with
    | nil => exact fun s h r hr hd => (h r hr hd).resolve_right (by simp)
    | cons id l ih =>
      refine fun s h => ih _ fun r hr hd => ?_
      obtain ⟨q, hq, same⟩ := (Tracks.removeUnsent (counted := False) (cuts := False)
        (s := s.modRequest id (fun r => { r with abandoned := true })) id False.elim).origins r hr
      obtain ⟨x, hx, rfl⟩ := List.mem_map.mp hq
      rw [same.abandoned, same.id]
      by_cases e : x.id = id
      · rw [if_pos e]; exact .inl rfl
      · rw [same.dom, if_neg e] at hd
        rw [if_neg e]
        exact (h x hx hd).imp (fun ha => ha) fun hm => (List.mem_cons.mp hm).resolve_left e
  exact hfold _ s fun r hr hd => .inr (List.mem_map.mpr ⟨r, List.mem_filter.mpr ⟨hr, decide_eq_true hd⟩, rfl⟩)

/-- What a port reset leaves of every state before the meters go on. -/
structure StartOf (p : Port) (link : LinkState) (hold : Option Nat) (s b : State) : Prop where
  port : b.ports.get p = (s.ports.get p).atReset link hold
  face : ∀ q, q ≠ p → (b.ports.get q).face = (s.ports.get q).face
  unit : ∀ u, ∃ k l, b.units.get u = { s.units.get u with inFlight := k, parked := l }
  commit : b.commit = if p = .P then none else s.commit
  fixed : b.fixed = { s with commit := b.commit }.fixed
  scores : b.scores = s.scores
  domains : b.domains = s.domains
  records : b.supQ.records = s.supQ.records ∧ b.supQ.counter = s.supQ.counter
  other : ∀ d : Domain, p ≠ d.port → b.inits.get d = s.inits.get d
  init : ∀ d : Domain, p = d.port → ∃ l, (∀ x ∈ l, x.discard = true) ∧ b.inits.get d = { emptyInit (s.inits.get d) with commands := l }
  armed : ∀ d : Domain, p = d.port → noticeArmed b d = true
  parked : ∀ d : Domain, p = d.port → ∀ u, ∀ k ∈ (b.units.get u).parked, k.req.dom ≠ d
  abandoned : ∀ d : Domain, p = d.port → ∀ r ∈ b.requests, r.dom = d → r.abandoned = true

theorem setArmed_same (d : Domain) (s : State) : noticeArmed (setArmed d true s) d = true := by cases d <;> rfl

theorem setArmed_records (d : Domain) (b : Bool) (s : State) : (setArmed d b s).supQ.records = s.supQ.records ∧
    (setArmed d b s).supQ.counter = s.supQ.counter := by cases d <;> exact ⟨rfl, rfl⟩

theorem noticeArmed_congr {s t : State} (hs : t.supQ = s.supQ) (ho : t.ownQ = s.ownQ) (d : Domain) : noticeArmed t d = noticeArmed s d := by
  cases d <;> simp only [noticeArmed, hs, ho]

theorem resetStart_of (hl : link ≠ .up) : StartOf p link hold s (resetStart p link hold s) := by
  obtain ⟨hport, hface, hunit, hi, hsup, hown, hsc, hdo, hfix⟩ := targetReset_static p link hold s
  have hcm : (targetReset p link hold s).commit = s.commit := congrArg (fun x => x.2.2.2.2.2.1) hfix
  unfold resetStart
  cases hd : p.domain with
  | none =>
    have hno (d : Domain) : p ≠ d.port := fun e => by rw [e, Domain.port_domain] at hd; cases hd
    refine ⟨hport, hface, fun u => ?_, ?_, ?_, hsc, hdo, by rw [hsup]; exact ⟨rfl, rfl⟩, fun d _ => by rw [hi],
      fun d e => absurd e (hno d), fun d e => absurd e (hno d), fun d e => absurd e (hno d), fun d e => absurd e (hno d)⟩
    · obtain ⟨k, e⟩ := hunit u
      exact ⟨k, (s.units.get u).parked, e⟩
    · rw [if_neg (show p ≠ .P from hno .pay)]
      exact hcm
    · refine hfix.trans ?_
      unfold State.fixed
      rw [hcm]
  | some d =>
    have hpd : p = d.port := Port.domain_eq_some.mp hd
    have hown' (e : Domain) (h : p = e.port) : e = d := by
      rw [h, Domain.port_domain] at hd
      exact Option.some.inj hd
    obtain ⟨l, hmark, hrun⟩ := resetInitiator_rest d (targetReset p link hold s)
    have hconf := Confined.desertedBy d (targetReset p link hold s)
    obtain ⟨hi', -, -, hsc', hdo', hfix'⟩ := hconf.static
    dsimp only
    have hinits : (resetInitiator d (targetReset p link hold s)).inits =
        (targetReset p link hold s).inits.set d { emptyInit ((targetReset p link hold s).inits.get d) with commands := l } := by rw [hrun]
    have hunits : (resetInitiator d (targetReset p link hold s)).units =
        (dropParked d (desertedBy d (targetReset p link hold s))).units := by rw [hrun]
    have hsupQ : (resetInitiator d (targetReset p link hold s)).supQ = (setArmed d true (targetReset p link hold s)).supQ := by rw [hrun]
    have hownQ : (resetInitiator d (targetReset p link hold s)).ownQ = (setArmed d true (targetReset p link hold s)).ownQ := by rw [hrun]
    have hcommit : (resetInitiator d (targetReset p link hold s)).commit = if d = .pay then none else (targetReset p link hold s).commit := by
      rw [hrun]
    have hports : (resetInitiator d (targetReset p link hold s)).ports = (desertedBy d (targetReset p link hold s)).ports := by rw [hrun]
    have hfixed : (resetInitiator d (targetReset p link hold s)).fixed =
        { s with commit := (resetInitiator d (targetReset p link hold s)).commit }.fixed := by
      have : (resetInitiator d (targetReset p link hold s)).fixed =
          { desertedBy d (targetReset p link hold s) with commit := (resetInitiator d (targetReset p link hold s)).commit }.fixed := by
        rw [hrun]
        rfl
      have hsame (x y : State) (c : Option Commit) (e : x.fixed = y.fixed) : { x with commit := c }.fixed = { y with commit := c }.fixed := by
        simp only [State.fixed, Prod.mk.injEq] at e ⊢
        obtain ⟨e1, e2, e3, e4, e5, -, e7, e8, e9, e10⟩ := e
        exact ⟨e1, e2, e3, e4, e5, trivial, e7, e8, e9, e10⟩
      rw [this]
      exact hsame _ _ _ (hfix'.trans hfix)
    refine ⟨?_, fun q hq => ?_, fun u => ?_, ?_, hfixed, ?_, ?_, ?_, fun e he => ?_, fun e he => ?_, fun e he => ?_, fun e he => ?_,
      fun e he => ?_⟩
    · rw [hports]
      exact desertedBy_atReset hl d hport
    · rw [hports]
      obtain ⟨_, _, _, e, -⟩ := hconf.port q
      rw [e]
      exact hface q hq
    · rw [hunits, dropParked_get]
      obtain ⟨k, e⟩ := hconf.unit u
      obtain ⟨m, e'⟩ := hunit u
      rw [e, e']
      exact ⟨k, _, rfl⟩
    · rw [hcommit, hcm, hpd]
      cases d <;> rfl
    · rw [show (resetInitiator d (targetReset p link hold s)).scores = (desertedBy d (targetReset p link hold s)).scores by rw [hrun], hsc', hsc]
    · rw [show (resetInitiator d (targetReset p link hold s)).domains = (desertedBy d (targetReset p link hold s)).domains by rw [hrun],
        hdo', hdo]
    · rw [hsupQ]
      obtain ⟨h1, h2⟩ := setArmed_records d true (targetReset p link hold s)
      rw [h1, h2, hsup]
      exact ⟨rfl, rfl⟩
    · rw [hinits, PerDomain.get_set_other _ _ (by rintro rfl; exact he hpd), hi]
    · obtain rfl := hown' e he
      refine ⟨l, hmark, ?_⟩
      rw [hinits, PerDomain.get_set_same, hi]
    · obtain rfl := hown' e he
      rw [noticeArmed_congr hsupQ hownQ]
      exact setArmed_same e _
    · obtain rfl := hown' e he
      intro u k hk
      rw [hunits, dropParked_get] at hk
      exact of_decide_eq_true (List.mem_filter.mp hk).2
    · obtain rfl := hown' e he
      rw [show (resetInitiator e (targetReset p link hold s)).requests = (desertedBy e (targetReset p link hold s)).requests by rw [hrun]]
      exact desertedBy_abandoned e _

/-! ### What holds where the accounts do -/

/-- A record as a reset of `p` leaves it before the meters go on. -/
def Request.resetAt (p : Port) (r : Request) : Request := if r.dom.port = p then (r.downedAt p).deserted else r.downedAt p

/-- A request that a port reset of `p` reaches: taken on `p`, or with a piece there. -/
def Request.hit (p : Port) (r : Request) : Bool := decide (r.dom.port = p) || r.reached p

theorem Request.resetAt_same {p : Port} {r : Request} (h : r.hit p = false) : r.resetAt p = r := by
  obtain ⟨hown, hreach⟩ := Bool.or_eq_false_iff.mp h
  unfold Request.resetAt Request.downedAt
  rw [if_neg (of_decide_eq_false hown), if_neg (by rw [hreach]; exact Bool.false_ne_true)]

/-- What of a record a port reset never changes; of a request of the port it abandons it. -/
theorem Request.resetAt_fields (p : Port) (r : Request) : (r.resetAt p).id = r.id ∧ (r.resetAt p).dom = r.dom ∧ (r.resetAt p).tag = r.tag ∧
    (r.resetAt p).target = r.target ∧ (r.resetAt p).unit = r.unit ∧ (r.resetAt p).meter = r.meter := by
  unfold Request.resetAt Request.downedAt
  split <;> split <;> exact ⟨rfl, rfl, rfl, rfl, rfl, rfl⟩

/-- What a port reset leaves before the meters go on, where the accounts hold. -/
structure CountedStart (p : Port) (s b : State) : Prop where
  count : b.CountLaw
  requests : b.requests = s.requests.map (Request.resetAt p)
  ports : ∀ q, q ≠ p → b.ports.get q = (s.ports.get q).deserted (s.requests.filter (fun r => decide (r.dom.port = p ∧ r.target = q)))
  meters : ∀ n : Fin 16, b.meters.get n =
    withoutListed (fun i => s.requests.any (fun r => decide (r.id = i ∧ r.meter = some n) && r.hit p)) (s.meters.get n)
  flags : b.flags = s.flags

theorem any_or_any {α : Type} (f g : α → Bool) (l : List α) : (l.any f || l.any g) = l.any (fun x => f x || g x) := by
  induction l with
  | nil => rfl
  | cons x l ih => rw [List.any_cons, List.any_cons, List.any_cons, ← ih, Bool.or_assoc, Bool.or_assoc, Bool.or_left_comm (l.any f)]

theorem Domain.port_inj {d e : Domain} (h : d.port = e.port) : d = e := by
  have := congrArg Port.domain h
  rw [Domain.port_domain, Domain.port_domain] at this
  exact Option.some.inj this

theorem resetStart_counted (h : s.CountLaw) : CountedStart p s (resetStart p link hold s) := by
  obtain ⟨hcount, hrun⟩ := targetReset_eq (p := p) (link := link) (hold := hold) h
  have hreq : (targetReset p link hold s).requests = s.requests.map (Request.downedAt p) := by rw [hrun]
  have hports : (targetReset p link hold s).ports = s.ports.set p ((s.ports.get p).atReset link hold) := by rw [hrun]
  have hmeters (n : Fin 16) : (targetReset p link hold s).meters.get n =
      withoutListed (fun i => (reachedBy p s).any (fun r => decide (r.id = i ∧ r.meter = some n))) (s.meters.get n) := by
    rw [hrun]; exact foldl_metersWithout _ _ n
  have hflags : (targetReset p link hold s).flags = s.flags := by rw [hrun]
  unfold resetStart
  cases hd : p.domain with
  | none =>
    have hno (d : Domain) : d.port ≠ p := fun e => by rw [← e, Domain.port_domain] at hd; cases hd
    refine ⟨hcount, ?_, fun q hq => ?_, fun n => ?_, hflags⟩
    · rw [hreq]
      refine List.map_congr_left fun r _ => ?_
      unfold Request.resetAt
      rw [if_neg (hno r.dom)]
    · have hnil : s.requests.filter (fun r => decide (r.dom.port = p ∧ r.target = q)) = [] :=
        List.filter_eq_nil_iff.mpr fun r _ e => hno r.dom (of_decide_eq_true e).1
      rw [hports, PerPort.get_set_other _ _ hq, hnil]
      rfl
    · rw [hmeters]
      refine withoutListed_congr fun i _ => ?_
      unfold reachedBy
      rw [List.any_filter]
      refine List.any_congr rfl fun r => ?_
      unfold Request.hit
      rw [decide_eq_false (hno r.dom), Bool.false_or, Bool.and_comm]
  | some d =>
    have hpd : p = d.port := Port.domain_eq_some.mp hd
    have hown (e : Domain) : e.port = p ↔ e = d := ⟨fun h => Domain.port_inj (h.trans hpd), fun h => by rw [h, hpd]⟩
    obtain ⟨l, -, hinit⟩ := resetInitiator_rest d (targetReset p link hold s)
    dsimp only
    generalize resetInitiator d (targetReset p link hold s) = b at hinit ⊢
    generalize targetReset p link hold s = x at *
    obtain ⟨hcount', hdes, hplaces⟩ := desertedBy_eq (d := d) hcount
    have hbreq : b.requests = (desertedBy d x).requests := by rw [hinit]
    have hbports : b.ports = (desertedBy d x).ports := by rw [hinit]
    have hbmeters : b.meters = (desertedBy d x).meters := by rw [hinit]
    have hbflags : b.flags = (desertedBy d x).flags := by rw [hinit]
    have hbunits : b.units = (dropParked d (desertedBy d x)).units := by rw [hinit]
    have hdom (r : Request) : (r.downedAt p).dom = r.dom ∧ (r.downedAt p).target = r.target ∧ (r.downedAt p).id = r.id ∧
        (r.downedAt p).meter = r.meter := by unfold Request.downedAt; split <;> exact ⟨rfl, rfl, rfl, rfl⟩
    refine ⟨hcount'.congr hbreq fun u => by rw [hbunits, dropParked_get], ?_, fun q hq => ?_, fun n => ?_, ?_⟩
    · rw [hbreq, hdes, hreq, List.map_map]
      refine List.map_congr_left fun r _ => ?_
      simp only [Function.comp_apply, hdom, Request.resetAt, hown]
    · rw [hbports, hplaces, hports, PerPort.get_set_other _ _ hq]
      congr 1
      unfold ownOf
      have hfilter : s.requests.filter (((fun r => decide (r.target = q)) ∘ Request.downedAt p)) = s.requests.filter (fun r => decide (r.target = q)) :=
        List.filter_congr fun r _ => by simp only [Function.comp_apply, hdom]
      have hsame : (s.requests.map (Request.downedAt p)).filter (fun r => decide (r.target = q)) =
          s.requests.filter (fun r => decide (r.target = q)) := by
        rw [List.filter_map, hfilter]
        refine (List.map_congr_left fun r hr => ?_).trans (List.map_id _)
        unfold Request.downedAt
        rw [if_neg fun e => hq ((of_decide_eq_true (List.mem_filter.mp hr).2).symm.trans (Request.reached_target e))]
        rfl
      rw [hreq, List.filter_filter, List.filter_congr fun r _ => Bool.and_comm _ _, ← List.filter_filter, hsame, List.filter_filter]
      exact List.filter_congr fun r _ => by simp only [hown, Bool.decide_and]
    · rw [hbmeters, hdes, foldl_metersWithout, hmeters, withoutListed_withoutListed]
      refine withoutListed_congr fun i _ => ?_
      unfold reachedBy ownOf
      rw [hreq, List.any_filter, List.any_filter, List.any_map, any_or_any]
      refine List.any_congr rfl fun r => ?_
      simp only [Function.comp_apply, hdom, Request.hit, hown]
      cases r.reached p <;> cases decide (r.dom = d) <;> simp
    · rw [hbflags, hdes]
      exact hflags

end

end Sys2Proof.Machine
end

section
/-! PROOFS. What a port reset leaves of the requests, their pieces and tags, and of the meters (R12, R13, R70, R76, R89). -/

namespace Sys2Proof.Machine

open Sys2Proof

/-! ### One record -/

theorem endedPieces_mem {f : PieceState → Bool} {st : PieceState} (hst : st.live = false) {l : List Piece} {c : Piece}
    (hc : c ∈ endedPieces f st l) (hl : c.state.live = true) : c ∈ l ∧ f c.state = false := by
  obtain ⟨y, hy, rfl⟩ := List.mem_map.mp hc
  by_cases h : f y.state = true
  · rw [if_pos h] at hl
    exact absurd (hst.symm.trans hl) Bool.false_ne_true
  · rw [if_neg h]
    exact ⟨hy, Bool.eq_false_iff.mpr h⟩

theorem PieceState.live_cases {st : PieceState} (h : st.live = true) : st = .charging ∨ st.atTarget = true := by
  cases st with
  | charging => exact .inl rfl
  | queued => exact .inr rfl
  | granted => exact .inr rfl
  | sent => exact .inr rfl
  | resolved x => cases h
  | removed => cases h

theorem PieceState.sent_of_live {st : PieceState} (h : st.live = true) (hu : st.unsent = false) : st = .sent := by
  cases st with
  | sent => rfl
  | charging => cases hu
  | queued => cases hu
  | granted => cases hu
  | resolved x => cases h
  | removed => cases h

theorem PieceState.atTarget_iff (st : PieceState) : st.atTarget = true ↔ st = .queued ∨ st = .granted ∨ st = .sent := by
  cases st <;> simp [PieceState.atTarget]

/-- Nothing of a record that was reached at its target is left (R76). -/
theorem Request.downed_live {r : Request} {c : Piece} (hc : c ∈ r.downed.pieces) : c.state.live = false := by
  by_contra h
  have hl : c.state.live = true := by simpa using h
  obtain ⟨hmem, hu⟩ := endedPieces_mem rfl hc hl
  obtain ⟨-, hn⟩ := endedPieces_mem rfl hmem hl
  rw [PieceState.sent_of_live hl hu] at hn
  cases hn

/-- A live piece of a record that was reset is as it was, of a record that was not reached, and of an abandoned one SENT. -/
theorem Request.resetAt_piece {p : Port} {r : Request} {c : Piece} (hc : c ∈ (r.resetAt p).pieces) (hl : c.state.live = true) :
    r.reached p = false ∧ c ∈ r.pieces ∧ (r.dom.port = p → c.state = .sent) := by
  have hdown (h : c ∈ (r.downedAt p).pieces) : r.reached p = false ∧ c ∈ r.pieces := by
    unfold Request.downedAt at h
    by_cases hr : r.reached p = true
    · rw [if_pos hr] at h
      exact absurd (Request.downed_live h) (by simp [hl])
    · rw [if_neg hr] at h
      exact ⟨Bool.eq_false_iff.mpr hr, h⟩
  unfold Request.resetAt at hc
  by_cases ho : r.dom.port = p
  · rw [if_pos ho] at hc
    obtain ⟨hmem, hu⟩ := endedPieces_mem rfl hc hl
    exact ⟨(hdown hmem).1, (hdown hmem).2, fun _ => PieceState.sent_of_live hl hu⟩
  · rw [if_neg ho] at hc
    exact ⟨(hdown hc).1, (hdown hc).2, fun e => absurd e ho⟩

theorem Request.reached_iff {p : Port} {r : Request} : r.reached p = true ↔ r.target = p ∧ ∃ c ∈ r.pieces, c.state.atTarget = true := by
  unfold Request.reached
  rw [Bool.and_eq_true, decide_eq_true_eq, List.any_eq_true]

theorem Request.atTarget_iff {p : Port} {r : Request} : r.atTarget p ↔ r.reached p = true := by
  rw [Request.reached_iff]
  unfold Request.atTarget
  simp only [PieceState.atTarget_iff]

/-- A record that was reached at its target ends LINK_DOWN (R69, R76). -/
theorem Request.downed_worst {p : Port} {r : Request} (h : r.reached p = true) : r.downed.worst = .linkDown := by
  obtain ⟨-, c, hc, ht⟩ := Request.reached_iff.mp h
  have hfirst : (r.endedBy PieceState.atTarget (.resolved .linkDown)).worst = .linkDown := by
    show (if r.pieces.any (fun c => c.state.atTarget) then mergeEnd r.worst (.resolved .linkDown) else r.worst) = _
    rw [if_pos (List.any_eq_true.mpr ⟨c, hc, ht⟩)]
    exact PieceStatus.merge_linkDown _
  show (if _ then mergeEnd (r.endedBy PieceState.atTarget (.resolved .linkDown)).worst .removed
    else (r.endedBy PieceState.atTarget (.resolved .linkDown)).worst) = _
  split <;> exact hfirst

/-- Two pieces of the records are one where number and record agree. -/
theorem State.CountLaw.same_piece {s : State} (h : s.CountLaw) {r q : Request} {c y : Piece} (hr : r ∈ s.requests) (hq : q ∈ s.requests)
    (hc : c ∈ r.pieces) (hy : y ∈ q.pieces) (e : (⟨r.id, c.num⟩ : PieceRef) = ⟨q.id, y.num⟩) : q = r ∧ y = c := by
  obtain ⟨hid, hnum⟩ := PieceRef.mk.inj e
  obtain rfl := h.eq_of_id hr hq hid.symm
  exact ⟨rfl, List.inj_on_of_nodup_map (h.counted hr).1 hy hc hnum.symm⟩

section
variable {p : Port} {s b f : State}

/-! ### Where the records come from -/

/-- Where a record that a port reset leaves comes from, and its live pieces. -/
theorem CountedStart.origin (h : CountedStart p s b) (m : Tracks True False b f) : ∀ q ∈ f.requests, ∃ r ∈ s.requests,
    (q.id = r.id ∧ q.dom = r.dom ∧ q.target = r.target ∧ q.unit = r.unit) ∧
    ∀ y ∈ q.pieces, y.state.live = true → r.reached p = false ∧ ∃ c ∈ r.pieces, (r.dom.port = p → c.state = .sent) ∧
      (y = c ∨ (c.state = .charging ∧ y = { c with state := .queued } ∧ b.ups r.target)) := by
  intro q hq
  obtain ⟨x, hx, same, hfrom⟩ := (m.piecesFrom h.count).1 q hq
  rw [h.requests] at hx
  obtain ⟨r, hr, rfl⟩ := List.mem_map.mp hx
  obtain ⟨hid, hdom, -, htarget, hunit, -⟩ := Request.resetAt_fields p r
  refine ⟨r, hr, ⟨same.id.trans hid, same.dom.trans hdom, same.target.trans htarget, same.unit.trans hunit⟩, fun y hy hl => ?_⟩
  obtain ⟨c, hc, hor⟩ := hfrom y hy hl
  have hlc : c.state.live = true := by
    rcases hor with rfl | ⟨hch, -, -⟩
    · exact hl
    · rw [hch]; rfl
  obtain ⟨hno, hmem, hsent⟩ := Request.resetAt_piece hc hlc
  rw [htarget] at hor
  exact ⟨hno, c, hmem, hsent, hor⟩

/-- No piece is left at the port (R76). -/
theorem CountedStart.noneAtPort (h : CountedStart p s b) (m : Tracks True False b f) (hd : (b.ports.get p).link ≠ .up) :
    ∀ r ∈ f.requests, r.target = p → ∀ c ∈ r.pieces, c.state.atTarget = false := by
  intro q hq ht y hy
  obtain ⟨r, hr, ⟨-, -, htarget, -⟩, hfrom⟩ := h.origin m q hq
  by_contra hat
  have hat : y.state.atTarget = true := by simpa using hat
  obtain ⟨hno, c, hc, -, rfl | ⟨-, -, hup⟩⟩ := hfrom y hy (PieceState.atTarget_live hat)
  · exact absurd (Request.reached_iff.mpr ⟨htarget ▸ ht, y, hc, hat⟩) (by simp [hno])
  · rw [← htarget, ht] at hup
    exact hd hup

/-- The pieces of the requests of the port that are left are SENT to other ports (R12). -/
theorem CountedStart.ownSent (h : CountedStart p s b) (m : Tracks True False b f) :
    ∀ r ∈ f.requests, r.dom.port = p → ∀ c ∈ r.pieces, c.state.live = true → c.state = .sent := by
  intro q hq ht y hy hl
  obtain ⟨r, hr, ⟨-, hdom, -, -⟩, hfrom⟩ := h.origin m q hq
  obtain ⟨-, c, -, hsent, rfl | ⟨hch, -, -⟩⟩ := hfrom y hy hl
  · exact hsent (hdom ▸ ht)
  · exact absurd (hsent (hdom ▸ ht)) (by simp [hch])

/-- A unit all of whose pieces were at the port has none in flight (R110). -/
theorem CountedStart.drained (h : CountedStart p s b) (m : Tracks True False b f) {u : Fin 8}
    (hall : ∀ r ∈ s.requests, r.unit = some u → 0 < r.livePieces → r.atTarget p) : (f.units.get u).inFlight = 0 := by
  have hcount := (m.piecesFrom h.count).2
  rw [hcount.2.2 u]
  unfold State.livePieces
  refine List.sum_eq_zero fun k hk => ?_
  obtain ⟨q, hq, rfl⟩ := List.mem_map.mp hk
  obtain ⟨hq, hu⟩ := List.mem_filter.mp hq
  obtain ⟨r, hr, ⟨-, -, -, hunit⟩, hfrom⟩ := h.origin m q hq
  refine List.length_eq_zero_iff.mpr (List.filter_eq_nil_iff.mpr fun y hy hl => ?_)
  obtain ⟨hno, c, hc, -, hor⟩ := hfrom y hy hl
  have hlc : c.state.live = true := by
    rcases hor with rfl | ⟨hch, -, -⟩
    · exact hl
    · rw [hch]; rfl
  have hpos : 0 < r.livePieces := List.length_pos_of_mem (List.mem_filter.mpr ⟨hc, hlc⟩)
  have := Request.atTarget_iff.mp (hall r hr (hunit ▸ of_decide_eq_true hu) hpos)
  rw [hno] at this
  cases this

/-! ### Requests that end with the reset -/

theorem CountedStart.mem (h : CountedStart p s b) {r : Request} (hr : r ∈ s.requests) : r.resetAt p ∈ b.requests := by
  rw [h.requests]
  exact List.mem_map_of_mem hr

/-- A record of which nothing is live ends (R56, R76). -/
theorem Request.over_of_ended {before : State} {ids : List Nat} (hb : b.CountLaw) {q : Request} (hq : q ∈ b.requests)
    (hn : ∀ c ∈ q.pieces, c.state.live = false) (hids : q.id ∈ ids) :
    q.outstanding = 0 ∧ q.Over (ids.foldl (fun t id => finishRequest id t) (evalNewHeads before b)) := by
  have h0 : q.outstanding = 0 := by
    rw [(hb.counted hq).2]
    exact List.length_eq_zero_iff.mpr (List.filter_eq_nil_iff.mpr fun c hc => by rw [hn c hc]; exact Bool.false_ne_true)
  have hidle : q.Idle := fun c hc hl => absurd (hn c hc) (by simp [hl])
  have hm : Tracks True False b (evalNewHeads before b) := Tracks.evalNewHeads before fun _ => hb
  refine ⟨h0, foldl_finishRequest_over h0 ids hids ?_ ?_⟩
  · exact hm.countLaw (fun _ => hb) trivial
  · rcases hm.idle hb hq hidle with hmem | ⟨-, ho⟩
    · exact .inl hmem
    · exact .inr ho

/-- The COMPLETION of a request that the reset of its target ends (R71, R76). -/
theorem Request.completionFor_reached {r : Request} (h : r.reached p = true) (ho : r.dom.port ≠ p) (x : Fin 32) :
    (r.resetAt p).completionFor x = .completion x .linkDown [] := by
  have hw : (r.resetAt p).worst = .linkDown := by
    unfold Request.resetAt Request.downedAt
    rw [if_neg ho, if_pos h]
    exact Request.downed_worst h
  unfold Request.completionFor
  rw [hw, if_neg (fun e => nomatch e.2)]
  rfl

/-! ### The target tags of requests of the port -/

theorem requestTags_kept {freed : Fin 16 → Bool} {l : List OutPacket} {x : Fin 16} (h : freed x = true) :
    x ∉ requestTags (keptPackets freed l) := by
  intro hm
  unfold requestTags keptPackets at hm
  obtain ⟨pkt, hpkt, e⟩ := List.mem_filterMap.mp hm
  obtain ⟨-, hk⟩ := List.mem_filter.mp hpkt
  cases pkt with
  | request t kind a l y =>
    obtain rfl := Option.some.inj e
    simp [h] at hk
  | completion t st data => cases e
  | reply t st res => cases e
  | event a b c d => cases e
  | notice k => cases e

theorem grantedIn_iff {l : List Request} {x : Fin 16} :
    grantedIn l x = true ↔ ∃ r ∈ l, ∃ c ∈ r.pieces, c.state = .granted ∧ c.ttag = some x := by
  unfold grantedIn freedBy
  simp only [List.any_eq_true, List.mem_filter, decide_eq_true_eq]
  constructor
  · rintro ⟨r, hr, c, ⟨hc, -⟩, hg, ht⟩
    exact ⟨r, hr, c, hc, hg, ht⟩
  · rintro ⟨r, hr, c, hc, hg, ht⟩
    exact ⟨r, hr, c, ⟨hc, by rw [hg]; rfl⟩, hg, ht⟩

/-- The tag of a GRANTED piece of the port's requests is FREE after the reset, and its packet gone (R12, R63). -/
theorem CountedStart.grantedTag (h : CountedStart p s b) (m : Tracks True False b f) {r : Request} (hr : r ∈ s.requests) (ho : r.dom.port = p)
    (ht : r.target ≠ p) {c : Piece} (hc : c ∈ r.pieces) {x : Fin 16} (hx : c.ttag = some x) (hg : c.state = .granted) :
    (f.ports.get r.target).tags.get x = .free ∧ x ∉ requestTags (f.ports.get r.target).outbound := by
  have hin : grantedIn (s.requests.filter (fun q => decide (q.dom.port = p ∧ q.target = r.target))) x = true :=
    grantedIn_iff.mpr ⟨r, List.mem_filter.mpr ⟨hr, decide_eq_true ⟨ho, rfl⟩⟩, c, hc, hg, hx⟩
  refine m.tag_free ?_ ?_
  · rw [h.ports _ ht, PortState.deserted_tags, if_pos hin]
  · rw [h.ports _ ht, PortState.deserted_outbound]
    exact requestTags_kept hin

/-- A piece that is GRANTED or SENT under a tag is the one piece under it (R64). -/
theorem State.TargetLaw.one_piece (h : s.TargetLaw) (hs : s.CountLaw) {r q : Request} (hr : r ∈ s.requests) (hq : q ∈ s.requests)
    {c y : Piece} (hc : c ∈ r.pieces) (hy : y ∈ q.pieces) (hcs : c.state = .granted ∨ c.state = .sent)
    (hys : y.state = .granted ∨ y.state = .sent) (ht : r.target = q.target) {x : Fin 16} (hcx : c.ttag = some x) (hyx : y.ttag = some x) :
    q = r ∧ y = c := by
  obtain ⟨-, hheld, -, -⟩ := h
  obtain ⟨i, hi, e⟩ := hheld r hr c hc hcs
  obtain ⟨j, hj, e'⟩ := hheld q hq y hy hys
  obtain rfl : x = i := Option.some.inj (hcx.symm.trans hi)
  obtain rfl : x = j := Option.some.inj (hyx.symm.trans hj)
  rw [ht, e'] at e
  exact hs.same_piece hr hq hc hy (Holder.piece.inj (TagState.live.inj e)).symm

/-- The tag of a SENT piece of the port's requests stays (R12). -/
theorem CountedStart.sentTag (h : CountedStart p s b) (m : Tracks True False b f) (hs : s.CountLaw) (htl : s.TargetLaw) {r : Request}
    (hr : r ∈ s.requests) (ht : r.target ≠ p) {c : Piece} (hc : c ∈ r.pieces) {x : Fin 16} (hx : c.ttag = some x) (hg : c.state = .sent) :
    (f.ports.get r.target).tags.get x = (s.ports.get r.target).tags.get x := by
  have hno (q : Request) (hq : q ∈ s.requests) (hqt : q.target = r.target) (y : Piece) (hy : y ∈ q.pieces) (hys : y.state = .granted) :
      y.ttag ≠ some x := by
    intro hyx
    obtain ⟨-, rfl⟩ := htl.one_piece hs hr hq hc hy (.inr hg) (.inl hys) hqt.symm hx hyx
    rw [hg] at hys
    cases hys
  have hin : grantedIn (s.requests.filter (fun q => decide (q.dom.port = p ∧ q.target = r.target))) x = false := by
    refine Bool.eq_false_iff.mpr fun e => ?_
    obtain ⟨q, hq, y, hy, hys, hyx⟩ := grantedIn_iff.mp e
    obtain ⟨hq, hqt⟩ := List.mem_filter.mp hq
    exact hno q hq (of_decide_eq_true hqt).2 y hy hys hyx
  have hgrant : NoGrant r.target x b := by
    intro q hq hqt y hy hys
    rw [h.requests] at hq
    obtain ⟨q0, hq0, rfl⟩ := List.mem_map.mp hq
    obtain ⟨-, hmem, -⟩ := Request.resetAt_piece hy (by rw [hys]; rfl)
    exact hno q0 hq0 ((Request.resetAt_fields p q0).2.2.2.1.symm.trans hqt) y hmem hys
  rw [m.tag_kept h.count hgrant, h.ports _ ht, PortState.deserted_tags, hin, if_neg Bool.false_ne_true]

/-! ### Queues and lists -/

/-- The requests of a domain leave the queues of the ports (R12). -/
theorem CountedStart.queue (h : CountedStart p s b) (htl : s.TargetLaw) {q : Port} (hq : q ≠ p) (d : Domain) :
    (b.ports.get q).arbiter.queueOf d = if d.port = p then [] else (s.ports.get q).arbiter.queueOf d := by
  obtain ⟨hqueue, -⟩ := htl
  rw [h.ports q hq]
  by_cases hd : d.port = p
  · rw [if_pos hd, PortState.deserted_queue (d := d) _ _ fun r hr => ?_, if_pos rfl]
    · refine List.filter_eq_nil_iff.mpr fun ref href => ?_
      obtain ⟨r, hr, c, hc, rfl, ht, hrd, hst⟩ := (hqueue q d).2 ref href
      have hqueued : queuedIn r (r.pieces.filter (fun c => c.state.unsent)) ⟨r.id, c.num⟩ = true :=
        List.any_eq_true.mpr ⟨c, List.mem_filter.mpr ⟨hc, by rw [hst]; rfl⟩, decide_eq_true ⟨hst, rfl⟩⟩
      have hany : (s.requests.filter (fun r => decide (r.dom.port = p ∧ r.target = q))).any
          (fun x => queuedIn x (x.pieces.filter (fun c => c.state.unsent)) ⟨r.id, c.num⟩) = true :=
        List.any_eq_true.mpr ⟨r, List.mem_filter.mpr ⟨hr, decide_eq_true ⟨by rw [hrd]; exact hd, ht⟩⟩, hqueued⟩
      rw [hany]
      exact Bool.false_ne_true
    · obtain ⟨-, e⟩ := List.mem_filter.mp hr
      exact Domain.port_inj ((of_decide_eq_true e).1.trans hd.symm)
  · rw [if_neg hd]
    cases hp : p.domain with
    | none =>
      have hnil : s.requests.filter (fun r => decide (r.dom.port = p ∧ r.target = q)) = [] :=
        List.filter_eq_nil_iff.mpr fun r _ e => by
          rw [← (of_decide_eq_true e).1, Domain.port_domain] at hp
          cases hp
      rw [hnil]
      rfl
    | some e =>
      have hpe : p = e.port := Port.domain_eq_some.mp hp
      rw [PortState.deserted_queue (d := e) _ _ fun r hr => ?_, if_neg fun x => hd (by rw [x, hpe])]
      obtain ⟨-, x⟩ := List.mem_filter.mp hr
      exact Domain.port_inj ((of_decide_eq_true x).1.trans hpe)

/-- Queues of a domain none of whose pieces is CHARGING stay empty. -/
theorem Tracks.queue_empty {d : Domain} (m : Tracks True False b f) (hb : b.CountLaw)
    (hs : ∀ r ∈ b.requests, r.dom = d → ∀ c ∈ r.pieces, c.state ≠ .charging)
    (hq : ∀ q : Port, (b.ports.get q).arbiter.queueOf d = []) (q : Port) : (f.ports.get q).arbiter.queueOf d = [] := by
  induction m generalizing q with
  | refl => exact hq q
  | tail m g ih =>
    refine g.queue_empty (fun x hx hd y hy hch => ?_) ih q
    obtain ⟨r, hr, same, hfrom⟩ := (Tracks.piecesFrom m hb).1 x hx
    obtain ⟨c, hc, rfl | ⟨-, rfl, -⟩⟩ := hfrom y hy (by rw [hch]; rfl)
    · exact hs r hr (same.dom ▸ hd) y hc hch
    · cases hch

/-- A request of the port is on no list (R12, R89). -/
theorem CountedStart.unlisted (h : CountedStart p s b) {r : Request} (hr : r ∈ s.requests) (hh : r.hit p = true) {n : Fin 16}
    (hm : r.meter = some n) : r.id ∉ (b.meters.get n).waiting := by
  rw [h.meters n]
  unfold withoutListed
  intro hmem
  obtain ⟨-, hgone⟩ := List.mem_filter.mp hmem
  have : s.requests.any (fun q => decide (q.id = r.id ∧ q.meter = some n) && q.hit p) = true :=
    List.any_eq_true.mpr ⟨r, hr, by rw [decide_eq_true ⟨rfl, hm⟩, hh]; rfl⟩
  dsimp only at hgone
  rw [this] at hgone
  cases hgone

/-- The accounts of the waiting lists hold when the meters go on (R89). -/
theorem CountedStart.waits (h : CountedStart p s b) (hw : s.WaitingLaw)
    (hlink : ∀ q, q ≠ p → (b.ports.get q).link = (s.ports.get q).link) : Waits b.ups none b := by
  obtain ⟨hlist, hopen, -⟩ := hw
  have hsub (n : Fin 16) : (b.meters.get n).waiting.Sublist (s.meters.get n).waiting := by
    rw [h.meters n]
    exact List.filter_sublist
  refine ⟨h.count, fun n => ((hlist n).1).sublist (hsub n), fun n id hid => ?_, fun q hq hab => ?_⟩
  · obtain ⟨r, hr, rfl, hm, hch, hup⟩ := (hlist n).2 id ((hsub n).subset hid)
    have hnot : r.hit p = false := by
      refine Bool.eq_false_iff.mpr fun hh => h.unlisted hr hh hm hid
    have hsame := Request.resetAt_same hnot
    refine ⟨r, hsame ▸ h.mem hr, rfl, hm, fun _ => hch, fun hd c hc hl => ?_⟩
    by_cases ht : r.target = p
    · refine (PieceState.live_cases hl).resolve_right fun hat => ?_
      obtain ⟨-, hreach⟩ := Bool.or_eq_false_iff.mp hnot
      exact absurd (Request.reached_iff.mpr ⟨ht, c, hc, hat⟩) (by simp [hreach])
    · exact hup (fun hu => hd ((hlink _ ht).trans hu)) c hc hl
  · rw [h.requests] at hq
    obtain ⟨r, hr, rfl⟩ := List.mem_map.mp hq
    have ho : r.dom.port ≠ p := fun e => by
      unfold Request.resetAt at hab
      rw [if_pos e] at hab
      cases hab
    have hab' : r.abandoned = false := by
      unfold Request.resetAt Request.downedAt at hab
      rw [if_neg ho] at hab
      split at hab <;> exact hab
    unfold State.ups
    rw [(Request.resetAt_fields p r).2.1, hlink _ ho]
    exact hopen r hr hab'

end

end Sys2Proof.Machine
end

section
/-! PROOFS. The port reset, whole: what it leaves of the port, of every other part, and the handovers it ends (R10 to R13, R76, R110). -/

namespace Sys2Proof.Machine

open Sys2Proof

section
variable {p : Port} {link : LinkState} {hold : Option Nat} {cutting : Option (Fin 8)} {s : State}

/-! ### The states between -/

theorem resetEnded_tracks {counted : Prop} (h : counted → (resetStart p link hold s).CountLaw) :
    Tracks counted False (resetStart p link hold s) (resetEnded p link hold s) :=
  (Tracks.evalNewHeads s h).trans (Tracks.foldl (fun t id _ => Tracks.finishRequest id t) _
    ((Tracks.evalNewHeads (cuts := False) s h).countLaw h))

theorem resetBody_fails : Failed (resetEnded p link hold s) (resetBody p link hold s) := by
  rw [resetBody_eq]
  exact Failed.raiseFault _ _

theorem resetPort_fold (hl : link ≠ .up) (cutting : Option (Fin 8)) : resetPort p link hold cutting s =
    (endingOn p cutting (resetBody p link hold s)).foldl (fun x u => withScrubFailed u x) (resetBody p link hold s) := by
  rw [resetPort_eq, endHandovers_down cutting (by rw [resetBody_link]; exact hl)]

theorem resetPort_fails (hl : link ≠ .up) : Failed (resetBody p link hold s) (resetPort p link hold cutting s) := by
  rw [resetPort_fold hl]
  exact Failed.foldl (fun x u => Failed.withScrubFailed u x) _ _

theorem resetEnded_confined : Confined (resetStart p link hold s) (resetEnded p link hold s) :=
  Confined.tracks (resetEnded_tracks (counted := False) False.elim)

theorem resetEnded_port (hl : link ≠ .up) : (resetEnded p link hold s).ports.get p = (s.ports.get p).atReset link hold :=
  (resetEnded_tracks (counted := False) False.elim).atReset hl (resetStart_of hl).port

theorem resetPort_port (hl : link ≠ .up) : (resetPort p link hold cutting s).ports.get p = (s.ports.get p).atReset link hold := by
  have hf := resetEnded_port (hold := hold) (s := s) (p := p) hl
  have hall := (resetBody_fails (p := p) (link := link) (hold := hold) (s := s)).trans (resetPort_fails (cutting := cutting) hl)
  rw [hall.spoken.down p (by rw [hf]; exact hl), hf]

/-- The fields that a port reset leaves alone: those of the other ports, and what no traffic changes (R10). -/
theorem resetPort_face (hl : link ≠ .up) {q : Port} (hq : q ≠ p) :
    ((resetPort p link hold cutting s).ports.get q).face = (s.ports.get q).face := by
  have hall := (resetBody_fails (p := p) (link := link) (hold := hold) (s := s)).trans (resetPort_fails (cutting := cutting) hl)
  obtain ⟨_, _, _, e, -⟩ := (resetEnded_confined (p := p) (link := link) (hold := hold) (s := s)).port q
  rw [hall.quiet.face q, e]
  exact (resetStart_of hl).face q hq

theorem resetPort_fixed (hl : link ≠ .up) : (resetPort p link hold cutting s).commit = (if p = .P then none else s.commit) ∧
    (resetPort p link hold cutting s).fixed = { s with commit := (resetPort p link hold cutting s).commit }.fixed := by
  have hall := (resetBody_fails (p := p) (link := link) (hold := hold) (s := s)).trans (resetPort_fails (cutting := cutting) hl)
  obtain ⟨-, -, -, -, -, hconf⟩ := (resetEnded_confined (p := p) (link := link) (hold := hold) (s := s)).static
  have hst := resetStart_of (p := p) (hold := hold) (s := s) hl
  have hfix := hall.quiet.fixed.trans hconf
  have hc : (resetPort p link hold cutting s).commit = (resetStart p link hold s).commit := congrArg (fun x => x.2.2.2.2.2.1) hfix
  refine ⟨hc.trans hst.commit, ?_⟩
  rw [hfix, hc]
  exact hst.fixed

/-! ### The initiator side (R12, R13) -/

theorem resetPort_initiator (hl : link ≠ .up) (d : Domain) (hd : p = d.port) :
    ((resetPort p link hold cutting s).inits.get d).tags = [] ∧ ((resetPort p link hold cutting s).inits.get d).gap = false ∧
    ((resetPort p link hold cutting s).inits.get d).eventCount = 0 ∧
    ((resetPort p link hold cutting s).inits.get d).faultNotice = .empty ∧
    ((resetPort p link hold cutting s).inits.get d).custodyNotice ≠ .waiting ∧
    (∀ c ∈ ((resetPort p link hold cutting s).inits.get d).commands, c.discard = true) ∧
    (∀ u : Fin 8, ∀ k ∈ ((resetPort p link hold cutting s).units.get u).parked, k.req.dom ≠ d) ∧
    (∀ r ∈ (resetPort p link hold cutting s).requests, r.dom = d → r.abandoned = true) ∧
    noticeArmed (resetPort p link hold cutting s) d = true := by
  have hst := resetStart_of (p := p) (hold := hold) (s := s) hl
  have hconf := resetEnded_confined (p := p) (link := link) (hold := hold) (s := s)
  have hall := (resetBody_fails (p := p) (link := link) (hold := hold) (s := s)).trans (resetPort_fails (cutting := cutting) hl)
  have htracks := (resetEnded_tracks (p := p) (link := link) (hold := hold) (s := s) (counted := False) False.elim).origins
  have hdown : ((resetEnded p link hold s).ports.get d.port).link ≠ .up := by
    rw [← hd, resetEnded_port hl]
    exact hl
  obtain ⟨hinits, hsup, hown, -, -, -⟩ := hconf.static
  obtain ⟨l, hmark, hinit⟩ := hst.init d hd
  obtain ⟨n, k, e, hn⟩ := hall.spoken.init d hdown
  rw [hinits, hinit] at e hn
  refine ⟨by rw [e]; rfl, by rw [e]; rfl, by rw [e]; rfl, by rw [e]; rfl, ?_, fun c hc => ?_, fun u k hk => ?_, fun r hr hrd => ?_, ?_⟩
  · rw [e]
    exact hn (by simp [emptyInit])
  · obtain ⟨x, hx, hcx⟩ := hall.spoken.commands d c hc
    rw [hinits, hinit] at hx
    rw [hcx]
    exact hmark x hx
  · have hk := (hall.unit u).2 k hk
    obtain ⟨j, e⟩ := hconf.unit u
    rw [e] at hk
    exact hst.parked d hd u k hk
  · rw [hall.requests] at hr
    obtain ⟨x, hx, same⟩ := htracks r hr
    rw [same.abandoned]
    exact hst.abandoned d hd x hx (same.dom.symm.trans hrd)
  · rw [hall.spoken.armed d hdown, noticeArmed_congr hsup hown]
    exact hst.armed d hd

/-- No gate event waits for the port when its handovers end (log entry 22). -/
theorem resetBody_notice (hl : link ≠ .up) (d : Domain) (hd : p = d.port) :
    ((resetBody p link hold s).inits.get d).custodyNotice = .empty := by
  obtain ⟨l, -, hinit⟩ := (resetStart_of (p := p) (hold := hold) (s := s) hl).init d hd
  obtain ⟨hinits, -⟩ := (resetEnded_confined (p := p) (link := link) (hold := hold) (s := s)).static
  rw [resetBody_eq]
  obtain ⟨v, e⟩ := (FaultOnly.raiseFault (linkDownFault p (reachedBy p s).length) (resetEnded p link hold s)).init d
  rw [e, hinits, hinit]
  rfl

/-! ### The record (R76) -/

/-- A fault of a port is charged to no domain (R126). -/
theorem raiseFault_port (c : FaultClass) (src : Byte) (u : Option (Fin 8)) (a : Option Addr) (n : Nat) (s : State) :
    raiseFault (portFault c src u a n) s = recordFault (portFault c src u a n) s := rfl

theorem handFaultNotice_rest (d : Domain) (s : State) : (handFaultNotice d s).supQ = s.supQ ∧ (handFaultNotice d s).scores = s.scores ∧
    (handFaultNotice d s).domains = s.domains := by
  unfold handFaultNotice placeOut
  split
  · split <;> exact ⟨rfl, rfl, rfl⟩
  · exact ⟨rfl, rfl, rfl⟩

theorem afterPlacing_rest (d : Domain) (n : Nat) (s : State) : (afterPlacing d n s).supQ.records = s.supQ.records ∧
    (afterPlacing d n s).scores = s.scores ∧ (afterPlacing d n s).domains = s.domains := by
  unfold afterPlacing tellReader
  split
  · obtain ⟨h1, h2, h3⟩ := handFaultNotice_rest d (setArmed d false s)
    rw [h1, h2, h3]
    cases d <;> exact ⟨rfl, rfl, rfl⟩
  · exact ⟨rfl, rfl, rfl⟩

/-- The record of a fault of a port is the next of the supervisor queue, if its class is recorded and the queue has room (R129). -/
theorem recordFault_port (c : FaultClass) (src : Byte) (u : Option (Fin 8)) (a : Option Addr) (n : Nat) (s : State) :
    (recordFault (portFault c src u a n) s).scores = s.scores ∧ (recordFault (portFault c src u a n) s).domains = s.domains ∧
    ((s.controls.get c.index).record = true → s.supQ.records.length < 32 →
      (recordFault (portFault c src u a n) s).supQ.records = s.supQ.records ++ [⟨s.supQ.counter, s.gateTime, portFault c src u a n⟩]) := by
  unfold recordFault
  rw [show delegatedTo s (portFault c src u a n) = none from rfl]
  dsimp only
  obtain ⟨h1, h2, h3⟩ := afterPlacing_rest .pay (queueFill s .pay)
    (s.setSupQ (s.supQ.put Config.supervisorPlaces (fun k => ⟨k, s.gateTime, portFault c src u a n⟩)))
  split
  · refine ⟨h2, h3, fun _ hroom => ?_⟩
    rw [h1]
    exact congrArg FaultQueue.records (FaultQueue.put_room hroom)
  · rename_i hno
    exact ⟨rfl, rfl, fun hrec => absurd hrec hno⟩

theorem resetBody_record (hl : link ≠ .up) :
    (resetBody p link hold s).scores = s.scores ∧ (resetBody p link hold s).domains = s.domains ∧
    ((s.controls.get FaultClass.linkDown.index).record = true → s.supQ.records.length < 32 →
      (resetBody p link hold s).supQ.records = s.supQ.records ++ [linkDownRecord p s]) := by
  have hst := resetStart_of (p := p) (hold := hold) (s := s) hl
  obtain ⟨-, hsup, -, hsc, hdo, hfix⟩ := (resetEnded_confined (p := p) (link := link) (hold := hold) (s := s)).static
  have hfixed := hfix.trans hst.fixed
  have hctl : (resetEnded p link hold s).controls = s.controls := congrArg (fun x => x.2.2.2.2.2.2.1) hfixed
  have htime : (resetEnded p link hold s).gateTime = s.gateTime := congrArg (fun x => x.1) hfixed
  obtain ⟨h1, h2, h3⟩ := recordFault_port .linkDown p.byte none none (reachedBy p s).length (resetEnded p link hold s)
  rw [resetBody_eq]
  refine ⟨h1.trans (hsc.trans hst.scores), h2.trans (hdo.trans hst.domains), fun hrec hroom => ?_⟩
  rw [hctl, hsup, hst.records.1, hst.records.2, htime] at h3
  refine (h3 hrec hroom).trans ?_
  have hsame : reachedBy p s = s.requests.filter (fun r => decide (r.target = p) &&
      r.pieces.any (fun c => decide (c.state = .queued ∨ c.state = .granted ∨ c.state = .sent))) := by
    refine List.filter_congr fun r _ => ?_
    unfold Request.reached
    congr 2
    funext c
    rw [Bool.eq_iff_iff, decide_eq_true_eq, PieceState.atTarget_iff]
  unfold linkDownRecord
  rw [hsame]
  rfl

/-! ### The requests (R12, R70, R76) -/

theorem mem_resetIds (hs : s.CountLaw) {r : Request} (hr : r ∈ s.requests) (hh : r.hit p = true) : r.id ∈ resetIds p link hold s := by
  obtain ⟨-, hrun⟩ := targetReset_eq (p := p) (link := link) (hold := hold) hs
  unfold resetIds
  rcases Bool.or_eq_true_iff.mp hh with ho | hreach
  · have hp : p.domain = some r.dom := Port.domain_eq_some.mpr (of_decide_eq_true ho).symm
    rw [hp]
    refine List.mem_append_right _ (List.mem_map.mpr ⟨r.downedAt p, List.mem_filter.mpr ⟨?_, decide_eq_true ?_⟩, ?_⟩)
    · rw [hrun]
      exact List.mem_map_of_mem hr
    · unfold Request.downedAt
      split <;> rfl
    · unfold Request.downedAt
      split <;> rfl
  · exact List.mem_append_left _ (List.mem_map.mpr ⟨r, List.mem_filter.mpr ⟨hr, hreach⟩, rfl⟩)

theorem resetIds_hit (hs : s.CountLaw) {id : Nat} (h : id ∈ resetIds p link hold s) : ∃ r ∈ s.requests, r.id = id ∧ r.hit p = true := by
  obtain ⟨-, hrun⟩ := targetReset_eq (p := p) (link := link) (hold := hold) hs
  unfold resetIds at h
  rcases List.mem_append.mp h with hm | hm
  · obtain ⟨r, hr, rfl⟩ := List.mem_map.mp hm
    obtain ⟨hr, hreach⟩ := List.mem_filter.mp hr
    exact ⟨r, hr, rfl, Bool.or_eq_true_iff.mpr (.inr hreach)⟩
  · cases hp : p.domain with
    | none => rw [hp] at hm; cases hm
    | some d =>
      rw [hp] at hm
      obtain ⟨q, hq, rfl⟩ := List.mem_map.mp hm
      obtain ⟨hq, hd⟩ := List.mem_filter.mp hq
      rw [hrun] at hq
      obtain ⟨r, hr, rfl⟩ := List.mem_map.mp hq
      have hsame : (r.downedAt p).dom = r.dom ∧ (r.downedAt p).id = r.id := by unfold Request.downedAt; split <;> exact ⟨rfl, rfl⟩
      refine ⟨r, hr, hsame.2.symm, Bool.or_eq_true_iff.mpr (.inl (decide_eq_true ?_))⟩
      rw [← hsame.1, of_decide_eq_true hd]
      exact (Port.domain_eq_some.mp hp).symm

theorem resetStart_down (hl : link ≠ .up) : ((resetStart p link hold s).ports.get p).link ≠ .up := by
  rw [(resetStart_of hl).port]
  exact hl

theorem resetEnded_counted (hs : s.CountLaw) : Tracks True False (resetStart p link hold s) (resetEnded p link hold s) :=
  resetEnded_tracks fun _ => (resetStart_counted hs).count

/-- A record of the port with pieces SENT elsewhere, as the reset leaves it (R12). -/
theorem CountedStart.resetAt_kept {b : State} (hst : CountedStart p s b) {r : Request} (hr : r ∈ s.requests) (ho : r.dom.port = p) (ht : r.target ≠ p) :
    r.resetAt p = { r with
      abandoned := true
      outstanding := (r.pieces.filter (fun c => decide (c.state = .sent))).length
      pieces := r.pieces.map (fun c => if c.state.unsent then { c with state := .removed, ttag := none, deadline := none } else c) } := by
  have hcount := (hst.count.counted (hst.mem hr)).2
  have hform : r.resetAt p = r.deserted := by
    unfold Request.resetAt Request.downedAt
    rw [if_pos ho, if_neg fun e => ht (Request.reached_target e)]
  rw [hform] at hcount ⊢
  have hsent : r.deserted.livePieces = (r.pieces.filter (fun c => decide (c.state = .sent))).length := by
    unfold Request.livePieces
    show ((endedPieces PieceState.unsent .removed r.pieces).filter (fun c => c.state.live)).length = _
    unfold endedPieces
    rw [List.filter_map, List.length_map]
    congr 1
    refine List.filter_congr fun c _ => ?_
    simp only [Function.comp_apply]
    cases hc : c.state <;> simp [PieceState.unsent, PieceState.live, Piece.endedIn, hc]
  have hworst : r.deserted.worst = r.worst := by
    show (if _ then mergeEnd r.worst .removed else r.worst) = r.worst
    split <;> rfl
  rw [hsent] at hcount
  rw [← hcount]
  show r.deserted = { r with abandoned := true, outstanding := r.deserted.outstanding, pieces := r.deserted.pieces }
  rw [show r.deserted = { r with
    abandoned := true, outstanding := r.deserted.outstanding, pieces := r.deserted.pieces, worst := r.deserted.worst } from rfl, hworst]

section
variable (hs : s.CountLaw) (hl : link ≠ .up)
include hs hl

/-- A request that ends with the reset is released, and answered where its initiator's port is UP. -/
theorem resetPort_over {r : Request} (hr : r ∈ s.requests) (hh : r.hit p = true) (hn : ∀ c ∈ (r.resetAt p).pieces, c.state.live = false) :
    (∀ q ∈ (resetPort p link hold cutting s).requests, q.id ≠ r.id) ∧
    ∀ x, r.tag = some x → (r.resetAt p).abandoned = false → r.dom.port ≠ p → (s.ports.get r.dom.port).link = .up →
      (r.resetAt p).completionFor x ∈ ((resetPort p link hold cutting s).ports.get r.dom.port).outbound := by
  have hall := (resetBody_fails (p := p) (link := link) (hold := hold) (s := s)).trans (resetPort_fails (cutting := cutting) hl)
  have hst := resetStart_counted (p := p) (link := link) (hold := hold) hs
  obtain ⟨hid, hdom, htag, -⟩ := Request.resetAt_fields p r
  obtain ⟨-, hgone, hans⟩ := Request.over_of_ended (before := s) hst.count (hst.mem hr) hn
    (hid ▸ mem_resetIds (link := link) (hold := hold) hs hr hh)
  refine ⟨fun q hq => ?_, fun x hx ha ho hup => ?_⟩
  · rw [hall.requests] at hq
    rw [← hid]
    exact hgone q hq
  · have hface := (congrArg (fun x => x.1) (resetPort_face (cutting := cutting) (hold := hold) (s := s) hl ho)).trans hup
    obtain ⟨more, -, e⟩ := hall.port r.dom.port
    rw [e]
    refine List.mem_append_left _ ?_
    rw [← hdom]
    refine hans x (htag.trans hx) ha ?_
    rw [hdom]
    have : ((resetPort p link hold cutting s).ports.get r.dom.port).link = ((resetEnded p link hold s).ports.get r.dom.port).link := by rw [e]
    exact this.symm.trans hface

/-- A request that the reset of its target reaches (R76). -/
theorem resetPort_reached {r : Request} (hr : r ∈ s.requests) (ha : r.atTarget p) :
    (∀ q ∈ (resetPort p link hold cutting s).requests, q.id = r.id → q.target ≠ p) ∧
    ∀ x, r.tag = some x → r.abandoned = false → r.dom.port ≠ p → (s.ports.get r.dom.port).link = .up →
      OutPacket.completion x .linkDown [] ∈ ((resetPort p link hold cutting s).ports.get r.dom.port).outbound := by
  have hreach := Request.atTarget_iff.mp ha
  have hn : ∀ c ∈ (r.resetAt p).pieces, c.state.live = false := fun c hc => by
    by_contra hlive
    obtain ⟨hno, -, -⟩ := Request.resetAt_piece hc (by simpa using hlive)
    rw [hreach] at hno
    cases hno
  obtain ⟨hgone, hans⟩ := resetPort_over (cutting := cutting) (hold := hold) hs hl hr (Bool.or_eq_true_iff.mpr (.inr hreach)) hn
  refine ⟨fun q hq e => absurd e (hgone q hq), fun x hx hab ho hup => ?_⟩
  rw [← Request.completionFor_reached hreach ho x]
  refine hans x hx ?_ ho hup
  unfold Request.resetAt Request.downedAt
  rw [if_neg ho, if_pos hreach]
  exact hab

theorem resetPort_kept {r : Request} (hr : r ∈ s.requests) (ho : r.dom.port = p) (ht : r.target ≠ p) (hsent : ∃ c ∈ r.pieces, c.state = .sent) :
    r.resetAt p ∈ (resetPort p link hold cutting s).requests := by
  have hall := (resetBody_fails (p := p) (link := link) (hold := hold) (s := s)).trans (resetPort_fails (cutting := cutting) hl)
  have hst := resetStart_counted (p := p) (link := link) (hold := hold) hs
  have hidle : (r.resetAt p).Idle := fun c hc hlive => (Request.resetAt_piece hc hlive).2.2 ho
  rw [hall.requests]
  refine ((resetEnded_counted hs).idle hst.count (hst.mem hr) hidle).resolve_right fun h => ?_
  obtain ⟨c, hc, hcs⟩ := hsent
  have h0 := h.1
  rw [hst.resetAt_kept hr ho ht] at h0
  have := List.length_eq_zero_iff.mp h0
  exact absurd (List.mem_filter.mpr ⟨hc, decide_eq_true hcs⟩) (by rw [this]; simp)

/-- What a reset of the port of `d` leaves of the requests of `d` (R12). -/
theorem resetPort_abandoned (htl : s.TargetLaw) (d : Domain) (hd : p = d.port) : AbandonedIn d p s (resetPort p link hold cutting s) := by
  have hall := (resetBody_fails (p := p) (link := link) (hold := hold) (s := s)).trans (resetPort_fails (cutting := cutting) hl)
  have hst := resetStart_counted (p := p) (link := link) (hold := hold) hs
  have htr := resetEnded_counted (p := p) (link := link) (hold := hold) hs
  have hown (r : Request) (h : r.dom = d) : r.dom.port = p := by rw [h, hd]
  have hsent := hst.ownSent htr
  have hbsent : ∀ r ∈ (resetStart p link hold s).requests, r.dom = d → ∀ c ∈ r.pieces, c.state ≠ .charging := fun q hq hqd c hc hch => by
    have := hst.ownSent (Tracks.refl _) q hq (hown q hqd) c hc (by rw [hch]; rfl)
    rw [hch] at this
    cases this
  have hrest (q : Port) : ((resetPort p link hold cutting s).ports.get q).tags = ((resetEnded p link hold s).ports.get q).tags ∧
      requestTags ((resetPort p link hold cutting s).ports.get q).outbound = requestTags ((resetEnded p link hold s).ports.get q).outbound ∧
      ((resetPort p link hold cutting s).ports.get q).arbiter = ((resetEnded p link hold s).ports.get q).arbiter := by
    obtain ⟨more, hmore, e⟩ := hall.port q
    rw [e]
    refine ⟨rfl, ?_, rfl⟩
    unfold requestTags at hmore ⊢
    rw [List.filterMap_append, hmore, List.append_nil]
  refine ⟨fun r hr hrd c hc => ?_, fun q => ?_, fun r hr hrd => ⟨fun n hm hmem => ?_, fun c hc x hx ht => ⟨fun hg => ?_, fun hg => ?_⟩,
    fun hor => ?_, fun ht hx => ?_⟩⟩
  · rw [hall.requests] at hr
    have hlive : c.state.live = true → c.state = .sent := hsent r hr (hown r hrd) c hc
    refine ⟨fun e => ?_, fun e => ?_, fun e => ?_⟩ <;> (rw [e] at hlive; exact absurd (hlive rfl) (by simp))
  · rw [(hrest q).2.2]
    refine Tracks.queue_empty htr hst.count hbsent (fun x => ?_) q
    by_cases hx : x = p
    · rw [hx, (resetStart_of hl).port]
      cases d <;> rfl
    · rw [hst.queue htl hx, if_pos hd.symm]
  · rw [hall.meters] at hmem
    have hfin (ids : List Nat) (y : State) : (ids.foldl (fun t id => finishRequest id t) y).meters = y.meters := by
      induction ids generalizing y with
      | nil => rfl
      | cons id ids ih => exact (ih _).trans (finishRequest_meters id y)
    unfold resetEnded at hmem
    rw [hfin] at hmem
    exact hst.unlisted hr (Bool.or_eq_true_iff.mpr (.inl (decide_eq_true (hown r hrd)))) hm (Shrinks.evalNewHeads s _ n hmem)
  · rw [(hrest _).1, (hrest _).2.1]
    exact hst.grantedTag htr hr (hown r hrd) ht hc hx hg
  · rw [(hrest _).1]
    exact hst.sentTag htr hs htl hr ht hc hx hg
  · refine (resetPort_over (cutting := cutting) (hold := hold) hs hl hr (Bool.or_eq_true_iff.mpr (.inl (decide_eq_true (hown r hrd))))
      fun c hc => ?_).1
    by_contra hlive
    obtain ⟨hno, hmem, hcs⟩ := Request.resetAt_piece hc (by simpa using hlive)
    have hcs := hcs (hown r hrd)
    rcases hor with ht | hns
    · exact absurd (Request.reached_iff.mpr ⟨ht, c, hmem, by rw [hcs]; rfl⟩) (by simp [hno])
    · exact hns c hmem hcs
  · rw [← hst.resetAt_kept hr (hown r hrd) ht]
    exact resetPort_kept hs hl hr (hown r hrd) ht hx

end

/-! ### The meters (R89) -/

theorem finishRequest_flags (id : Nat) (s : State) : (finishRequest id s).flags = s.flags := by
  unfold finishRequest
  split
  · rfl
  · split
    · dsimp only
      split
      · rfl
      · unfold answerTo placeOut
        split
        · rfl
        · split <;> rfl
    · rfl

theorem finishRequest_queues (id : Nat) (s : State) (q : Port) : ((finishRequest id s).ports.get q).arbiter = (s.ports.get q).arbiter := by
  unfold finishRequest
  split
  · rfl
  · split
    · dsimp only
      split
      · rfl
      · obtain ⟨_, -, e⟩ := (Tells.answerTo _ _ _ _ _).port q
        rw [e]
        rfl
    · rfl

/-- Requests that end change no meter, no queue, no flag and no other record. -/
theorem foldl_finishRequest_rest (ids : List Nat) (s : State) :
    (ids.foldl (fun t id => finishRequest id t) s).meters = s.meters ∧ (ids.foldl (fun t id => finishRequest id t) s).flags = s.flags ∧
    (∀ q : Port, ((ids.foldl (fun t id => finishRequest id t) s).ports.get q).arbiter = (s.ports.get q).arbiter) ∧
    ∀ r : Request, r.id ∉ ids → (r ∈ (ids.foldl (fun t id => finishRequest id t) s).requests ↔ r ∈ s.requests) := by
  induction ids generalizing s with
  | nil => exact ⟨rfl, rfl, fun _ => rfl, fun _ _ => Iff.rfl⟩
  | cons id ids ih =>
    rw [List.foldl_cons]
    obtain ⟨h1, h2, h3, h4⟩ := ih (finishRequest id s)
    refine ⟨h1.trans (finishRequest_meters id s), h2.trans (finishRequest_flags id s), fun q => (h3 q).trans (finishRequest_queues id s q),
      fun r hr => ?_⟩
    obtain ⟨hne, hr⟩ := not_or.mp (mt List.mem_cons.mpr hr)
    rw [h4 r hr]
    rcases finishRequest_requests id s with e | e <;> rw [e]
    rw [List.mem_filter, decide_eq_true_eq]
    exact ⟨fun h => h.1, fun h => ⟨h, hne⟩⟩

/-- The requests that a reset of `p` takes from the lists and queues. -/
def goneAt (p : Port) (s : State) (id : Nat) : Bool := s.requests.any (fun r => decide (r.id = id) && r.hit p)

theorem goneAt_eq (p : Port) (s : State) : goneAt p s = fun id => s.requests.any (fun r => decide (r.id = id) && (decide (r.dom.port = p) ||
    (decide (r.target = p) && r.pieces.any (fun c => decide (c.state = .queued ∨ c.state = .granted ∨ c.state = .sent))))) := by
  funext id
  unfold goneAt Request.hit Request.reached
  congr 1
  funext r
  congr 4
  funext c
  rw [Bool.eq_iff_iff, decide_eq_true_eq, PieceState.atTarget_iff]

theorem goneAt_mem (hs : s.CountLaw) {r : Request} (hr : r ∈ s.requests) : goneAt p s r.id = r.hit p := by
  unfold goneAt
  rw [Bool.eq_iff_iff, List.any_eq_true]
  constructor
  · rintro ⟨q, hq, h⟩
    obtain ⟨hid, hh⟩ := Bool.and_eq_true_iff.mp h
    rw [hs.eq_of_id hr hq (of_decide_eq_true hid)] at hh
    exact hh
  · exact fun h => ⟨r, hr, by rw [decide_eq_true rfl, h]; rfl⟩

/-- The meters whose heads the reset removed go on (R12, R76, R89). -/
theorem resetBody_heads (hl : link ≠ .up) (hs : s.CountLaw) (htl : s.TargetLaw) (hw : s.WaitingLaw) :
    HeadsGoOn (goneAt p s) s (resetBody p link hold s) := by
  have hst := resetStart_counted (p := p) (link := link) (hold := hold) hs
  have hof := resetStart_of (p := p) (hold := hold) (s := s) hl
  have hlink (q : Port) (hq : q ≠ p) : ((resetStart p link hold s).ports.get q).link = (s.ports.get q).link :=
    congrArg (fun x => x.1) (hof.face q hq)
  obtain ⟨hgo, -⟩ := (hst.waits hw hlink).evalNewHeads s
  obtain ⟨hm, hf, hq, hr⟩ := foldl_finishRequest_rest (resetIds p link hold s) (evalNewHeads s (resetStart p link hold s))
  have hfault := FaultOnly.raiseFault (linkDownFault p (reachedBy p s).length) (resetEnded p link hold s)
  have hnothit (r : Request) (hg : goneAt p s r.id = false) : r.id ∉ resetIds p link hold s := fun hmem => by
    obtain ⟨q, hq, hid, hh⟩ := resetIds_hit hs hmem
    rw [← hid, goneAt_mem hs hq, hh] at hg
    cases hg
  rw [resetBody_eq]
  refine ⟨resetStart p link hold s, evalNewHeads s (resetStart p link hold s), hgo, fun n => ?_, fun q d => ⟨?_, ?_⟩, fun r hg => ?_, ?_,
    hst.flags, hfault.meters.trans hm, fun q d => ?_, fun d => ?_, fun r hg => ?_⟩
  · rw [hst.meters n]
    refine withoutListed_congr fun i hi => ?_
    obtain ⟨r, hrm, rfl, hmeter, -⟩ := (hw.1 n).2 i hi
    rw [goneAt_mem hs hrm, Bool.eq_iff_iff, List.any_eq_true]
    constructor
    · rintro ⟨x, hx, h⟩
      obtain ⟨hid, hh⟩ := Bool.and_eq_true_iff.mp h
      rw [hs.eq_of_id hrm hx (of_decide_eq_true hid).1] at hh
      exact hh
    · exact fun h => ⟨r, hrm, by rw [decide_eq_true ⟨rfl, hmeter⟩, h]; rfl⟩
  · obtain ⟨_, -, e⟩ := hfault.port q
    rw [e]
    exact (resetEnded_confined.link q).symm
  · have hqueue := htl.1
    have hkeep (ref : PieceRef) (href : ref ∈ (s.ports.get q).arbiter.queueOf d) : goneAt p s ref.req = (decide (q = p) || decide (d.port = p)) := by
      obtain ⟨r, hrm, c, hc, rfl, ht, hrd, hcs⟩ := (hqueue q d).2 ref href
      rw [goneAt_mem hs hrm]
      unfold Request.hit
      rw [hrd, Bool.or_comm]
      congr 1
      rw [Bool.eq_iff_iff, Request.reached_iff, decide_eq_true_eq, ht]
      exact ⟨fun h => h.1, fun h => ⟨h, c, hc, by rw [hcs]; rfl⟩⟩
    rw [List.filter_congr (q := fun _ => !(decide (q = p) || decide (d.port = p))) fun ref href => by rw [hkeep ref href]]
    by_cases hqp : q = p
    · subst hqp
      rw [hof.port, decide_eq_true rfl, Bool.true_or, Bool.not_true, List.filter_false]
      cases d <;> rfl
    · rw [hst.queue htl hqp d, decide_eq_false hqp, Bool.false_or]
      by_cases hd : d.port = p
      · rw [if_pos hd, decide_eq_true hd, Bool.not_true, List.filter_false]
      · rw [if_neg hd, decide_eq_false hd, Bool.not_false, List.filter_true]
  · rw [hst.requests]
    refine ⟨fun hmem => ?_, fun hmem => ?_⟩
    · obtain ⟨r0, hr0, e⟩ := List.mem_map.mp hmem
      have hid : r0.id = r.id := (Request.resetAt_fields p r0).1.symm.trans (congrArg Request.id e)
      rw [← hid, goneAt_mem hs hr0] at hg
      rw [← e, Request.resetAt_same hg]
      exact hr0
    · rw [goneAt_mem hs hmem] at hg
      exact List.mem_map.mpr ⟨r, hmem, Request.resetAt_same hg⟩
  · exact congrArg (fun x => x.1) hof.fixed
  · obtain ⟨_, -, e⟩ := hfault.port q
    rw [e]
    exact congrArg (fun x => x.queueOf d) (hq q)
  · rw [hfault.flags]
    unfold resetEnded
    rw [hf]
    exact ⟨rfl, rfl⟩
  · rw [hfault.requests]
    exact hr r (hnothit r hg)

/-! ### The whole -/

theorem resetBody_unitPort (u : Fin 8) (hl : link ≠ .up) : ((resetBody p link hold s).units.get u).port = (s.units.get u).port := by
  obtain ⟨k, l, e⟩ := (resetStart_of (p := p) (hold := hold) (s := s) hl).unit u
  obtain ⟨m, e'⟩ := (resetEnded_confined (p := p) (link := link) (hold := hold) (s := s)).unit u
  rw [resetBody_eq, (FaultOnly.raiseFault _ _).units, e', e]

/-- A port reset of `p` leaves what the spec says (R10 to R13, R76, R110). -/
theorem resetPort_of (hl : link ≠ .up) (s : State) : ResetOf p link hold cutting s (resetPort p link hold cutting s) := by
  have hport := resetPort_port (hold := hold) (cutting := cutting) (s := s) (p := p) hl
  obtain ⟨hcommit, hfixed⟩ := resetPort_fixed (p := p) (hold := hold) (cutting := cutting) (s := s) hl
  have hbody := resetPort_fails (p := p) (hold := hold) (cutting := cutting) (s := s) hl
  have hrec := resetBody_record (p := p) (hold := hold) (s := s) hl
  have hfold := resetPort_fold (p := p) (hold := hold) (s := s) hl cutting
  refine ⟨?_, fun hs r hr ht c hc => ?_, fun hs r hr ha => resetPort_reached hs hl hr ha, fun d hd => resetPort_initiator hl d hd,
    fun d hd hs htl => resetPort_abandoned hs hl htl d hd, fun q hq => ?_, hcommit, ?_, fun hctl hroom => ?_,
    resetBody p link hold s, hfold, fun u => ?_, fun hs => ⟨?_, hbody.requests⟩, hrec.2.2, fun hs htl hw => ?_, hrec.1, hrec.2.1,
    fun d hd => resetBody_notice hl d hd⟩
  · rw [hport]
    exact ⟨rfl, rfl, rfl, rfl, rfl, rfl, rfl, rfl⟩
  · have hall := (resetBody_fails (p := p) (link := link) (hold := hold) (s := s)).trans hbody
    rw [hall.requests] at hr
    have hno := (resetStart_counted (link := link) (hold := hold) hs).noneAtPort (resetEnded_counted hs) (resetStart_down hl) r hr ht c hc
    refine ⟨fun e => ?_, fun e => ?_, fun e => ?_⟩ <;> (rw [e] at hno; cases hno)
  · have hface := resetPort_face (hold := hold) (cutting := cutting) (s := s) hl hq
    exact ⟨congrArg (fun x => x.1) hface, congrArg (fun x => x.2.2.1) hface, congrArg (fun x => x.2.2.2) hface⟩
  · simp only [State.fixed, Prod.mk.injEq] at hfixed
    obtain ⟨h1, h2, h3, h4, h5, -, h7, h8, h9, h10⟩ := hfixed
    exact ⟨h1, h2, h3, h4, h5, h7, h8, h9, h10⟩
  · obtain ⟨more, e⟩ := hbody.spoken.records
    rw [hrec.2.2 hctl hroom, List.append_assoc] at e
    exact ⟨more, e.symm⟩
  · obtain ⟨hstate, hhand, hflight⟩ := KeepsUnit.resetBody u p link hold s
    refine ⟨hstate, hhand, resetBody_unitPort u hl, hflight, (hbody.unit u).1, fun hu => ?_, fun hu => ?_, fun hs hall => ?_⟩
    · have hn : (endingOn p cutting (resetBody p link hold s)).Nodup := List.Nodup.filter _ (List.nodup_finRange 8)
      obtain ⟨v, e⟩ := foldl_withScrubFailed_own hn hu (resetBody p link hold s)
      rw [hfold, e]
      exact ⟨rfl, rfl, rfl, rfl⟩
    · rw [hfold, foldl_withScrubFailed_other hu]
      exact ⟨hstate, hhand⟩
    · rw [((resetBody_fails (p := p) (link := link) (hold := hold) (s := s)).unit u).1]
      exact (resetStart_counted (link := link) (hold := hold) hs).drained (resetEnded_counted hs) hall
  · have hfail := resetBody_fails (p := p) (link := link) (hold := hold) (s := s)
    exact ((resetEnded_counted hs).piecesFrom (resetStart_counted (link := link) (hold := hold) hs).count).2.congr hfail.requests
      fun u => (hfail.unit u).1
  · rw [← goneAt_eq]
    exact resetBody_heads hl hs htl hw

end

end Sys2Proof.Machine
end

section
/-! PROOFS. LINK_LOST and PORT_RESET (R10, R11, R166). -/

namespace Sys2Proof.Machine

open Sys2Proof

/-- A command carried by a PORT_RESET of a port other than P's stays on P's list through the reset (R12, R158). -/
theorem resetPort_carries {q : Port} (hq : q ≠ .P) {link : LinkState} (hl : link ≠ .up) {hold : Option Nat} {cutting : Option (Fin 8)}
    {s : State} {c : Command} (hc : c ∈ (s.inits.get .pay).commands) (hcar : c.carrier = some (.port q)) :
    c ∈ ((resetPort q link hold cutting s).inits.get .pay).commands := by
  have hall := (resetBody_fails (p := q) (link := link) (hold := hold) (s := s)).trans (resetPort_fails (cutting := cutting) hl)
  obtain ⟨hinits, -⟩ := (resetEnded_confined (p := q) (link := link) (hold := hold) (s := s)).static
  refine hall.spoken.carried .pay q c ?_ hcar
  rw [hinits, (resetStart_of hl).other .pay hq]
  exact hc

/-- Settles O28: LINK_LOST and PORT_RESET make one port reset, whose effect `resetPort_of` gives part by part. -/
theorem portResetEmptiesThePort : Obligations.PortResetEmptiesThePort := by
  refine ⟨fun p s => ⟨fun hl => ⟨resetPort p .down none none s, ?_, resetPort_of (by decide) s⟩, fun hl => ?_, fun hl => ?_⟩,
    fun q m s s1 h hm => ?_⟩
  · exact congrArg Host.Outcome.next (by unfold linkLost; rw [show (s.port p).link = .up from hl])
  · exact congrArg Host.Outcome.next (by unfold linkLost; rw [show (s.port p).link = .down from hl])
  · exact congrArg Host.Outcome.next (by unfold linkLost; rw [show (s.port p).link = .resetting from hl]; rfl)
  have hrun (hqp : q ≠ .P) : exec (.portReset .P m) s = .next
      (if (s.ports.get q).link = .resetting then answered .pay m 0x51 .busy [] s1
        else resetPort q .resetting (some (s.gateTime + 100)) none (withCommand .pay m 0x51 (some (.port q)) s1)) := by
    have hlink : ((withCommand .pay m 0x51 none s1).port q).link = (s.ports.get q).link := h.1.link q
    have htime : (withCommand .pay m 0x51 none s1).gateTime = s.gateTime := h.1.gateTime
    simp only [exec, execPortReset]
    rw [takeCommand_P h]
    simp only [hm, portOfCode_code, if_neg hqp, hlink, htime, carryCommand_new h]
    split
    · rw [reply_answered h]
    · rfl
  refine ⟨fun hqp hl => ⟨_, ?_, resetPort_of (by decide) _, ?_⟩, fun hqp hl => ?_, fun hqp => ?_⟩
  · rw [hrun hqp, if_neg hl]
  · refine resetPort_carries hqp (by decide) ?_ rfl
    show _ ∈ ((s1.inits.set .pay _).get .pay).commands
    rw [PerDomain.get_set_same]
    exact List.mem_append_right _ List.mem_cons_self
  · rw [hrun hqp, if_pos hl]
  · simp only [exec, execPortReset]
    rw [takeCommand_P h]
    simp only [hm, portOfCode_code, if_pos hqp]
    rw [badParameter_answered h]

end Sys2Proof.Machine
end

section
/-! PROOFS. The orphan limit, and the deadline of a piece (R73 to R75, R78). -/

namespace Sys2Proof.Machine

open Sys2Proof

/-! ### The orphan limit (R75) -/

theorem allOrphaned_iff {s : State} {p : Port} : allOrphaned s p = true ↔ ∀ j : Fin 16, (s.ports.get p).tags.get j = .orphaned := by
  unfold allOrphaned
  rw [List.all_eq_true]
  refine ⟨fun h j => ?_, fun h x hx => ?_⟩
  · have hmem : (s.ports.get p).tags.get j ∈ (s.port p).tags.toList := by
      rw [Vector.mem_toList_iff]
      exact Vector.getElem_mem j.isLt
    exact of_decide_eq_true (h _ hmem)
  · rw [Vector.mem_toList_iff] at hx
    obtain ⟨i, hi, rfl⟩ := Vector.mem_iff_getElem.mp hx
    exact decide_eq_true (h ⟨i, hi⟩)

/-- A port with a tag that is not ORPHANED is not reset. -/
theorem orphanLimit_below {s : State} {p : Port} {cutting : Option (Fin 8)} (h : ∃ j : Fin 16, (s.ports.get p).tags.get j ≠ .orphaned) :
    orphanLimit p cutting s = s := by
  obtain ⟨j, hj⟩ := h
  exact if_neg fun hall => hj (allOrphaned_iff.mp hall j)

/-- A port all of whose tags are ORPHANED has its record made and is reset. -/
theorem orphanLimit_of {s : State} {p : Port} {cutting : Option (Fin 8)} (h : ∀ j : Fin 16, (s.ports.get p).tags.get j = .orphaned) :
    ResetOf p .resetting (some (s.gateTime + 100)) cutting
      (raiseFault ⟨.orphanLimit, p.byte, none, none, none, none, none, none, none, none, none, 0⟩ s) (orphanLimit p cutting s) := by
  unfold orphanLimit
  rw [if_pos (allOrphaned_iff.mpr h)]
  exact resetPort_of (by decide) _

/-- Tags are read alike after answers, notices, flags and faults. -/
theorem Tells.tags {s t : State} (h : Tells s t) (p : Port) : (t.ports.get p).tags = (s.ports.get p).tags := by
  obtain ⟨_, -, e⟩ := h.port p
  rw [e]

/-! ### The deadline of a piece (R73) -/

/-- Port `p` once the piece `c` under its tag `t` has timed out (R73). -/
def PortState.timedOut (c : Piece) (t : Fin 16) (v : PortState) : PortState :=
  if c.state = .sent then { v with tags := setAt v.tags t .orphaned }
  else { v with tags := setAt v.tags t .free, outbound := dropOut t v.outbound }

theorem vacate_timedOut {r : Request} {c : Piece} {t : Fin 16} (ht : c.ttag = some t) (hc : c.state = .granted ∨ c.state = .sent) (s : State) :
    vacate r c s = { s with ports := s.ports.set r.target ((s.ports.get r.target).timedOut c t) } := by
  unfold vacate PortState.timedOut
  rcases hc with h | h
  · rw [h, ht, if_neg (by simp)]
    rfl
  · rw [h, ht, if_pos rfl]
    rfl

theorem link_timedOut (c : Piece) (t : Fin 16) (p q : Port) (s : State) :
    ((s.ports.set p ((s.ports.get p).timedOut c t)).get q).link = (s.ports.get q).link := by
  rw [PerPort.get_set]
  split
  · rename_i h
    rw [h]
    unfold PortState.timedOut
    split <;> rfl
  · rfl

/-- The answer of an ended request tells. -/
theorem withRequestAnswer_tells (r : Request) (st : PieceStatus) (data : List Byte) (s : State) :
    Tells s (withRequestAnswer r st data s) := by
  unfold withRequestAnswer
  split
  · exact .refl s
  · split
    · exact .refl s
    · refine ⟨rfl, fun q => ?_, fun _ => ⟨_, rfl⟩⟩
      by_cases hq : q = r.dom.port
      · subst hq
        exact ⟨_, rfl, PerPort.get_set_same _ _ _⟩
      · exact ⟨[], rfl, (PerPort.get_set_other _ _ hq).trans (by simp)⟩

theorem withRequestAnswer_gateTime (r : Request) (st : PieceStatus) (data : List Byte) (s : State) :
    (withRequestAnswer r st data s).gateTime = s.gateTime := by
  unfold withRequestAnswer
  split
  · rfl
  · split <;> rfl

/-- The deadline of the piece under a tag. -/
theorem completionDeadline_runs {p : Port} {t : Fin 16} {e : Nat} {r : Request} {c : Piece} {s : State}
    (ht : (s.ports.get p).tags.get t = .live (.piece ⟨r.id, c.num⟩)) (hs : s.CountLaw) (hr : r ∈ s.requests) (hc : c ∈ r.pieces)
    (he : c.deadline = some e) (hst : c.state = .granted ∨ c.state = .sent) :
    exec (.completionDeadline p t) s = .next (if e ≤ s.gateTime then
      orphanLimit p none (raiseFault (pieceFault .timeout r c) (setFlag r.dom .timeout (failPiece ⟨r.id, c.num⟩ .timeout (vacate r c s))))
      else s) := by
  have hlive : c.state.live = true := by rcases hst with h | h <;> rw [h] <;> rfl
  have hunder : pieceUnder s p t = some (⟨r.id, c.num⟩, r, c) := by
    unfold pieceUnder
    rw [show (s.port p).tags.get t = _ from ht]
    dsimp only
    rw [(hs.lone hr).piece ((hs.counted hr).lonePiece hc)]
    exact if_pos hlive
  simp only [exec, execCompletionDeadline, hunder, he]
  unfold expired
  simp only [decide_eq_true_eq]

/-- Settles O40: the deadline resolves the piece with what it leaves of its request, and then the orphan limit is judged. -/
theorem completionDeadlineTimesOut : Obligations.CompletionDeadlineTimesOut := by
  intro p t e r c s ht hs hr hc htarget hct he hst
  subst htarget
  have hlive : c.state.live = true := by rcases hst with h | h <;> rw [h] <;> rfl
  have hrun := completionDeadline_runs ht hs hr hc he hst
  refine ⟨fun hlt => ?_, fun hle h1 hno hup => ?_, fun hle hw => ?_⟩
  · rw [hrun, if_neg (Nat.not_le.mpr hlt)]
  · intro v fault ended
    have hunits (x : State) (hx : x.units = s.units) : (countOut r.unit 1 x).units = match r.unit with
        | none => s.units
        | some u => setAt s.units u { s.units.get u with inFlight := (s.units.get u).inFlight - 1 } := by
      rw [countOut_congr r.unit 1 hx]
      cases r.unit <;> rfl
    let base : State := { s with ports := s.ports.set r.target (v.timedOut c t) }
    let answered : State := withRequestAnswer r (r.worst.merge .timeout) []
      { base with
        requests := s.requests.filter (fun q => decide (q.id ≠ r.id))
        units := match r.unit with
          | none => s.units
          | some u => setAt s.units u { s.units.get u with inFlight := (s.units.get u).inFlight - 1 } }
    have hfail : failPiece ⟨r.id, c.num⟩ .timeout base = answered := by
      rw [failPiece_only (s := base) (hs.congr rfl fun _ => rfl) hr hc hlive (by decide) h1 hno fun ha => ?_, hunits base rfl]
      rw [← hup ha]
      exact link_timedOut _ _ _ _ _
    have htags : (answered.ports.get r.target).tags = (v.timedOut c t).tags := by
      rw [(withRequestAnswer_tells _ _ _ _).tags]
      exact congrArg PortState.tags (PerPort.get_set_same _ _ _)
    have hrun' : exec (.completionDeadline r.target t) s = .next (orphanLimit r.target none (ended (v.timedOut c t))) := by
      rw [hrun, if_pos hle, vacate_timedOut hct hst]
      exact congrArg (fun x => Host.Outcome.next (orphanLimit r.target none (raiseFault fault (setFlag r.dom .timeout x)))) hfail
    have hended : ((ended (v.timedOut c t)).ports.get r.target).tags = (v.timedOut c t).tags :=
      (((Tells.setFlag r.dom .timeout answered).trans (Tells.raiseFault fault _)).tags r.target).trans htags
    have hsentPort (hsent : c.state = .sent) : v.timedOut c t = { v with tags := setAt v.tags t .orphaned } := if_pos hsent
    refine ⟨fun hg => ?_, fun hsent hj => ?_, fun hsent hall => ?_⟩
    · have hport : v.timedOut c t = { v with tags := setAt v.tags t .free, outbound := dropOut t v.outbound } := if_neg (by rw [hg]; simp)
      rw [hport] at hrun' hended
      rw [hrun', orphanLimit_below ⟨t, ?_⟩]
      rw [hended, setAt_get_same]
      simp
    · obtain ⟨j, hne, hj⟩ := hj
      rw [hsentPort hsent] at hrun' hended
      rw [hrun', orphanLimit_below ⟨j, ?_⟩]
      rw [hended, setAt_get_other _ _ hne]
      exact hj
    · rw [hsentPort hsent] at hrun' hended
      have hof := orphanLimit_of (cutting := none) (p := r.target) (s := ended { v with tags := setAt v.tags t .orphaned }) fun j => by
        rw [hended, setAt_get]
        split
        · rfl
        · exact hall j ‹_›
      have htime : (ended { v with tags := setAt v.tags t .orphaned }).gateTime = s.gateTime :=
        (Quiet.raiseFault _ _).gateTime.trans (withRequestAnswer_gateTime _ _ _ _)
      rw [htime] at hof
      exact ⟨_, hrun', hof⟩
  · intro v left
    let base : State := { s with ports := s.ports.set r.target left }
    have hwaits : Waits base.ups none base := by
      have hups : base.ups = s.ups := by
        funext q
        unfold State.ups
        exact congrArg (fun x => x = LinkState.up) (link_timedOut _ _ _ _ _)
      rw [hups]
      exact (Waits.of_law hs hw).congr rfl (fun _ => rfl) fun _ => rfl
    have hquiet : (raiseFault (pieceFault .timeout r c) (setFlag r.dom .timeout (failPiece ⟨r.id, c.num⟩ .timeout base))).gateTime =
        s.gateTime := ((Quiet.failPiece _ _ base).trans ((Quiet.setFlag _ _ _).trans (Quiet.raiseFault _ _))).gateTime
    refine ⟨failPiece ⟨r.id, c.num⟩ .timeout base, _, failPiece_fails hwaits hr hc hlive (by decide), ?_, fun hj => orphanLimit_below (cutting := none) hj,
      fun hall => ?_⟩
    · rw [hrun, if_pos hle, vacate_timedOut hct hst]
      rfl
    · rw [← hquiet]
      exact orphanLimit_of hall

/-! ### The deadline of a scrub step (R104) -/

/-- The first element at which a function has a value. -/
theorem findSome_first {α β : Type} [LT α] {f : α → Option β} {b : β} {x : α} (l : List α) (hl : l.Pairwise (fun y z => y < z)) (hx : x ∈ l)
    (hb : f x = some b) (hlt : ∀ y, y < x → f y = none) : l.findSome? f = some b := by
  induction l with
  | nil => cases hx
  | cons y l ih =>
    obtain ⟨hy, hl⟩ := List.pairwise_cons.mp hl
    rcases List.mem_cons.mp hx with rfl | hx
    · rw [List.findSome?_cons, hb]
    · rw [List.findSome?_cons, hlt y (hy x hx)]
      exact ih hl hx

theorem stepTag_first {u : Fin 8} {p : Port} {t : Fin 16} {sent : Bool} {e : Option Nat} {s : State} (hp : (s.units.get u).port = some p)
    (ht : (s.ports.get p).tags.get t = .live (.scrub u sent e))
    (hlt : ∀ j : Fin 16, j < t → ∀ b x, (s.ports.get p).tags.get j ≠ .live (.scrub u b x)) : stepTag s u = some (p, t, sent, e) := by
  unfold stepTag
  rw [show (s.unit u).port = some p from hp]
  refine findSome_first allTags (List.pairwise_lt_finRange 16) (List.mem_finRange t) ?_ fun j hj => ?_
  · rw [show (s.port p).tags.get t = _ from ht]
    exact if_pos rfl
  · cases hv : (s.port p).tags.get j with
    | free => rfl
    | orphaned => rfl
    | live x =>
      cases x with
      | piece ref => rfl
      | scrub w b y => exact if_neg fun (hw : w = u) => hlt j hj b y (hw ▸ hv)

/-- Settles O43: the step's tag is freed or ORPHANED, the scrub fails, and then the orphan limit is judged. -/
theorem scrubStepDeadlineFailsTheScrub : Obligations.ScrubStepDeadlineFailsTheScrub := by
  intro u p t sent e g s hp hstate ht hlt v
  have hrun : exec (.scrubStepDeadline u) s = .next (if e ≤ s.gateTime then
      orphanLimit p none (scrubFail u (if sent then setTag p t .orphaned s else unsend p t s)) else s) := by
    have hfail (x : State) (hx : x.units = s.units) : stepFailed u x = scrubFail u x := by
      unfold stepFailed
      rw [show (x.unit u).state = .scrubbing g by unfold State.unit; rw [hx]; exact hstate]
    simp only [exec, execScrubStepDeadline, stepTag_first hp ht hlt]
    unfold expired
    simp only [decide_eq_true_eq]
    rw [hfail _ (by cases sent <;> rfl)]
  have htags (x : State) : ((scrubFail u x).ports.get p).tags = (x.ports.get p).tags := (scrubFail_tells u x).tags p
  refine ⟨fun hl => ?_, fun hle hs => ?_, fun hle hs => ⟨fun hj => ?_, fun _ hall => ?_⟩⟩
  · rw [hrun, if_neg (Nat.not_le.mpr hl)]
  · rw [hrun, if_pos hle, hs]
    refine congrArg Host.Outcome.next (orphanLimit_below ⟨t, ?_⟩)
    rw [htags, if_neg Bool.false_ne_true]
    unfold unsend State.modPort
    dsimp only
    rw [PerPort.get_set_same, setAt_get_same]
    simp
  · obtain ⟨j, hne, hj⟩ := hj
    rw [hrun, if_pos hle, hs]
    refine congrArg Host.Outcome.next (orphanLimit_below ⟨j, ?_⟩)
    rw [htags, if_pos rfl]
    unfold setTag State.modPort
    dsimp only
    rw [PerPort.get_set_same, setAt_get_other _ _ hne]
    exact hj
  · rw [hrun, if_pos hle, hs]
    refine ⟨_, rfl, ?_⟩
    have hall' : ∀ j : Fin 16, ((scrubFail u (setTag p t .orphaned s)).ports.get p).tags.get j = .orphaned := fun j => by
      rw [htags]
      unfold setTag State.modPort
      dsimp only
      rw [PerPort.get_set_same, setAt_get]
      split
      · rfl
      · exact hall j ‹_›
    have hof := orphanLimit_of (cutting := none) hall'
    rw [(Quiet.scrubFail u _).gateTime] at hof
    exact hof

end Sys2Proof.Machine
end

section
/-! PROOFS. The pieces and requests that the cut of a unit takes from their places, before the meters go on (R50, R64, R89, R100, R101). -/

namespace Sys2Proof.Machine

open Sys2Proof

/-! ### The places that pieces leave -/

/-- The live pieces of some records, each with its record. -/
def livePairs (l : List Request) : List (Request × Piece) := l.flatMap (fun r => (r.pieces.filter (fun c => c.state.live)).map (fun c => (r, c)))

theorem mem_livePairs {l : List Request} {r : Request} {c : Piece} : (r, c) ∈ livePairs l ↔ r ∈ l ∧ c ∈ r.pieces ∧ c.state.live = true := by
  unfold livePairs
  simp only [List.mem_flatMap, List.mem_map, List.mem_filter, Prod.mk.injEq]
  constructor
  · rintro ⟨q, hq, y, ⟨hy, hl⟩, rfl, rfl⟩
    exact ⟨hq, hy, hl⟩
  · rintro ⟨hr, hc, hl⟩
    exact ⟨r, hr, c, ⟨hc, hl⟩, rfl, rfl⟩

/-- A port that pieces leave one after another. -/
def PortState.left (l : List (Request × Piece)) (v : PortState) : PortState := l.foldl (fun v x => leavePlace x.1 x.2 v) v

theorem foldl_leavePlaces (l : List Request) (v : PortState) :
    l.foldl (fun v r => leavePlaces r (r.pieces.filter (fun c => c.state.live)) v) v = v.left (livePairs l) := by
  unfold PortState.left livePairs
  induction l generalizing v with
  | nil => rfl
  | cons r l ih =>
    rw [List.foldl_cons, ih, List.flatMap_cons, List.foldl_append, List.foldl_map]
    rfl

/-- A piece holds tag `x`: it is GRANTED or SENT under it. -/
def Piece.holds (x : Fin 16) (c : Piece) : Prop := c.ttag = some x ∧ (c.state = .granted ∨ c.state = .sent)


theorem leavePlace_tags_other {x : Fin 16} (r : Request) {c : Piece} (h : ¬c.holds x) (v : PortState) :
    (leavePlace r c v).tags.get x = v.tags.get x := by
  have hne {i : Fin 16} (hi : c.ttag = some i) (hs : c.state = .granted ∨ c.state = .sent) : x ≠ i := by
    rintro rfl
    exact h ⟨hi, hs⟩
  unfold leavePlace
  cases hs : c.state with
  | granted =>
    cases hi : c.ttag with
    | none => rfl
    | some i => exact setAt_get_other _ _ (hne hi (.inl hs))
  | sent =>
    cases hi : c.ttag with
    | none => rfl
    | some i => exact setAt_get_other _ _ (hne hi (.inr hs))
  | queued => rfl
  | charging => rfl
  | resolved st => rfl
  | removed => rfl

theorem leavePlace_outbound (r : Request) (c : Piece) (v : PortState) {pkt : OutPacket} (h : pkt ∈ (leavePlace r c v).outbound) :
    pkt ∈ v.outbound := by
  unfold leavePlace at h
  cases hs : c.state with
  | granted =>
    cases hi : c.ttag with
    | none => rw [hs, hi] at h; exact h
    | some i => rw [hs, hi] at h; exact (List.mem_filter.mp h).1
  | sent =>
    cases hi : c.ttag with
    | none => rw [hs, hi] at h; exact h
    | some i => rw [hs, hi] at h; exact h
  | queued => rw [hs] at h; exact h
  | charging => rw [hs] at h; exact h
  | resolved st => rw [hs] at h; exact h
  | removed => rw [hs] at h; exact h

theorem requestTags_subset {l m : List OutPacket} (h : ∀ pkt ∈ l, pkt ∈ m) {x : Fin 16} (hx : x ∈ requestTags l) : x ∈ requestTags m := by
  obtain ⟨pkt, hp, e⟩ := List.mem_filterMap.mp hx
  exact List.mem_filterMap.mpr ⟨pkt, h pkt hp, e⟩

/-- A tag that none of the pieces holds stays. -/
theorem PortState.left_tag_other {x : Fin 16} {l : List (Request × Piece)} (h : ∀ y ∈ l, ¬y.2.holds x) (v : PortState) :
    (v.left l).tags.get x = v.tags.get x := by
  unfold PortState.left
  induction l generalizing v with
  | nil => rfl
  | cons y l ih =>
    rw [List.foldl_cons, ih (fun z hz => h z (List.mem_cons_of_mem _ hz)), leavePlace_tags_other _ (h y List.mem_cons_self)]

theorem PortState.left_outbound (l : List (Request × Piece)) (v : PortState) {pkt : OutPacket} (h : pkt ∈ (v.left l).outbound) :
    pkt ∈ v.outbound := by
  unfold PortState.left at h
  induction l generalizing v with
  | nil => exact h
  | cons y l ih => exact leavePlace_outbound _ _ _ (ih _ h)

/-- The tag of a GRANTED piece is FREE, and its packet gone, where no SENT piece holds it. -/
theorem PortState.left_granted {x : Fin 16} {l : List (Request × Piece)} (hall : ∀ y ∈ l, y.2.holds x → y.2.state = .granted)
    (hex : ∃ y ∈ l, y.2.holds x) (v : PortState) : (v.left l).tags.get x = .free ∧ x ∉ requestTags (v.left l).outbound := by
  unfold PortState.left
  induction l generalizing v with
  | nil => obtain ⟨y, hy, -⟩ := hex; cases hy
  | cons y l ih =>
    rw [List.foldl_cons]
    have hrest := fun z hz => hall z (List.mem_cons_of_mem y hz)
    by_cases hl : ∃ z ∈ l, z.2.holds x
    · exact ih hrest hl _
    · obtain ⟨z, hz, hzx⟩ := hex
      obtain rfl : z = y := (List.mem_cons.mp hz).resolve_right fun hm => hl ⟨z, hm, hzx⟩
      have hg := hall z List.mem_cons_self hzx
      have hnone : ∀ w ∈ l, ¬w.2.holds x := fun w hw hwx => hl ⟨w, hw, hwx⟩
      have hplace : leavePlace z.1 z.2 v = { v with tags := setAt v.tags x .free, outbound := dropOut x v.outbound } := by
        unfold leavePlace
        rw [hg, hzx.1]
      refine ⟨?_, fun hx => ?_⟩
      · rw [show (List.foldl (fun v x => leavePlace x.1 x.2 v) (leavePlace z.1 z.2 v) l).tags.get x = _ from
          PortState.left_tag_other hnone _, hplace]
        exact setAt_get_same _ _ _
      · have hx := requestTags_subset (fun pkt hp => PortState.left_outbound l (leavePlace z.1 z.2 v) hp) hx
        rw [hplace] at hx
        refine requestTags_kept (freed := fun t => decide (t = x)) (l := v.outbound) (decide_eq_true rfl) ?_
        rw [← dropOut_eq]
        exact hx

/-- The tag of a SENT piece is ORPHANED, where no GRANTED piece holds it. -/
theorem PortState.left_sent {x : Fin 16} {l : List (Request × Piece)} (hall : ∀ y ∈ l, y.2.holds x → y.2.state = .sent)
    (hex : ∃ y ∈ l, y.2.holds x) (v : PortState) : (v.left l).tags.get x = .orphaned := by
  unfold PortState.left
  induction l generalizing v with
  | nil => obtain ⟨y, hy, -⟩ := hex; cases hy
  | cons y l ih =>
    rw [List.foldl_cons]
    have hrest := fun z hz => hall z (List.mem_cons_of_mem y hz)
    by_cases hl : ∃ z ∈ l, z.2.holds x
    · exact ih hrest hl _
    · obtain ⟨z, hz, hzx⟩ := hex
      obtain rfl : z = y := (List.mem_cons.mp hz).resolve_right fun hm => hl ⟨z, hm, hzx⟩
      have hg := hall z List.mem_cons_self hzx
      have hnone : ∀ w ∈ l, ¬w.2.holds x := fun w hw hwx => hl ⟨w, hw, hwx⟩
      rw [show (List.foldl (fun v x => leavePlace x.1 x.2 v) (leavePlace z.1 z.2 v) l).tags.get x = _ from PortState.left_tag_other hnone _]
      unfold leavePlace
      rw [hg, hzx.1]
      exact setAt_get_same _ _ _

/-- The queues that QUEUED pieces leave. -/
theorem PortState.left_queue (l : List (Request × Piece)) (v : PortState) (d : Domain) : (v.left l).arbiter.queueOf d =
    (v.arbiter.queueOf d).filter (fun ref => !l.any (fun y => decide (y.1.dom = d ∧ y.2.state = .queued ∧ ref = ⟨y.1.id, y.2.num⟩))) := by
  unfold PortState.left
  induction l generalizing v with
  | nil => simp
  | cons y l ih =>
    rw [List.foldl_cons, ih]
    have hstep : (leavePlace y.1 y.2 v).arbiter.queueOf d =
        (v.arbiter.queueOf d).filter (fun ref => !decide (y.1.dom = d ∧ y.2.state = .queued ∧ ref = ⟨y.1.id, y.2.num⟩)) := by
      unfold leavePlace
      cases hs : y.2.state with
      | queued =>
        dsimp only
        by_cases hd : d = y.1.dom
        · subst hd
          rw [Arbiter.queueOf_modQueue_same]
          simp
        · rw [Arbiter.queueOf_modQueue_other _ hd]
          simp [Ne.symm hd]
      | granted => cases y.2.ttag <;> simp
      | sent => cases y.2.ttag <;> simp
      | charging => simp
      | resolved st => simp
      | removed => simp
    rw [hstep, List.filter_filter]
    refine List.filter_congr fun ref _ => ?_
    rw [List.any_cons, Bool.not_or, Bool.and_comm]

/-! ### The cut of the requests (R100) -/

/-- One request that is cut: its pieces in flight leave their places, and it its list. -/
theorem cutRequest_lone {r : Request} {s : State} (h : Lone s r) (hr : r.Counted) :
    cutRequest s r =
      { s with
        requests := replaced r (r.endedBy PieceState.live (.resolved .cut)) s.requests
        units := (cutRequest s r).units
        ports := s.ports.set r.target (leavePlaces r (r.pieces.filter (fun c => c.state.live)) (s.ports.get r.target))
        meters := metersWithout r s.meters } := by
  have hfirst := endPieces_lone (f := PieceState.live) (st := .resolved .cut) h hr.1 fun _ _ e => e
  have hrun : cutRequest s r = leaveMeter r (endPieces r.id PieceState.live (.resolved .cut) s) := rfl
  rw [hrun, leaveMeter_meters, hfirst]

/-- A request that the cut of unit `u` reaches (R101). -/
def Request.cutWith (u : Fin 8) (r : Request) : Bool := decide (r.unit = some u) && r.pieces.any (fun c => c.state.live)

theorem requestsInFlight_eq (s : State) (u : Fin 8) : requestsInFlight s u = s.requests.filter (Request.cutWith u) := rfl

/-- A record as the cut of unit `u` leaves it before the meters go on. -/
def Request.cutAt (u : Fin 8) (r : Request) : Request := if r.cutWith u then r.endedBy PieceState.live (.resolved .cut) else r

/-- What the cut of unit `u` leaves of the requests, ports and meters before the meters go on. -/
structure CutStart (u : Fin 8) (s b : State) : Prop where
  count : b.CountLaw
  requests : b.requests = s.requests.map (Request.cutAt u)
  ports : ∀ q, b.ports.get q = (s.ports.get q).left (livePairs (s.requests.filter (fun r => r.cutWith u && decide (r.target = q))))
  meters : ∀ n : Fin 16, b.meters.get n =
    withoutListed (fun i => s.requests.any (fun r => decide (r.id = i ∧ r.meter = some n) && r.cutWith u)) (s.meters.get n)
  own : b.units.get u =
    { s.units.get u with inFlight := 0, hand := { (s.units.get u).hand with cutCount := (requestsInFlight s u).length } }
  rest : b = { s with requests := b.requests, units := b.units, ports := b.ports, meters := b.meters }

section
variable {u : Fin 8} {s b f : State}

theorem cutPieces_start (h : s.CountLaw) : CutStart u s (cutPieces u s) ∧ ∀ w, w ≠ u → (cutPieces u s).units.get w = s.units.get w := by
  obtain ⟨hcount, hall⟩ := foldl_leaves (op := cutRequest) (f := fun r => r.endedBy PieceState.live (.resolved .cut))
    (g := fun r v => leavePlaces r (r.pieces.filter (fun c => c.state.live)) v) (fun _ => rfl)
    (fun s r hs hr => ⟨hs.moves (Moves.cutRequest s r), cutRequest_lone (hs.lone hr) (hs.counted hr)⟩) (requestsInFlight s u) h
    (fun r hr => (List.mem_filter.mp hr).1) (requestsInFlight_ids h u)
  have hended := foldl_cutRequest_ended h u
  let k := (requestsInFlight s u).foldl cutRequest s
  have hmem (q : Request) (hq : q ∈ s.requests) : q.id ∈ (requestsInFlight s u).map (fun r => r.id) ↔ q.cutWith u = true := by
    refine ⟨fun hm => ?_, fun hm => List.mem_map.mpr ⟨q, List.mem_filter.mpr ⟨hq, hm⟩, rfl⟩⟩
    obtain ⟨r, hr, e⟩ := List.mem_map.mp hm
    obtain ⟨hr, hcut⟩ := List.mem_filter.mp hr
    rw [h.eq_of_id hr hq e.symm]
    exact hcut
  have hreq : k.requests = s.requests.map (Request.cutAt u) := by
    rw [show k.requests = _ from congrArg State.requests hall]
    refine List.map_congr_left fun q hq => ?_
    unfold Request.cutAt
    simp only [hmem q hq]
  have hports (q : Port) : k.ports.get q = (s.ports.get q).left (livePairs (s.requests.filter (fun r => r.cutWith u && decide (r.target = q)))) := by
    rw [show k.ports = _ from congrArg State.ports hall, foldl_ports, foldl_leavePlaces, requestsInFlight_eq, List.filter_filter]
    congr 2
    exact List.filter_congr fun r _ => Bool.and_comm _ _
  have hmeters (n : Fin 16) : k.meters.get n =
      withoutListed (fun i => s.requests.any (fun r => decide (r.id = i ∧ r.meter = some n) && r.cutWith u)) (s.meters.get n) := by
    rw [show k.meters = _ from congrArg State.meters hall, foldl_metersWithout, requestsInFlight_eq]
    refine withoutListed_congr fun i _ => ?_
    rw [List.any_filter]
    exact List.any_congr rfl fun r => Bool.and_comm _ _
  have hother (w : Fin 8) (hw : w ≠ u) : k.units.get w = s.units.get w := by
    obtain ⟨m, -, e⟩ := (Moves.foldl (free := false) (fun t r => Moves.cutRequest t r) (requestsInFlight s u) s).leftBy w
    have hflight : (k.units.get w).inFlight = (s.units.get w).inFlight := by
      rw [hcount.2.2 w, h.2.2 w, State.livePieces_eq, State.livePieces_eq, hreq, List.map_map]
      refine congrArg List.sum (List.map_congr_left fun q _ => ?_)
      unfold Request.cutAt
      simp only [Function.comp_apply]
      split
      · rename_i hcut
        have hunit : q.unit = some u := of_decide_eq_true (Bool.and_eq_true_iff.mp hcut).1
        unfold Request.countFor
        rw [show (q.endedBy PieceState.live (.resolved .cut)).unit = q.unit from rfl, hunit, if_neg (by simpa using Ne.symm hw),
          if_neg (by simpa using Ne.symm hw)]
      · rfl
    rw [show k.units.get w = _ from e] at hflight ⊢
    rw [show m = (s.units.get w).inFlight from hflight]
  have hown : ∃ m, k.units.get u = { s.units.get u with inFlight := m } := by
    obtain ⟨m, -, e⟩ := (Moves.foldl (free := false) (fun t r => Moves.cutRequest t r) (requestsInFlight s u) s).leftBy u
    exact ⟨m, e⟩
  have hflight : (k.units.get u).inFlight = 0 := (hcount.2.2 u).trans hended
  have hget (w : Fin 8) : (cutPieces u s).units.get w =
      if w = u then { k.units.get u with
        inFlight := 0, hand := { (k.units.get u).hand with cutCount := (requestsInFlight s u).length } } else k.units.get w := setAt_get _ _ _ _
  refine ⟨⟨?_, hreq, hports, hmeters, ?_, ?_⟩, fun w hw => ?_⟩
  · refine State.CountLaw.congr (s := k) (t := cutPieces u s) rfl (fun w => ?_) hcount
    rw [hget]
    split
    · rename_i e
      rw [e]
      exact hflight.symm
    · rfl
  · rw [hget, if_pos rfl]
    obtain ⟨m, e⟩ := hown
    rw [e]
  · have : cutPieces u s = { k with units := (cutPieces u s).units } := rfl
    rw [this, show k = _ from hall]
  · rw [hget, if_neg hw, hother w hw]

end

end Sys2Proof.Machine
end

section
/-! PROOFS. What the cut of a unit leaves of the requests it reaches, their tags and queues, and of the meters (R89, R100, R101). -/

namespace Sys2Proof.Machine

open Sys2Proof

/-- The cut of unit `u` with its requests ended, before their flags. -/
def cutEnded (u : Fin 8) (s : State) : State :=
  ((requestsInFlight s u).map (fun r => r.id)).foldl (fun t id => finishRequest id t) (evalNewHeads s (cutPieces u s))

/-- The cut of unit `u` before its fault. -/
def cutFlagged (u : Fin 8) (s : State) : State := (requestsInFlight s u).foldl (fun t r => setFlag r.dom .cut t) (cutEnded u s)

theorem makeCut_eq (u : Fin 8) (s : State) : makeCut u s =
    raiseFault (portFault .cut (unitPortByte (s.units.get u)) (some u) none (requestsInFlight s u).length) (cutFlagged u s) := by
  unfold cutFlagged cutEnded
  rw [List.foldl_map]
  rfl

/-! ### One record -/

theorem Request.cutAt_fields (u : Fin 8) (r : Request) : (r.cutAt u).id = r.id ∧ (r.cutAt u).dom = r.dom ∧ (r.cutAt u).tag = r.tag ∧
    (r.cutAt u).target = r.target ∧ (r.cutAt u).unit = r.unit ∧ (r.cutAt u).abandoned = r.abandoned := by
  unfold Request.cutAt
  split <;> exact ⟨rfl, rfl, rfl, rfl, rfl, rfl⟩

theorem Request.cutAt_same {u : Fin 8} {r : Request} (h : r.cutWith u = false) : r.cutAt u = r := if_neg (by rw [h]; exact Bool.false_ne_true)

/-- A live piece of a record after the cut is of one that the cut does not reach. -/
theorem Request.cutAt_piece {u : Fin 8} {r : Request} {c : Piece} (hc : c ∈ (r.cutAt u).pieces) (hl : c.state.live = true) :
    r.cutWith u = false ∧ c ∈ r.pieces := by
  unfold Request.cutAt at hc
  by_cases h : r.cutWith u = true
  · rw [if_pos h] at hc
    obtain ⟨-, hn⟩ := endedPieces_mem rfl hc hl
    exact absurd (hl.symm.trans hn) (by simp)
  · rw [if_neg h] at hc
    exact ⟨Bool.eq_false_iff.mpr h, hc⟩

theorem Request.cutAt_ended {u : Fin 8} {r : Request} (h : r.cutWith u = true) : ∀ c ∈ (r.cutAt u).pieces, c.state.live = false := fun c hc => by
  by_contra hl
  exact absurd (Request.cutAt_piece hc (by simpa using hl)).1 (by simp [h])

/-- The COMPLETION of a request that was cut (R69, R71). -/
theorem Request.cutAt_completion {u : Fin 8} {r : Request} (h : r.cutWith u = true) (x : Fin 32) :
    (r.cutAt u).completionFor x = .completion x (r.worst.merge .cut).answer [] := by
  have hw : (r.cutAt u).worst = r.worst.merge .cut := by
    unfold Request.cutAt
    rw [if_pos h]
    show (if _ then r.worst.merge .cut else r.worst) = _
    exact if_pos (Bool.and_eq_true_iff.mp h).2
  unfold Request.completionFor
  rw [hw, if_neg (fun e => absurd e.2 (PieceStatus.merge_ne_ok _ (by decide)))]

theorem Request.cutWith_iff {u : Fin 8} {r : Request} : r.cutWith u = true ↔ r.unit = some u ∧ ∃ c ∈ r.pieces, c.state.live = true := by
  unfold Request.cutWith
  rw [Bool.and_eq_true, decide_eq_true_eq, List.any_eq_true]

section
variable {u : Fin 8} {s b f : State}

theorem CutStart.mem (h : CutStart u s b) {r : Request} (hr : r ∈ s.requests) : r.cutAt u ∈ b.requests := by
  rw [h.requests]
  exact List.mem_map_of_mem hr

/-- Where a record that is left after the cut comes from. -/
theorem CutStart.origin (h : CutStart u s b) (m : Tracks True False b f) : ∀ q ∈ f.requests, ∃ r ∈ s.requests,
    (q.id = r.id ∧ q.dom = r.dom ∧ q.target = r.target ∧ q.unit = r.unit) ∧
    ∀ y ∈ q.pieces, y.state.live = true → r.cutWith u = false ∧ ∃ c ∈ r.pieces, c.state.live = true ∧
      (y = c ∨ (c.state = .charging ∧ y = { c with state := .queued })) := by
  intro q hq
  obtain ⟨x, hx, same, hfrom⟩ := (m.piecesFrom h.count).1 q hq
  rw [h.requests] at hx
  obtain ⟨r, hr, rfl⟩ := List.mem_map.mp hx
  obtain ⟨hid, hdom, -, htarget, hunit, -⟩ := Request.cutAt_fields u r
  refine ⟨r, hr, ⟨same.id.trans hid, same.dom.trans hdom, same.target.trans htarget, same.unit.trans hunit⟩, fun y hy hl => ?_⟩
  obtain ⟨c, hc, hor⟩ := hfrom y hy hl
  have hlc : c.state.live = true := by
    rcases hor with rfl | ⟨hch, -, -⟩
    · exact hl
    · rw [hch]; rfl
  obtain ⟨hno, hmem⟩ := Request.cutAt_piece hc hlc
  exact ⟨hno, c, hmem, hlc, hor.imp (fun e => e) fun e => ⟨e.1, e.2.1⟩⟩

/-- Nothing of the unit is left in flight (R100). -/
theorem CutStart.drained (h : CutStart u s b) (m : Tracks True False b f) : f.livePieces u = 0 := by
  unfold State.livePieces
  refine List.sum_eq_zero fun k hk => ?_
  obtain ⟨q, hq, rfl⟩ := List.mem_map.mp hk
  obtain ⟨hq, hu⟩ := List.mem_filter.mp hq
  obtain ⟨r, hr, ⟨-, -, -, hunit⟩, hfrom⟩ := h.origin m q hq
  refine List.length_eq_zero_iff.mpr (List.filter_eq_nil_iff.mpr fun y hy hl => ?_)
  obtain ⟨hno, c, hc, hlc, -⟩ := hfrom y hy hl
  exact absurd (Request.cutWith_iff.mpr ⟨hunit.symm.trans (of_decide_eq_true hu), c, hc, hlc⟩) (by simp [hno])

/-! ### Tags -/

/-- A tag that no piece reached names stays until the meters go on. -/
theorem CutStart.tag_other (h : CutStart u s b) {p : Port} {x : Fin 16}
    (hno : ∀ r ∈ s.requests, r.cutWith u = true → r.target = p → ∀ c ∈ r.pieces, c.ttag ≠ some x) :
    (b.ports.get p).tags.get x = (s.ports.get p).tags.get x := by
  rw [h.ports p]
  refine PortState.left_tag_other (fun y hy hx => ?_) _
  obtain ⟨hr, hc, -⟩ := mem_livePairs.mp (show (y.1, y.2) ∈ livePairs _ from hy)
  obtain ⟨hr, hcut⟩ := List.mem_filter.mp hr
  obtain ⟨hcut, ht⟩ := Bool.and_eq_true_iff.mp hcut
  exact hno y.1 hr hcut (of_decide_eq_true ht) y.2 hc hx.1

/-- A GRANTED piece after the cut was one before. -/
theorem CutStart.noGrant (h : CutStart u s b) {p : Port} {x : Fin 16}
    (hno : ∀ r ∈ s.requests, r.cutWith u = false → r.target = p → ∀ c ∈ r.pieces, c.state = .granted → c.ttag ≠ some x) : NoGrant p x b := by
  intro q hq ht y hy hs
  rw [h.requests] at hq
  obtain ⟨r, hr, rfl⟩ := List.mem_map.mp hq
  obtain ⟨hcut, hmem⟩ := Request.cutAt_piece hy (by rw [hs]; rfl)
  exact hno r hr hcut ((Request.cutAt_fields u r).2.2.2.1.symm.trans ht) y hmem hs

/-- The pieces reached toward the port of one of them that hold its tag are that piece. -/
theorem State.TargetLaw.only_cut (htl : s.TargetLaw) (hs : s.CountLaw) {r : Request} (hr : r ∈ s.requests) {c : Piece} (hc : c ∈ r.pieces) {x : Fin 16} (hx : c.holds x)
    (y : Request × Piece) (hy : y ∈ livePairs (s.requests.filter (fun q => q.cutWith u && decide (q.target = r.target)))) (hyx : y.2.holds x) :
    y.2 = c := by
  obtain ⟨hq, hcy, -⟩ := mem_livePairs.mp (show (y.1, y.2) ∈ livePairs _ from hy)
  obtain ⟨hq, hcut⟩ := List.mem_filter.mp hq
  exact (htl.one_piece hs hr hq hc hcy hx.2 hyx.2 (of_decide_eq_true (Bool.and_eq_true_iff.mp hcut).2).symm hx.1 hyx.1).2

section
variable (h : CutStart u s b) (m : Tracks True False b f) (hs : s.CountLaw) (htl : s.TargetLaw)
include h m hs htl

/-- The tag of a GRANTED piece that was cut is FREE, and its packet gone (R63, R100). -/
theorem CutStart.grantedTag {r : Request} (hr : r ∈ s.requests) (hcut : r.cutWith u = true) {c : Piece} (hc : c ∈ r.pieces) {x : Fin 16}
    (hx : c.ttag = some x) (hg : c.state = .granted) :
    (f.ports.get r.target).tags.get x = .free ∧ x ∉ requestTags (f.ports.get r.target).outbound := by
  have hstart : (b.ports.get r.target).tags.get x = .free ∧ x ∉ requestTags (b.ports.get r.target).outbound := by
    rw [h.ports r.target]
    refine PortState.left_granted (fun y hy hyx => ?_) ⟨(r, c), ?_, hx, .inl hg⟩ _
    · rw [htl.only_cut hs hr hc ⟨hx, .inl hg⟩ y hy hyx]
      exact hg
    · exact mem_livePairs.mpr ⟨List.mem_filter.mpr ⟨hr, by rw [hcut, decide_eq_true rfl]; rfl⟩, hc, by rw [hg]; rfl⟩
  exact m.tag_free hstart.1 hstart.2

/-- The tag of a SENT piece that was cut is ORPHANED (R73, R100). -/
theorem CutStart.sentTag {r : Request} (hr : r ∈ s.requests) (hcut : r.cutWith u = true) {c : Piece} (hc : c ∈ r.pieces) {x : Fin 16}
    (hx : c.ttag = some x) (hg : c.state = .sent) : (f.ports.get r.target).tags.get x = .orphaned := by
  have hstart : (b.ports.get r.target).tags.get x = .orphaned := by
    rw [h.ports r.target]
    refine PortState.left_sent (fun y hy hyx => ?_) ⟨(r, c), ?_, hx, .inr hg⟩ _
    · rw [htl.only_cut hs hr hc ⟨hx, .inr hg⟩ y hy hyx]
      exact hg
    · exact mem_livePairs.mpr ⟨List.mem_filter.mpr ⟨hr, by rw [hcut, decide_eq_true rfl]; rfl⟩, hc, by rw [hg]; rfl⟩
  rw [m.tag_kept h.count (h.noGrant fun q hq _ ht y hy hy' hyx => ?_), hstart]
  obtain ⟨-, rfl⟩ := htl.one_piece hs hr hq hc hy (.inr hg) (.inl hy') ht.symm hx hyx
  rw [hg] at hy'
  cases hy'

end

/-! ### Queues and lists -/

/-- A reference that is in no queue of its port and names no CHARGING piece is not queued. -/
theorem Track.unqueued {cuts : Prop} {t : State} {q : Port} {d : Domain} {ref : PieceRef} (g : Track True cuts s t)
    (hno : ∀ r ∈ s.requests, r.id = ref.req → ∀ c ∈ r.pieces, c.num = ref.num → c.state ≠ .charging)
    (hq : ref ∉ (s.ports.get q).arbiter.queueOf d) : ref ∉ (t.ports.get q).arbiter.queueOf d := by
  cases g with
  | ends r c st =>
    rw [endPiece_ports, vacate_eq]
    dsimp only
    rw [PerPort.get_set]
    split
    · rename_i e
      subst e
      have hleft := PortState.left_queue [(r, c)] (s.ports.get r.target) d
      rw [show (s.ports.get r.target).left [(r, c)] = leavePlace r c (s.ports.get r.target) from rfl] at hleft
      rw [hleft]
      exact fun hm => hq (List.mem_filter.mp hm).1
    · exact hq
  | queues r c hf hc _ =>
    obtain ⟨hr, -, hcm, -⟩ := piece_some hf
    show ref ∉ ((s.ports.set r.target _).get q).arbiter.queueOf d
    rw [PerPort.get_set]
    split
    · rename_i e
      subst e
      by_cases hd : d = r.dom
      · subst hd
        rw [Arbiter.queueOf_modQueue_same]
        intro hm
        rcases List.mem_append.mp hm with hm | hm
        · exact hq hm
        · rw [List.mem_singleton.mp hm] at hno
          exact hno r hr rfl c hcm rfl hc
      · rw [Arbiter.queueOf_modQueue_other _ hd]
        exact hq
    · exact hq
  | finishes r => rw [finishRequest_queues]; exact hq
  | meters m => exact hq
  | flags v => exact hq

theorem Tracks.unqueued {cuts : Prop} {q : Port} {d : Domain} {ref : PieceRef} (m : Tracks True cuts b f) (hb : b.CountLaw)
    (hno : ∀ r ∈ b.requests, r.id = ref.req → ∀ c ∈ r.pieces, c.num = ref.num → c.state ≠ .charging)
    (hq : ref ∉ (b.ports.get q).arbiter.queueOf d) : ref ∉ (f.ports.get q).arbiter.queueOf d := by
  induction m with
  | refl => exact hq
  | tail m g ih =>
    refine g.unqueued (fun x hx hid y hy hnum hch => ?_) ih
    obtain ⟨r, hr, same, hfrom⟩ := (Tracks.piecesFrom m hb).1 x hx
    obtain ⟨c, hc, rfl | ⟨-, rfl, -⟩⟩ := hfrom y hy (by rw [hch]; rfl)
    · exact hno r hr (same.id ▸ hid) y hc hnum hch
    · cases hch

/-- A QUEUED piece that was cut is in no queue (R100). -/
theorem CutStart.queued (h : CutStart u s b) (m : Tracks True False b f) (hs : s.CountLaw) {r : Request} (hr : r ∈ s.requests)
    (hcut : r.cutWith u = true) {c : Piece} (hc : c ∈ r.pieces) (hq : c.state = .queued) :
    ⟨r.id, c.num⟩ ∉ (f.ports.get r.target).arbiter.queueOf r.dom := by
  refine m.unqueued h.count (fun x hx hid y hy _ hch => ?_) ?_
  · rw [h.requests] at hx
    obtain ⟨q, hqm, rfl⟩ := List.mem_map.mp hx
    obtain rfl := hs.eq_of_id hr hqm ((Request.cutAt_fields u q).1.symm.trans hid)
    exact absurd (Request.cutAt_ended hcut y hy) (by rw [hch]; exact Bool.noConfusion)
  · rw [h.ports r.target, PortState.left_queue]
    intro hm
    obtain ⟨-, hk⟩ := List.mem_filter.mp hm
    have hany : (livePairs (s.requests.filter (fun q => q.cutWith u && decide (q.target = r.target)))).any
        (fun y => decide (y.1.dom = r.dom ∧ y.2.state = .queued ∧ (⟨r.id, c.num⟩ : PieceRef) = ⟨y.1.id, y.2.num⟩)) = true :=
      List.any_eq_true.mpr ⟨(r, c), mem_livePairs.mpr ⟨List.mem_filter.mpr ⟨hr, by rw [hcut, decide_eq_true rfl]; rfl⟩, hc, by rw [hq]; rfl⟩,
        decide_eq_true ⟨rfl, hq, rfl⟩⟩
    rw [hany] at hk
    cases hk

/-- A request that was cut is on no list (R100). -/
theorem CutStart.unlisted (h : CutStart u s b) {r : Request} (hr : r ∈ s.requests) (hcut : r.cutWith u = true) {n : Fin 16}
    (hm : r.meter = some n) : r.id ∉ (b.meters.get n).waiting := by
  rw [h.meters n]
  unfold withoutListed
  intro hmem
  obtain ⟨-, hgone⟩ := List.mem_filter.mp hmem
  have : s.requests.any (fun q => decide (q.id = r.id ∧ q.meter = some n) && q.cutWith u) = true :=
    List.any_eq_true.mpr ⟨r, hr, by rw [decide_eq_true ⟨rfl, hm⟩, hcut]; rfl⟩
  dsimp only at hgone
  rw [this] at hgone
  cases hgone

theorem PortState.left_face (l : List (Request × Piece)) (v : PortState) : (v.left l).face = v.face := by
  unfold PortState.left
  induction l generalizing v with
  | nil => rfl
  | cons y l ih =>
    rw [List.foldl_cons, ih]
    unfold leavePlace
    split
    · rfl
    · split <;> rfl
    · split <;> rfl
    · rfl

theorem CutStart.link (h : CutStart u s b) (q : Port) : (b.ports.get q).link = (s.ports.get q).link := by
  rw [h.ports q]
  exact congrArg (fun x => x.1) (PortState.left_face _ _)

/-- The accounts of the waiting lists hold when the meters go on (R89). -/
theorem CutStart.waits (h : CutStart u s b) (hw : s.WaitingLaw) : Waits b.ups none b := by
  obtain ⟨hlist, hopen, -⟩ := hw
  have hsub (n : Fin 16) : (b.meters.get n).waiting.Sublist (s.meters.get n).waiting := by
    rw [h.meters n]
    exact List.filter_sublist
  refine ⟨h.count, fun n => ((hlist n).1).sublist (hsub n), fun n id hid => ?_, fun q hq hab => ?_⟩
  · obtain ⟨r, hr, rfl, hm, hch, hup⟩ := (hlist n).2 id ((hsub n).subset hid)
    have hsame := Request.cutAt_same (Bool.eq_false_iff.mpr fun hcut => h.unlisted hr hcut hm hid)
    refine ⟨r, hsame ▸ h.mem hr, rfl, hm, fun _ => hch, fun hd => hup fun hu => hd ?_⟩
    unfold State.ups
    rw [h.link]
    exact hu
  · rw [h.requests] at hq
    obtain ⟨r, hr, rfl⟩ := List.mem_map.mp hq
    obtain ⟨-, hdom, -, -, -, hab'⟩ := Request.cutAt_fields u r
    unfold State.ups
    rw [hdom, h.link]
    exact hopen r hr (hab' ▸ hab)

end

end Sys2Proof.Machine
end

section
/-! PROOFS. The cut with its meters and flags, and the orphan limits that follow it (R75, R89, R101). -/

namespace Sys2Proof.Machine

open Sys2Proof

/-! ### The flags (R101) -/

/-- Flags set one after another: all else stays, and each is set. -/
theorem foldl_setFlag_cut (l : List Request) (s : State) :
    l.foldl (fun t r => setFlag r.dom .cut t) s = { s with flags := (l.foldl (fun t r => setFlag r.dom .cut t) s).flags } ∧
    (∀ d : Domain, (s.flags.get d).cut = true → ((l.foldl (fun t r => setFlag r.dom .cut t) s).flags.get d).cut = true) ∧
    (∀ r ∈ l, ((l.foldl (fun t r => setFlag r.dom .cut t) s).flags.get r.dom).cut = true) ∧
    ∀ d : Domain, ((l.foldl (fun t r => setFlag r.dom .cut t) s).flags.get d).throttled = (s.flags.get d).throttled ∧
      ((l.foldl (fun t r => setFlag r.dom .cut t) s).flags.get d).clamped = (s.flags.get d).clamped := by
  induction l generalizing s with
  | nil => exact ⟨rfl, fun _ h => h, fun _ h => (nomatch h), fun _ => ⟨rfl, rfl⟩⟩
  | cons r l ih =>
    obtain ⟨h1, h2, h3, h4⟩ := ih (setFlag r.dom .cut s)
    have hget (d : Domain) : (setFlag r.dom .cut s).flags.get d = if d = r.dom then (s.flags.get r.dom).raise .cut else s.flags.get d :=
      PerDomain.get_set _ _ _ _
    rw [List.foldl_cons]
    refine ⟨h1.trans rfl, fun d hd => h2 d ?_, fun q hq => ?_, fun d => ?_⟩
    · rw [hget]
      split
      · rfl
      · exact hd
    · rcases List.mem_cons.mp hq with rfl | hq
      · refine h2 _ ?_
        rw [hget, if_pos rfl]
        rfl
      · exact h3 q hq
    · rw [(h4 d).1, (h4 d).2, hget]
      split
      · rename_i e; rw [e]; exact ⟨rfl, rfl⟩
      · exact ⟨rfl, rfl⟩

/-! ### Tags while the meters go on -/

/-- An evaluation changes no target tag. -/
theorem Charges.tags {n : Fin 16} {s t : State} (h : Charges n s t) (p : Port) : (t.ports.get p).tags = (s.ports.get p).tags := by
  induction h with
  | empty => rfl
  | next s t r rest _ _ _ _ ih => exact ih
  | queued s s1 t r rest before c after _ _ hpaid _ ih =>
    rw [ih, ← hpaid.paidFor.ports]
    unfold withQueued
    dsimp only
    rw [PerPort.get_set]
    split
    · rename_i e; rw [e]
    · rfl
  | linkDown s s1 t r rest before c after _ _ hpaid _ ih =>
    rw [ih, withLinkDown_eq, (withRequestAnswer_tells _ _ _ _).tags, show (unlisted n r rest s1).ports = s1.ports from rfl,
      hpaid.paidFor.ports]
  | waits => rfl

/-- Target tags stay while the meters go on. -/
theorem MetersGoOn.tags {before : State} {l : List (Fin 16)} : ∀ {b t : State}, MetersGoOn before l b t → ∀ p : Port,
    (t.ports.get p).tags = (b.ports.get p).tags := by
  induction l with
  | nil =>
    intro b t h p
    rw [show t = b from h]
  | cons n l ih =>
    rintro b t ⟨x, ⟨hsame, hch⟩, hgo⟩ p
    rw [ih hgo p]
    by_cases he : (before.meters.get n).waiting.head? = (b.meters.get n).waiting.head? ∨ (b.meters.get n).waiting = []
    · rw [hsame he]
    · obtain ⟨h1, h2⟩ := not_or.mp he
      exact (hch h1 h2).tags p

theorem foldl_finishRequest_tags (ids : List Nat) (s : State) (p : Port) :
    ((ids.foldl (fun t id => finishRequest id t) s).ports.get p).tags = (s.ports.get p).tags := by
  induction ids generalizing s with
  | nil => rfl
  | cons id ids ih =>
    rw [List.foldl_cons, ih]
    unfold finishRequest
    split
    · rfl
    · split
      · dsimp only
        split
        · rfl
        · exact (Tells.answerTo _ _ _ _ _).tags p
      · rfl

/-! ### The cut before its fault -/

section
variable {u : Fin 8} {s : State}

theorem cutEnded_tracks (h : s.CountLaw) : Tracks True False (cutPieces u s) (cutEnded u s) := by
  have hb := (cutPieces_start (u := u) h).1.count
  exact (Tracks.evalNewHeads s fun _ => hb).trans (Tracks.foldl (fun t id _ => Tracks.finishRequest id t) _
    ((Tracks.evalNewHeads (cuts := False) s fun _ => hb).countLaw fun _ => hb))

/-- The flags are all that the last part of a cut changes. -/
theorem cutFlagged_eq (u : Fin 8) (s : State) : cutFlagged u s = { cutEnded u s with flags := (cutFlagged u s).flags } :=
  (foldl_setFlag_cut _ _).1

theorem mem_reached {r : Request} : r ∈ requestsInFlight s u ↔ r ∈ s.requests ∧ r.cutWith u = true := List.mem_filter

theorem cutFlagged_requests (u : Fin 8) (s : State) : (cutFlagged u s).requests = (cutEnded u s).requests := by rw [cutFlagged_eq]

theorem cutFlagged_ports (u : Fin 8) (s : State) : (cutFlagged u s).ports = (cutEnded u s).ports := by rw [cutFlagged_eq]

theorem cutFlagged_units (u : Fin 8) (s : State) : (cutFlagged u s).units = (cutEnded u s).units := by rw [cutFlagged_eq]

theorem cutFlagged_meters (u : Fin 8) (s : State) : (cutFlagged u s).meters = (cutEnded u s).meters := by rw [cutFlagged_eq]

theorem cutFlagged_countLaw (h : s.CountLaw) : (cutFlagged u s).CountLaw :=
  (((cutEnded_tracks h).piecesFrom (cutPieces_start h).1.count).2).congr (cutFlagged_requests u s) fun w => by rw [cutFlagged_units]

/-- What the cut leaves alone before its fault. -/
theorem cutFlagged_static (h : s.CountLaw) : (cutFlagged u s).inits = s.inits ∧ (cutFlagged u s).supQ = s.supQ ∧
    (cutFlagged u s).ownQ = s.ownQ ∧ (cutFlagged u s).scores = s.scores ∧ (cutFlagged u s).domains = s.domains ∧
    (cutFlagged u s).fixed = s.fixed ∧ ∀ p, ((cutFlagged u s).ports.get p).link = (s.ports.get p).link := by
  obtain ⟨hst, -⟩ := cutPieces_start (u := u) h
  have hconf := Confined.tracks (cutEnded_tracks (u := u) h)
  obtain ⟨h1, h2, h3, h4, h5, h6⟩ := hconf.static
  have hrest := hst.rest
  refine ⟨?_, ?_, ?_, ?_, ?_, ?_, fun p => ?_⟩
  · rw [cutFlagged_eq]; exact h1.trans (by rw [hrest])
  · rw [cutFlagged_eq]; exact h2.trans (by rw [hrest])
  · rw [cutFlagged_eq]; exact h3.trans (by rw [hrest])
  · rw [cutFlagged_eq]; exact h4.trans (by rw [hrest])
  · rw [cutFlagged_eq]; exact h5.trans (by rw [hrest])
  · rw [cutFlagged_eq]; exact h6.trans (by rw [hrest]; rfl)
  · rw [cutFlagged_ports, hconf.link, hst.link]

/-- The unit that is cut: nothing of it in flight, the cut counted, its drain still going on (R100, R101). -/
theorem cutFlagged_own (h : s.CountLaw) : (cutFlagged u s).units.get u =
    { s.units.get u with inFlight := 0, hand := { (s.units.get u).hand with cutCount := (requestsInFlight s u).length } } ∧
    (cutFlagged u s).livePieces u = 0 := by
  obtain ⟨hst, -⟩ := cutPieces_start (u := u) h
  have htr := cutEnded_tracks (u := u) h
  have hnone : (cutFlagged u s).livePieces u = 0 := by
    unfold State.livePieces
    rw [cutFlagged_requests]
    exact hst.drained htr
  obtain ⟨k, e⟩ := (Confined.tracks htr).unit u
  have hk : k = 0 := by
    have := (cutFlagged_countLaw (u := u) h).2.2 u
    rw [hnone, cutFlagged_units, e] at this
    exact this
  refine ⟨?_, hnone⟩
  rw [cutFlagged_units, e, hst.own, hk]

theorem cutFlagged_states (h : s.CountLaw) (w : Fin 8) : ((cutFlagged u s).units.get w).state = (s.units.get w).state := by
  obtain ⟨hst, hother⟩ := cutPieces_start (u := u) h
  obtain ⟨k, e⟩ := (Confined.tracks (cutEnded_tracks (u := u) h)).unit w
  rw [cutFlagged_units, e]
  by_cases hw : w = u
  · rw [hw, hst.own]
  · rw [hother w hw]

/-- A request that the cut reaches ends: it is released and answered, its flag is set, and it is on no list (R100, R101). -/
theorem cutFlagged_over (h : s.CountLaw) {r : Request} (hr : r ∈ requestsInFlight s u) :
    (∀ x ∈ (cutFlagged u s).requests, x.id ≠ r.id) ∧ ((cutFlagged u s).flags.get r.dom).cut = true ∧
    (∀ n, r.meter = some n → r.id ∉ ((cutFlagged u s).meters.get n).waiting) ∧
    ∀ x, r.tag = some x → r.abandoned = false → (s.ports.get r.dom.port).link = .up →
      OutPacket.completion x (r.worst.merge .cut).answer [] ∈ ((cutFlagged u s).ports.get r.dom.port).outbound := by
  obtain ⟨hst, -⟩ := cutPieces_start (u := u) h
  obtain ⟨hmem, hcut⟩ := mem_reached.mp hr
  obtain ⟨hid, hdom, htag, -, -, hab⟩ := Request.cutAt_fields u r
  obtain ⟨-, hgone, hans⟩ := Request.over_of_ended (before := s) (ids := (requestsInFlight s u).map (fun r => r.id)) hst.count (hst.mem hmem)
    (Request.cutAt_ended hcut) (by rw [hid]; exact List.mem_map_of_mem hr)
  refine ⟨fun x hx => ?_, (foldl_setFlag_cut _ _).2.2.1 r hr, fun n hm hl => ?_, fun x hx ha hup => ?_⟩
  · rw [cutFlagged_requests] at hx
    rw [← hid]
    exact hgone x hx
  · rw [cutFlagged_meters] at hl
    unfold cutEnded at hl
    rw [(foldl_finishRequest_rest _ _).1] at hl
    exact hst.unlisted hmem hcut hm (Shrinks.evalNewHeads s _ n hl)
  · obtain ⟨-, -, -, -, -, -, hlink⟩ := cutFlagged_static (u := u) h
    rw [cutFlagged_ports, ← Request.cutAt_completion hcut x, ← hdom]
    refine hans x (htag.trans hx) (hab.trans ha) ?_
    have := (hlink r.dom.port).trans hup
    rw [cutFlagged_ports, ← hdom] at this
    exact this

/-- The meters whose heads were cut go on (R89, R101). -/
theorem cutFlagged_heads (h : s.CountLaw) (htl : s.TargetLaw) (hw : s.WaitingLaw) :
    HeadsGoOn (fun id => (requestsInFlight s u).any (fun r => decide (r.id = id))) s (cutFlagged u s) := by
  obtain ⟨hst, -⟩ := cutPieces_start (u := u) h
  obtain ⟨hgo, -⟩ := (hst.waits hw).evalNewHeads s
  obtain ⟨hm, hf, hq, hrec⟩ := foldl_finishRequest_rest ((requestsInFlight s u).map (fun r => r.id)) (evalNewHeads s (cutPieces u s))
  have hgone {r : Request} (hr : r ∈ s.requests) : (requestsInFlight s u).any (fun q => decide (q.id = r.id)) = r.cutWith u := by
    rw [Bool.eq_iff_iff, List.any_eq_true]
    constructor
    · rintro ⟨q, hq, e⟩
      obtain ⟨hqm, hcut⟩ := mem_reached.mp hq
      rw [h.eq_of_id hr hqm (of_decide_eq_true e)] at hcut
      exact hcut
    · exact fun hcut => ⟨r, mem_reached.mpr ⟨hr, hcut⟩, decide_eq_true rfl⟩
  have hconf := Confined.tracks (cutEnded_tracks (u := u) h)
  refine ⟨cutPieces u s, evalNewHeads s (cutPieces u s), hgo, fun n => ?_, fun q d => ⟨?_, ?_⟩, fun r hg => ?_, ?_, ?_, ?_, fun q d => ?_,
    fun d => ?_, fun r hg => ?_⟩
  · rw [hst.meters n]
    refine withoutListed_congr fun i hi => ?_
    obtain ⟨r, hr, rfl, hmeter, -⟩ := (hw.1 n).2 i hi
    rw [hgone hr, Bool.eq_iff_iff, List.any_eq_true]
    constructor
    · rintro ⟨x, hx, e⟩
      obtain ⟨hid, hcut⟩ := Bool.and_eq_true_iff.mp e
      rw [h.eq_of_id hr hx (of_decide_eq_true hid).1] at hcut
      exact hcut
    · exact fun hcut => ⟨r, hr, by rw [decide_eq_true ⟨rfl, hmeter⟩, hcut]; rfl⟩
  · rw [cutFlagged_ports, hconf.link]
  · have hqueue := (htl.1 q d).2
    rw [hst.ports q, PortState.left_queue]
    refine List.filter_congr fun ref href => ?_
    obtain ⟨r, hr, c, hc, rfl, ht, hrd, hcs⟩ := hqueue ref href
    show (!_) = !((requestsInFlight s u).any fun q => decide (q.id = r.id))
    rw [hgone hr]
    congr 1
    rw [Bool.eq_iff_iff, List.any_eq_true]
    constructor
    · rintro ⟨y, hy, e⟩
      obtain ⟨hym, hyc, -⟩ := mem_livePairs.mp (show (y.1, y.2) ∈ livePairs _ from hy)
      obtain ⟨hym, hcut⟩ := List.mem_filter.mp hym
      obtain ⟨-, -, eref⟩ := of_decide_eq_true e
      obtain ⟨hyr, -⟩ := h.same_piece hr hym hc hyc eref
      rw [hyr] at hcut
      exact (Bool.and_eq_true_iff.mp hcut).1
    · exact fun hcut => ⟨(r, c), mem_livePairs.mpr ⟨List.mem_filter.mpr ⟨hr, by rw [hcut, decide_eq_true ht]; rfl⟩, hc, by rw [hcs]; rfl⟩,
        decide_eq_true ⟨hrd, hcs, rfl⟩⟩
  · dsimp only at hg
    rw [hst.requests]
    refine ⟨fun hmem => ?_, fun hmem => ?_⟩
    · obtain ⟨r0, hr0, e⟩ := List.mem_map.mp hmem
      have hid : r0.id = r.id := (Request.cutAt_fields u r0).1.symm.trans (congrArg Request.id e)
      rw [← hid, hgone hr0] at hg
      rw [← e, Request.cutAt_same hg]
      exact hr0
    · rw [hgone hmem] at hg
      exact List.mem_map.mpr ⟨r, hmem, Request.cutAt_same hg⟩
  · rw [hst.rest]
  · rw [hst.rest]
  · rw [cutFlagged_meters]
    exact hm
  · rw [cutFlagged_ports]
    exact congrArg (fun x => x.queueOf d) (hq q)
  · obtain ⟨-, -, -, hflags⟩ := foldl_setFlag_cut (requestsInFlight s u) (cutEnded u s)
    have hd := hflags d
    rw [show (cutEnded u s).flags = _ from hf] at hd
    exact hd
  · rw [cutFlagged_requests]
    refine hrec r fun hmem => ?_
    obtain ⟨q, hq, e⟩ := List.mem_map.mp hmem
    have : (requestsInFlight s u).any (fun q => decide (q.id = r.id)) = true := List.any_eq_true.mpr ⟨q, hq, decide_eq_true e⟩
    exact Bool.false_ne_true (hg.symm.trans this)

/-- A tag that no piece reached names stays, where the accounts of the lists hold. -/
theorem cutFlagged_tags (h : s.CountLaw) (hw : s.WaitingLaw) {p : Port} {x : Fin 16}
    (hno : ∀ r ∈ requestsInFlight s u, r.target = p → ∀ c ∈ r.pieces, c.ttag ≠ some x) :
    ((cutFlagged u s).ports.get p).tags.get x = (s.ports.get p).tags.get x := by
  obtain ⟨hst, -⟩ := cutPieces_start (u := u) h
  obtain ⟨hgo, -⟩ := (hst.waits hw).evalNewHeads s
  rw [cutFlagged_ports]
  unfold cutEnded
  rw [foldl_finishRequest_tags, hgo.tags]
  exact hst.tag_other fun r hr hcut ht c hc => hno r (mem_reached.mpr ⟨hr, hcut⟩) ht c hc

/-- A tag that no piece at all names stays. -/
theorem cutFlagged_tag_unnamed (h : s.CountLaw) {p : Port} {x : Fin 16}
    (hno : ∀ r ∈ s.requests, r.target = p → ∀ c ∈ r.pieces, c.ttag ≠ some x) :
    ((cutFlagged u s).ports.get p).tags.get x = (s.ports.get p).tags.get x := by
  obtain ⟨hst, -⟩ := cutPieces_start (u := u) h
  rw [cutFlagged_ports, (cutEnded_tracks h).tag_kept hst.count (hst.noGrant fun r hr _ ht c hc _ => hno r hr ht c hc)]
  exact hst.tag_other fun r hr _ ht c hc => hno r hr ht c hc

/-! ### Where no head was cut -/

/-- Requests that all have nothing outstanding end, and no other. -/
theorem foldl_finishRequest_all (ids : List Nat) : ∀ {s : State}, s.CountLaw → ids.Nodup →
    (∀ id ∈ ids, ∃ r ∈ s.requests, r.id = id ∧ r.outstanding = 0) →
    (ids.foldl (fun t id => finishRequest id t) s).requests = s.requests.filter (fun r => !decide (r.id ∈ ids)) ∧
      (ids.foldl (fun t id => finishRequest id t) s).units = s.units := by
  induction ids with
  | nil => intro s _ _ _; simp
  | cons id ids ih =>
    intro s hs hn hall
    obtain ⟨hid, hids⟩ := List.nodup_cons.mp hn
    obtain ⟨r, hr, rfl, h0⟩ := hall id List.mem_cons_self
    have hone : (finishRequest r.id s).requests = s.requests.filter (fun x => decide (x.id ≠ r.id)) ∧ (finishRequest r.id s).units = s.units := by
      unfold finishRequest
      rw [(hs.lone hr).request]
      dsimp only
      rw [if_pos h0]
      split
      · exact ⟨rfl, rfl⟩
      · exact ⟨(Tells.answerTo _ _ _ _ _).requests, (Tells.answerTo _ _ _ _ _).units⟩
    obtain ⟨hreq, hunits⟩ := ih (hs.moves (Moves.finishRequest r.id s)) hids fun id hm => by
      obtain ⟨q, hq, rfl, hq0⟩ := hall id (List.mem_cons_of_mem _ hm)
      refine ⟨q, ?_, rfl, hq0⟩
      rw [hone.1]
      exact List.mem_filter.mpr ⟨hq, decide_eq_true fun e => hid (e ▸ hm)⟩
    rw [List.foldl_cons, hreq, hunits, hone.1, hone.2, List.filter_filter]
    refine ⟨List.filter_congr fun x _ => ?_, rfl⟩
    simp only [List.mem_cons, ne_eq, Bool.not_or, decide_not, Bool.decide_or]
    exact Bool.and_comm _ _

/-- Where no meter lost its head, the cut takes its requests alone (R101). -/
theorem cutFlagged_headless (h : s.CountLaw) (hheads : ∀ r ∈ requestsInFlight s u, ∀ n : Fin 16, (s.meters.get n).waiting.head? ≠ some r.id) :
    (cutFlagged u s).requests = s.requests.filter (fun r => !r.cutWith u) ∧
    ∀ w : Fin 8, w ≠ u → (cutFlagged u s).units.get w = s.units.get w := by
  obtain ⟨hst, hother⟩ := cutPieces_start (u := u) h
  have hsame : evalNewHeads s (cutPieces u s) = cutPieces u s := by
    refine evalNewHeads_heads fun n => ?_
    rw [hst.meters n]
    unfold withoutListed
    dsimp only
    cases hw : (s.meters.get n).waiting with
    | nil => rfl
    | cons i rest =>
      rw [List.filter_cons_of_pos]
      · rfl
      · refine (Bool.not_eq_true' _).mpr (Bool.eq_false_iff.mpr fun e => ?_)
        obtain ⟨r, hr, hx⟩ := List.any_eq_true.mp e
        obtain ⟨hid, hcut⟩ := Bool.and_eq_true_iff.mp hx
        refine hheads r (mem_reached.mpr ⟨hr, hcut⟩) n ?_
        rw [hw, (of_decide_eq_true hid).1]
        rfl
  obtain ⟨hreq, hunits⟩ := foldl_finishRequest_all ((requestsInFlight s u).map (fun r => r.id)) hst.count (requestsInFlight_ids h u)
    fun id hid => by
      obtain ⟨r, hr, rfl⟩ := List.mem_map.mp hid
      obtain ⟨hr, hcut⟩ := mem_reached.mp hr
      refine ⟨r.cutAt u, hst.mem hr, (Request.cutAt_fields u r).1, ?_⟩
      rw [(hst.count.counted (hst.mem hr)).2]
      exact List.length_eq_zero_iff.mpr (List.filter_eq_nil_iff.mpr fun c hc => by rw [Request.cutAt_ended hcut c hc]; exact Bool.false_ne_true)
  rw [cutFlagged_requests, cutFlagged_units]
  unfold cutEnded
  rw [hsame, hreq, hunits]
  refine ⟨?_, hother⟩
  have hin (r : Request) (hr : r ∈ s.requests) : r.id ∈ (requestsInFlight s u).map (fun r => r.id) ↔ r.cutWith u = true := by
    refine ⟨fun hm => ?_, fun hcut => List.mem_map.mpr ⟨r, mem_reached.mpr ⟨hr, hcut⟩, rfl⟩⟩
    obtain ⟨q, hq, e⟩ := List.mem_map.mp hm
    obtain ⟨hq, hcut⟩ := mem_reached.mp hq
    rw [← h.eq_of_id hr hq e]
    exact hcut
  rw [hst.requests, List.filter_map]
  have hfilter : s.requests.filter ((fun r => !decide (r.id ∈ (requestsInFlight s u).map (fun r => r.id))) ∘ Request.cutAt u) =
      s.requests.filter (fun r => !r.cutWith u) := by
    refine List.filter_congr fun r hr => ?_
    simp only [Function.comp_apply, (Request.cutAt_fields u r).1, hin r hr, Bool.decide_eq_true]
  rw [hfilter]
  refine (List.map_congr_left fun r hr => ?_).trans (List.map_id _)
  exact Request.cutAt_same ((Bool.not_eq_true' _).mp (List.mem_filter.mp hr).2)

end

end Sys2Proof.Machine
end

section
/-! PROOFS. The orphan limits after a cut, and the drain deadline, whole (R75, R100, R101). -/

namespace Sys2Proof.Machine

open Sys2Proof

/-! ### A port reset and the other ports -/

section
variable {p q : Port} {link : LinkState} {hold : Option Nat} {cutting : Option (Fin 8)} {s : State}

/-- A port reset leaves alone the tags of another port that no GRANTED piece holds, and grants none. -/
theorem resetPort_tags (hl : link ≠ .up) (hs : s.CountLaw) (hq : q ≠ p) {x : Fin 16} (hno : NoGrant q x s) :
    ((resetPort p link hold cutting s).ports.get q).tags.get x = (s.ports.get q).tags.get x ∧
    NoGrant q x (resetPort p link hold cutting s) := by
  have hst := resetStart_counted (p := p) (link := link) (hold := hold) hs
  have hm := resetEnded_counted (p := p) (link := link) (hold := hold) hs
  have hall := (resetBody_fails (p := p) (link := link) (hold := hold) (s := s)).trans (resetPort_fails (cutting := cutting) hl)
  have hin : grantedIn (s.requests.filter (fun r => decide (r.dom.port = p ∧ r.target = q))) x = false := by
    refine Bool.eq_false_iff.mpr fun e => ?_
    obtain ⟨r, hr, c, hc, hg, ht⟩ := grantedIn_iff.mp e
    obtain ⟨hr, hrt⟩ := List.mem_filter.mp hr
    exact hno r hr (of_decide_eq_true hrt).2 c hc hg ht
  have hstart : NoGrant q x (resetStart p link hold s) := by
    intro r hr ht c hc hg
    rw [hst.requests] at hr
    obtain ⟨r0, hr0, rfl⟩ := List.mem_map.mp hr
    obtain ⟨-, hmem, -⟩ := Request.resetAt_piece hc (by rw [hg]; rfl)
    exact hno r0 hr0 ((Request.resetAt_fields p r0).2.2.2.1.symm.trans ht) c hmem hg
  refine ⟨?_, fun r hr ht c hc hg => ?_⟩
  · obtain ⟨_, -, e⟩ := hall.port q
    rw [e]
    dsimp only
    rw [hm.tag_kept hst.count hstart, hst.ports q hq, PortState.deserted_tags, hin, if_neg Bool.false_ne_true]
  · rw [hall.requests] at hr
    exact (hstart.piecesFrom (hm.piecesFrom hst.count).1) r hr ht c hc hg

theorem resetPort_countLaw (hl : link ≠ .up) (hs : s.CountLaw) : (resetPort p link hold cutting s).CountLaw := by
  have hall := (resetBody_fails (p := p) (link := link) (hold := hold) (s := s)).trans (resetPort_fails (cutting := cutting) hl)
  exact ((resetEnded_counted (link := link) (hold := hold) hs).piecesFrom (resetStart_counted hs).count).2.congr hall.requests
    fun u => (hall.unit u).1

/-- The unit that is being cut stays on its port. -/
theorem resetPort_cutting (hl : link ≠ .up) (u : Fin 8) :
    ((resetPort p link hold (some u) s).units.get u).port = (s.units.get u).port := by
  have hout : u ∉ endingOn p (some u) (resetBody p link hold s) := fun h => (mem_endingOn.mp h).2.1 rfl
  rw [resetPort_fold hl, foldl_withScrubFailed_other hout, resetBody_unitPort u hl]

end

/-! ### The orphan limits one after another (R75) -/

/-- All the tags of `q` are ORPHANED, and no piece toward it is GRANTED. -/
structure Crowded (q : Port) (s : State) : Prop where
  count : s.CountLaw
  tags  : ∀ j : Fin 16, (s.ports.get q).tags.get j = .orphaned
  free  : ∀ j : Fin 16, NoGrant q j s

section
variable {u : Fin 8} {p q : Port} {s : State}

theorem orphanLimit_unitPort (u : Fin 8) (p : Port) (s : State) :
    ((orphanLimit p (some u) s).units.get u).port = (s.units.get u).port := by
  unfold orphanLimit
  split
  · rw [resetPort_cutting (by decide), (Tells.raiseFault _ _).units]
  · rfl

theorem Crowded.raiseFault (e : FaultEvent) (h : Crowded q s) : Crowded q (raiseFault e s) := by
  have ht := Tells.raiseFault e s
  refine ⟨h.count.congr ht.requests fun w => by rw [ht.units], fun j => by rw [ht.tags]; exact h.tags j, fun j r hr => ?_⟩
  rw [ht.requests] at hr
  exact h.free j r hr

theorem Crowded.orphanLimit (h : Crowded q s) (hp : q ≠ p) (cutting : Option (Fin 8)) : Crowded q (orphanLimit p cutting s) := by
  unfold Machine.orphanLimit
  split
  · have hf := h.raiseFault (portFault .orphanLimit p.byte none none 0)
    refine ⟨resetPort_countLaw (by decide) hf.count, fun j => ?_, fun j => (resetPort_tags (by decide) hf.count hp (hf.free j)).2⟩
    rw [(resetPort_tags (by decide) hf.count hp (hf.free j)).1]
    exact hf.tags j
  · exact h

/-- A port that is RESETTING stays so while other ports are judged. -/
theorem orphanLimit_resetting (p : Port) (cutting : Option (Fin 8)) (h : (s.ports.get q).link = .resetting) :
    ((orphanLimit p cutting s).ports.get q).link = .resetting := by
  unfold orphanLimit
  split
  · by_cases hq : q = p
    · subst hq
      rw [resetPort_port (by decide)]
      rfl
    · have hface := resetPort_face (p := p) (q := q) (link := .resetting) (hold := some (s.gateTime + Config.holdTime)) (cutting := cutting)
        (s := raiseFault (portFault .orphanLimit p.byte none none 0) s) (by decide) hq
      exact (congrArg (fun x => x.1) hface).trans (((Tells.raiseFault _ _).link q).trans h)
  · exact h

theorem Crowded.resets (h : Crowded q s) (cutting : Option (Fin 8)) : ((Machine.orphanLimit q cutting s).ports.get q).link = .resetting := by
  unfold Machine.orphanLimit
  rw [if_pos (allOrphaned_iff.mpr h.tags), resetPort_port (by decide)]
  rfl

theorem foldl_orphanLimit_resetting (l : List Port) (cutting : Option (Fin 8)) : ∀ {s : State}, (s.ports.get q).link = .resetting →
    ((l.foldl (fun x p => orphanLimit p cutting x) s).ports.get q).link = .resetting := by
  induction l with
  | nil => exact fun h => h
  | cons p l ih => exact fun h => ih (orphanLimit_resetting p cutting h)

/-- A port that is crowded is reset when the ports of a list with it are judged. -/
theorem Crowded.foldl (cutting : Option (Fin 8)) {l : List Port} : ∀ {s : State}, q ∈ l → Crowded q s →
    ((l.foldl (fun x p => Machine.orphanLimit p cutting x) s).ports.get q).link = .resetting := by
  induction l with
  | nil => exact fun hq _ => nomatch hq
  | cons p l ih =>
    intro s hq h
    rw [List.foldl_cons]
    by_cases hp : q = p
    · rw [← hp]
      exact foldl_orphanLimit_resetting l cutting (h.resets cutting)
    · exact ih ((List.mem_cons.mp hq).resolve_left hp) (h.orphanLimit hp cutting)

theorem foldl_orphanLimit_unitPort (u : Fin 8) (l : List Port) (s : State) :
    ((l.foldl (fun x p => orphanLimit p (some u) x) s).units.get u).port = (s.units.get u).port := by
  induction l generalizing s with
  | nil => rfl
  | cons p l ih => exact (ih _).trans (orphanLimit_unitPort u p s)

theorem foldl_orphanLimit_roomy (cutting : Option (Fin 8)) (h : ∀ p : Port, ∃ j : Fin 16, (s.ports.get p).tags.get j ≠ .orphaned) (l : List Port) :
    l.foldl (fun x p => orphanLimit p cutting x) s = s := by
  induction l with
  | nil => rfl
  | cons p l ih =>
    rw [List.foldl_cons, orphanLimit_below (h p)]
    exact ih

theorem orphanLimits_foldl (u : Fin 8) (l : List Port) (s : State) : OrphanLimits u l s (l.foldl (fun x p => orphanLimit p (some u) x) s) := by
  induction l generalizing s with
  | nil => rfl
  | cons p l ih => exact ⟨orphanLimit p (some u) s, fun hall => orphanLimit_of hall, fun hj => orphanLimit_below hj, ih _⟩

end

/-! ### A port that the cut leaves crowded -/

/-- A tag that is ORPHANED once pieces are removed and queued was so before. -/
theorem Track.tag_orphaned {p : Port} {x : Fin 16} {s t : State} (h : Track True False s t) (ho : (t.ports.get p).tags.get x = .orphaned) :
    (s.ports.get p).tags.get x = .orphaned := by
  cases h with
  | ends r c st _ hcut _ =>
    rw [endPiece_ports, vacate_eq] at ho
    dsimp only at ho
    rw [PerPort.get_set] at ho
    split at ho
    · rename_i e
      subst e
      unfold leavePlace at ho
      cases hs : c.state with
      | sent => exact (hcut hs).elim
      | granted =>
        rw [hs] at ho
        cases hi : c.ttag with
        | none => rw [hi] at ho; exact ho
        | some i =>
          rw [hi] at ho
          dsimp only at ho
          rw [setAt_get] at ho
          split at ho
          · cases ho
          · exact ho
      | queued => rw [hs] at ho; exact ho
      | charging => rw [hs] at ho; exact ho
      | resolved st => rw [hs] at ho; exact ho
      | removed => rw [hs] at ho; exact ho
    · exact ho
  | queues r c _ _ hup =>
    have : ((s.ports.set r.target _).get p).tags.get x = .orphaned := ho
    rw [PerPort.get_set] at this
    split at this
    · rename_i e; subst e; exact this
    · exact this
  | finishes r hr h0 =>
    have := foldl_finishRequest_tags [r.id] s p
    rw [show ([r.id].foldl (fun t id => finishRequest id t) s) = finishRequest r.id s from rfl] at this
    rw [← this]
    exact ho
  | meters m => exact ho
  | flags f => exact ho

theorem Tracks.tag_orphaned {p : Port} {x : Fin 16} {s t : State} (h : Tracks True False s t) (ho : (t.ports.get p).tags.get x = .orphaned) :
    (s.ports.get p).tags.get x = .orphaned := by
  induction h with
  | refl => exact ho
  | tail _ g ih => exact ih (g.tag_orphaned ho)

section
variable {u : Fin 8} {s : State}

/-- Where the cut leaves all the tags of a port ORPHANED, no piece toward it is GRANTED (R64). -/
theorem cutFlagged_crowded (h : s.CountLaw) (htl : s.TargetLaw) {q : Port}
    (hall : ∀ j : Fin 16, ((cutFlagged u s).ports.get q).tags.get j = .orphaned) : Crowded q (cutFlagged u s) := by
  obtain ⟨hst, -⟩ := cutPieces_start (u := u) h
  have htr := cutEnded_tracks (u := u) h
  refine ⟨cutFlagged_countLaw h, hall, fun j x hx ht y hy hg hyj => ?_⟩
  rw [cutFlagged_requests] at hx
  obtain ⟨r, hr, ⟨-, -, htarget, -⟩, hfrom⟩ := hst.origin htr x hx
  obtain ⟨hno, c, hc, -, rfl | ⟨-, rfl⟩⟩ := hfrom y hy (by rw [hg]; rfl)
  · have hrq : r.target = q := htarget.symm.trans ht
    obtain ⟨i, hi, hlive⟩ := htl.2.1 r hr y hc (.inl hg)
    obtain rfl : j = i := Option.some.inj (hyj.symm.trans hi)
    have ho : ((cutPieces u s).ports.get q).tags.get j = .orphaned := by
      refine htr.tag_orphaned ?_
      rw [← cutFlagged_ports]
      exact hall j
    rw [hst.ports q, PortState.left_tag_other (fun z hz hzj => ?_), ← hrq, hlive] at ho
    · cases ho
    · obtain ⟨hzr, hzc, -⟩ := mem_livePairs.mp (show (z.1, z.2) ∈ livePairs _ from hz)
      obtain ⟨hzr, hcut⟩ := List.mem_filter.mp hzr
      obtain ⟨hcut, hzt⟩ := Bool.and_eq_true_iff.mp hcut
      obtain ⟨e, -⟩ := htl.one_piece h hr hzr hc hzc (.inl hg) hzj.2 (hrq.trans (of_decide_eq_true hzt).symm) hyj hzj.1
      rw [e, hno] at hcut
      cases hcut
  · cases hg

/-! ### The fault of the cut -/

/-- The record of a fault of a port goes to no initiator's own queue (R125, R126). -/
theorem recordFault_port_own (c : FaultClass) (src : Byte) (u : Option (Fin 8)) (a : Option Addr) (n : Nat) (s : State) :
    (recordFault (portFault c src u a n) s).ownQ = s.ownQ := by
  have hhand (d : Domain) (x : State) : (handFaultNotice d x).ownQ = x.ownQ := by
    unfold handFaultNotice placeOut
    split
    · split <;> rfl
    · rfl
  have hafter (n : Nat) (x : State) : (afterPlacing .pay n x).ownQ = x.ownQ := by
    unfold afterPlacing tellReader
    split
    · rw [hhand]
      rfl
    · rfl
  unfold recordFault
  rw [show delegatedTo s (portFault c src u a n) = none from rfl]
  dsimp only
  split
  · exact (hafter _ _).trans rfl
  · rfl

/-! ### The drain deadline (R100, R101) -/

theorem drainDeadline_runs {g : Holding} {e : Nat} (hstate : (s.units.get u).state = .draining g) (h0 : (s.units.get u).inFlight ≠ 0)
    (he : (s.units.get u).hand.drainTimer = some e) : exec (.drainDeadline u) s = .next (if e ≤ s.gateTime then
      endDrain u g (allPorts.foldl (fun x p => orphanLimit p (some u) x) (makeCut u s)) else s) := by
  have htimer : cutTimer s u = some (g, e) := by
    unfold cutTimer
    rw [show (s.unit u).state = .draining g from hstate]
    dsimp only
    rw [if_neg (show (s.unit u).inFlight ≠ 0 from h0), show (s.unit u).hand.drainTimer = some e from he]
    rfl
  simp only [exec, execDrainDeadline, htimer]

/-- What is left of the unit when its cut and the orphan limits are over: it drains with nothing in flight, on its port. -/
theorem cutLimits_unit {g : Holding} (h : s.CountLaw) (hstate : (s.units.get u).state = .draining g) (l : List Port) :
    ((l.foldl (fun x p => orphanLimit p (some u) x) (makeCut u s)).units.get u).state = .draining g ∧
    ((l.foldl (fun x p => orphanLimit p (some u) x) (makeCut u s)).units.get u).inFlight = 0 ∧
    ((l.foldl (fun x p => orphanLimit p (some u) x) (makeCut u s)).units.get u).port = (s.units.get u).port := by
  have hown : (makeCut u s).units.get u = { s.units.get u with
      inFlight := 0, hand := { (s.units.get u).hand with cutCount := (requestsInFlight s u).length } } := by
    rw [makeCut_eq, (Tells.raiseFault _ _).units]
    exact (cutFlagged_own h).1
  obtain ⟨hk, -, hle⟩ := KeepsUnit.foldl (fun x p => KeepsUnit.orphanLimit u p x) l (makeCut u s)
  rw [hown] at hk hle
  refine ⟨hk.trans hstate, Nat.le_zero.mp hle, ?_⟩
  rw [foldl_orphanLimit_unitPort, hown]

theorem drainEnd_runs {g : Holding} (hstate : (s.units.get u).state = .draining g) (h0 : (s.units.get u).inFlight = 0) :
    exec (.drainEnd u) s = .next (endDrain u g s) := congrArg _ (beginDue_ended hstate h0)

/-- A drain that ends at a port that is not UP fails its scrub (R103, R106). -/
theorem endDrain_down {g : Holding} {q : Port} (hp : (s.units.get u).port = some q) (hd : (s.ports.get q).link ≠ .up) :
    ((endDrain u g s).units.get u).state = .failed ∧ ((endDrain u g s).units.get u).hand = Handover.idle := by
  have hport : ((drainEnded u g s).units.get u).port = some q := by
    rw [show (drainEnded u g s).units.get u = _ from setAt_get_same _ _ _]
    exact hp
  rw [show endDrain u g s = scrubFail u (drainEnded u g s) from beginScrub_down hport hd, (scrubFail_tells u _).units]
  unfold State.setUnits
  dsimp only
  rw [setAt_get_same]
  exact ⟨rfl, rfl⟩

/-- A drain that ends at an UP port, its script not empty, places step 1 (R103). -/
theorem endDrain_up {g : Holding} {q : Port} (hp : (s.units.get u).port = some q) (hup : (s.ports.get q).link = .up)
    (hn : (s.units.get u).script ≠ []) : endDrain u g s = placeStep u q 1 (drainEnded u g s) := by
  have hget : (drainEnded u g s).units.get u = _ := setAt_get_same _ _ _
  have hport : ((drainEnded u g s).units.get u).port = some q := by rw [hget]; exact hp
  refine (beginScrub_up (s := drainEnded u g s) hport hup).trans (if_neg ?_)
  rw [hget]
  exact hn

/-- What the first step of a script leaves alone, and the unit whose drain it ends. -/
theorem stepPlaced_rest (u : Fin 8) (g : Holding) (q : Port) (s t : State) (ht : t = placeStep u q 1 (drainEnded u g s)) :
    t.units.get u = { s.units.get u with
      state := .scrubbing g, hand := { (s.units.get u).hand with drainTimer := none, scrubPos := 1 } } ∧
    t.requests = s.requests ∧ t.flags = s.flags ∧ t.scores = s.scores ∧ t.domains = s.domains ∧ t.ownQ = s.ownQ ∧ t.fixed = s.fixed := by
  subst ht
  refine ⟨?_, rfl, rfl, rfl, rfl, rfl, rfl⟩
  unfold placeStep drainEnded State.modPort
  rw [modUnit_modUnit]
  exact setAt_get_same _ _ _

/-- Ports with a FREE tag that no piece names are not reset by the cut (R75). -/
theorem cutLimits_roomy (h : s.CountLaw) (hroomy : ∀ p : Port, ∃ j, (s.ports.get p).tags.get j = .free ∧
    ∀ r ∈ s.requests, r.target = p → ∀ c ∈ r.pieces, c.ttag ≠ some j) (l : List Port) :
    l.foldl (fun x p => orphanLimit p (some u) x) (makeCut u s) = makeCut u s := by
  refine foldl_orphanLimit_roomy (some u) (fun p => ?_) l
  obtain ⟨j, hj, hno⟩ := hroomy p
  refine ⟨j, ?_⟩
  rw [makeCut_eq, (Tells.raiseFault _ _).tags, cutFlagged_tag_unnamed h hno, hj]
  simp

/-- The cut of one request with one piece, SENT (R100, R101). -/
theorem cutFlagged_single (h : s.CountLaw) {r : Request} {c : Piece} {t : Fin 16} (hone : requestsInFlight s u = [r]) (hc : r.pieces = [c])
    (hsent : c.state = .sent) (ht : c.ttag = some t) (hno : ∀ n : Fin 16, r.id ∉ (s.meters.get n).waiting)
    (hup : r.abandoned = false → (s.ports.get r.dom.port).link = .up) :
    cutFlagged u s = withFlag r.dom .cut (withRequestAnswer r (r.worst.merge .cut) []
      { s with
        ports := s.ports.set r.target { s.ports.get r.target with tags := setAt (s.ports.get r.target).tags t .orphaned }
        units := setAt s.units u { s.units.get u with inFlight := 0, hand := { (s.units.get u).hand with cutCount := 1 } }
        requests := s.requests.filter (fun y => decide (y.id ≠ r.id)) }) := by
  have hmem : r ∈ requestsInFlight s u := by rw [hone]; exact List.mem_cons_self
  obtain ⟨hr, hcut⟩ := mem_reached.mp hmem
  have hlone := h.lone hr
  have hcount := h.counted hr
  obtain ⟨hst, hother⟩ := cutPieces_start (u := u) h
  have hmeters : metersWithout r s.meters = s.meters := by
    refine Vector.ext_get fun n => ?_
    rw [metersWithout_get]
    split
    · exact withoutListed_absent (hno n)
    · rfl
  have hunits : (cutPieces u s).units =
      setAt s.units u { s.units.get u with inFlight := 0, hand := { (s.units.get u).hand with cutCount := 1 } } := by
    refine Vector.ext_get fun w => ?_
    rw [setAt_get]
    split
    · rename_i e
      rw [e, hst.own, hone]
      rfl
    · exact hother w ‹_›
  have hport : leavePlaces r (r.pieces.filter (fun c => c.state.live)) (s.ports.get r.target) =
      { s.ports.get r.target with tags := setAt (s.ports.get r.target).tags t .orphaned } := by
    rw [hc, List.filter_cons_of_pos (by rw [hsent]; rfl)]
    unfold leavePlaces leavePlace
    simp only [List.filter_nil, List.foldl_cons, List.foldl_nil, hsent, ht]
  let ended := r.endedBy PieceState.live (.resolved .cut)
  have hrun : cutPieces u s =
      { s with
        requests := replaced r ended s.requests
        units := setAt s.units u { s.units.get u with inFlight := 0, hand := { (s.units.get u).hand with cutCount := 1 } }
        ports := s.ports.set r.target { s.ports.get r.target with tags := setAt (s.ports.get r.target).tags t .orphaned } } := by
    rw [← hunits, ← hport]
    unfold cutPieces
    rw [hone]
    simp only [List.foldl_cons, List.foldl_nil]
    rw [cutRequest_lone hlone hcount, hmeters]
    rfl
  have hsame : evalNewHeads s (cutPieces u s) = cutPieces u s := evalNewHeads_same fun n => by rw [hrun]
  have hleft : Lone (cutPieces u s) ended := hlone.replaced rfl (by rw [hrun])
  have h0 : ended.outstanding = 0 := by
    rw [(hst.count.counted hleft.mem).2]
    exact Request.endedBy_live r .cut
  have hworst : ended.worst = r.worst.merge .cut := by
    show (if _ then r.worst.merge .cut else r.worst) = _
    exact if_pos (Bool.and_eq_true_iff.mp hcut).2
  have hup' : ended.abandoned = false → ((cutPieces u s).ports.get ended.dom.port).link = .up := fun ha => by
    rw [hst.link]
    exact hup ha
  have hend : cutEnded u s = finishRequest ended.id (cutPieces u s) := by
    unfold cutEnded
    rw [hsame, hone]
    rfl
  unfold cutFlagged
  rw [hone, hend, finishRequest_ends hleft h0 hup', hworst,
    withRequestAnswer_failed (q := ended) (r := r) (data' := []) (PieceStatus.merge_ne_ok _ (by decide)) rfl rfl rfl, hrun]
  dsimp only
  rw [show ended.id = r.id from rfl, filter_replaced (r := r) (r' := ended) rfl]
  rfl

end

/-- Settles O45: the cut, the orphan limits of the ports and the end of the drain follow one another. -/
theorem drainDeadlineCutsThePieces : Obligations.DrainDeadlineCutsThePieces := by
  intro u g e q s hstate h0 he hp
  have hrun := drainDeadline_runs hstate h0 he
  have hfault (n : Nat) : portFault .cut (unitPortByte (s.units.get u)) (some u) none n =
      ⟨.cut, q.byte, none, none, none, none, none, none, none, none, some u, n⟩ := by
    unfold unitPortByte
    rw [hp]
    rfl
  refine ⟨fun hlt => ?_, fun hle h => ?_⟩
  · rw [hrun, if_neg (Nat.not_le.mpr hlt)]
  rw [if_pos hle] at hrun
  intro v roomy
  have hmake : makeCut u s = raiseFault ⟨.cut, q.byte, none, none, none, none, none, none, none, none, some u, (requestsInFlight s u).length⟩
      (cutFlagged u s) := by rw [makeCut_eq, hfault]
  obtain ⟨hst, hother⟩ := cutPieces_start (u := u) h
  have htr := cutEnded_tracks (u := u) h
  obtain ⟨hlast, hzero, hport⟩ := cutLimits_unit (l := allPorts) h hstate
  have hend := drainEnd_runs hlast hzero
  obtain ⟨-, hsup, hown, hscores, hdomains, hfixed, hlink⟩ := cutFlagged_static (u := u) h
  have hfix := hfixed
  simp only [State.fixed, Prod.mk.injEq] at hfix
  obtain ⟨htime, -, hactive, hpend, -, hcommit, hctl, hmasks, -, -⟩ := hfix
  refine ⟨fun r c t hone hc hsent ht hno hup hroomy => ?_, fun htl => ?_, fun hup hn hroomy => ?_⟩
  · have hcut := cutFlagged_single h hone hc hsent ht hno hup
    have hlen : (requestsInFlight s u).length = 1 := by
      rw [show requestsInFlight s u = [r] from hone]
      rfl
    rw [hlen, hcut] at hmake
    rw [cutLimits_roomy h hroomy, hmake] at hend hrun
    exact ⟨_, hend, hrun⟩
  · refine ⟨cutFlagged u s, _, _, ?_, fun hroomy => ?_, hend, hrun, fun hall => ?_, fun hw p j hno => cutFlagged_tags h hw hno,
      fun hw => cutFlagged_heads h htl hw, (cutFlagged_own h).1, (cutFlagged_own h).2, fun r hr => ?_,
      fun hheads => cutFlagged_headless h hheads, hsup, hown, hscores, hdomains, hactive, hpend, hctl, hmasks, htime, hcommit,
      cutFlagged_states h⟩
    · rw [hmake]
      exact orphanLimits_foldl u _ _
    · rw [cutLimits_roomy h hroomy, hmake]
      rfl
    · have hcrowd : Crowded q (makeCut u s) := by
        rw [hmake]
        exact (cutFlagged_crowded h htl hall).raiseFault _
      have hreset := hcrowd.foldl (some u) (l := allPorts) (by cases q <;> decide)
      exact ⟨hreset, endDrain_down (hport.trans hp) (by rw [hreset]; decide)⟩
    · obtain ⟨hover, hflag, hlist, hans⟩ := cutFlagged_over h hr
      obtain ⟨hmem, hcut⟩ := mem_reached.mp hr
      refine ⟨hover, hflag, hlist, hans, fun c hc => ⟨fun hq => ?_, fun t ht => ⟨fun hg => ?_, fun hg => ?_⟩⟩⟩
      · rw [cutFlagged_ports]
        exact hst.queued htr h hmem hcut hc hq
      · rw [cutFlagged_ports]
        exact hst.grantedTag htr h htl hmem hcut hc ht hg
      · rw [cutFlagged_ports]
        exact hst.sentTag htr h htl hmem hcut hc ht hg
  · rw [cutLimits_roomy h hroomy] at hrun
    have htells : Tells (cutFlagged u s) (makeCut u s) := by rw [hmake]; exact Tells.raiseFault _ _
    have hget : (makeCut u s).units.get u = _ := (congrArg (fun x => x.get u) htells.units).trans (cutFlagged_own h).1
    have hmport : ((makeCut u s).units.get u).port = some q := by rw [hget]; exact hp
    have hmscript : ((makeCut u s).units.get u).script ≠ [] := by rw [hget]; exact hn
    obtain ⟨hc1, hc2, -⟩ := recordFault_port .cut (unitPortByte (s.units.get u)) (some u) none (requestsInFlight s u).length (cutFlagged u s)
    have hc3 := recordFault_port_own .cut (unitPortByte (s.units.get u)) (some u) none (requestsInFlight s u).length (cutFlagged u s)
    have hc4 := (Quiet.raiseFault (portFault .cut (unitPortByte (s.units.get u)) (some u) none (requestsInFlight s u).length)
      (cutFlagged u s)).fixed
    have hflags := (FaultOnly.raiseFault (portFault .cut (unitPortByte (s.units.get u)) (some u) none (requestsInFlight s u).length)
      (cutFlagged u s)).flags
    rw [← makeCut_eq] at hc4 hflags
    rw [← raiseFault_port, ← makeCut_eq] at hc1 hc2 hc3
    generalize hk : endDrain u g (makeCut u s) = t at hrun
    rw [endDrain_up hmport (((htells.link q).trans (hlink q)).trans hup) hmscript] at hk
    obtain ⟨hunit, hreq, hfl, hsc, hdo, how, hfx⟩ := stepPlaced_rest u g q _ t hk.symm
    have hfx := (hfx.trans hc4).trans hfixed
    simp only [State.fixed, Prod.mk.injEq] at hfx
    obtain ⟨htime', -, hactive', hpend', -, -, hctl', hmasks', -, -⟩ := hfx
    refine ⟨t, hrun, ?_, ?_, fun r hr => ?_, hactive', hpend', (hsc.trans hc1).trans hscores, (hdo.trans hc2).trans hdomains,
      (how.trans hc3).trans hown, hctl', hmasks', htime'⟩
    · rw [hunit, hget]
      rfl
    · unfold State.livePieces
      rw [hreq, htells.requests]
      exact (cutFlagged_own h).2
    · rw [hfl, hflags]
      exact (cutFlagged_over h hr).2.1

end Sys2Proof.Machine
end

section
/-! PROOFS. The accounts of the target ports as a table of the pieces that stand there, and what single changes keep of them (R62 to R64,
R67). -/

namespace Sys2Proof.Machine

open Sys2Proof

/-! ### The table -/

/-- The piece `ref`, toward `p` and of domain `d`, stands in state `st` under tag `x`. -/
def State.Stands (s : State) (ref : PieceRef) (p : Port) (d : Domain) (st : PieceState) (x : Option (Fin 16)) : Prop :=
  ∃ r ∈ s.requests, ∃ c ∈ r.pieces, ref = ⟨r.id, c.num⟩ ∧ r.target = p ∧ r.dom = d ∧ c.state = st ∧ c.ttag = x

/-- The accounts of the target ports, over the table of the pieces. -/
structure State.Tables (s : State) : Prop where
  nodup    : ∀ p d, ((s.ports.get p).arbiter.queueOf d).Nodup
  queued   : ∀ p d, ∀ ref ∈ (s.ports.get p).arbiter.queueOf d, ∃ x, s.Stands ref p d .queued x
  held     : ∀ ref p d st x, s.Stands ref p d st x → st = .granted ∨ st = .sent →
    ∃ j, x = some j ∧ (s.ports.get p).tags.get j = .live (.piece ref)
  named    : ∀ p j ref, (s.ports.get p).tags.get j = .live (.piece ref) → ∃ d st, s.Stands ref p d st (some j) ∧ (st = .granted ∨ st = .sent)
  outNodup : ∀ p, (requestTags (s.ports.get p).outbound).Nodup
  out      : ∀ p, ∀ j ∈ requestTags (s.ports.get p).outbound, (∃ u e, (s.ports.get p).tags.get j = .live (.scrub u false e)) ∨
    ∃ ref q d x, (s.ports.get p).tags.get j = .live (.piece ref) ∧ s.Stands ref q d .granted x

section
variable {s t : State}

theorem State.CountLaw.stands_unique (hs : s.CountLaw) {ref : PieceRef} {p p' : Port} {d d' : Domain} {st st' : PieceState}
    {x x' : Option (Fin 16)} (h : s.Stands ref p d st x) (g : s.Stands ref p' d' st' x') : p' = p ∧ d' = d ∧ st' = st ∧ x' = x := by
  obtain ⟨r, hr, c, hc, e, rfl, rfl, rfl, rfl⟩ := h
  obtain ⟨q, hq, y, hy, e', rfl, rfl, rfl, rfl⟩ := g
  obtain ⟨rfl, rfl⟩ := hs.same_piece hr hq hc hy (e.symm.trans e')
  exact ⟨rfl, rfl, rfl, rfl⟩

/-- The law of the target ports is that of the table. -/
theorem State.targetLaw_iff : s.TargetLaw ↔ s.Tables := by
  constructor
  · rintro ⟨hqueue, hheld, hnamed, hout⟩
    refine ⟨fun p d => (hqueue p d).1, fun p d ref href => ?_, ?_, fun p j ref htag => ?_, fun p => (hout p).1, fun p j hj => ?_⟩
    · obtain ⟨r, hr, c, hc, e, ht, hd, hst⟩ := (hqueue p d).2 ref href
      exact ⟨c.ttag, r, hr, c, hc, e, ht, hd, hst, rfl⟩
    · rintro ref p d st x ⟨r, hr, c, hc, rfl, rfl, rfl, rfl, rfl⟩ hst
      exact hheld r hr c hc hst
    · obtain ⟨r, hr, c, hc, e, ht, hx, hst⟩ := hnamed p j ref htag
      exact ⟨r.dom, c.state, ⟨r, hr, c, hc, e, ht, rfl, rfl, hx⟩, hst⟩
    · refine ((hout p).2 j hj).imp_right ?_
      rintro ⟨r, hr, c, hc, htag, hst⟩
      exact ⟨_, r.target, r.dom, c.ttag, htag, r, hr, c, hc, rfl, rfl, rfl, hst, rfl⟩
  · rintro ⟨hn, hqueue, hheld, hnamed, hout, houts⟩
    refine ⟨fun p d => ⟨hn p d, fun ref href => ?_⟩, fun r hr c hc hst => ?_, fun p j ref htag => ?_, fun p => ⟨hout p, fun j hj => ?_⟩⟩
    · obtain ⟨x, r, hr, c, hc, e, ht, hd, hst, -⟩ := hqueue p d ref href
      exact ⟨r, hr, c, hc, e, ht, hd, hst⟩
    · exact hheld _ _ r.dom _ _ ⟨r, hr, c, hc, rfl, rfl, rfl, rfl, rfl⟩ hst
    · obtain ⟨d, st, ⟨r, hr, c, hc, e, ht, -, rfl, hx⟩, hst⟩ := hnamed p j ref htag
      exact ⟨r, hr, c, hc, e, ht, hx, hst⟩
    · refine (houts p j hj).imp_right ?_
      rintro ⟨ref, q, d, x, htag, r, hr, c, hc, rfl, -, -, hst, -⟩
      exact ⟨r, hr, c, hc, htag, hst⟩

/-! ### Single changes -/

/-- What the tables read of the ports. -/
structure SameTargets (s t : State) : Prop where
  queue : ∀ p d, (t.ports.get p).arbiter.queueOf d = (s.ports.get p).arbiter.queueOf d
  tag   : ∀ p j, (t.ports.get p).tags.get j = (s.ports.get p).tags.get j
  out   : ∀ p, requestTags (t.ports.get p).outbound = requestTags (s.ports.get p).outbound

theorem State.Tables.congr (h : s.Tables) (hp : SameTargets s t)
    (hst : ∀ ref p d st x, st.atTarget = true → (t.Stands ref p d st x ↔ s.Stands ref p d st x)) : t.Tables := by
  refine ⟨fun p d => ?_, fun p d ref href => ?_, fun ref p d st x hs hor => ?_, fun p j ref htag => ?_, fun p => ?_, fun p j hj => ?_⟩
  · rw [hp.queue]; exact h.nodup p d
  · rw [hp.queue] at href
    obtain ⟨x, hx⟩ := h.queued p d ref href
    exact ⟨x, (hst _ _ _ _ _ rfl).mpr hx⟩
  · rw [hst _ _ _ _ _ (by rcases hor with rfl | rfl <;> rfl)] at hs
    simp only [hp.tag]
    exact h.held ref p d st x hs hor
  · rw [hp.tag] at htag
    obtain ⟨d, st, hs, hor⟩ := h.named p j ref htag
    exact ⟨d, st, (hst _ _ _ _ _ (by rcases hor with rfl | rfl <;> rfl)).mpr hs, hor⟩
  · rw [hp.out]; exact h.outNodup p
  · rw [hp.out] at hj
    rw [hp.tag]
    refine (h.out p j hj).imp_right ?_
    rintro ⟨ref, q, d, x, htag, hs⟩
    exact ⟨ref, q, d, x, htag, (hst _ _ _ _ _ rfl).mpr hs⟩

/-- A piece leaves its place and the table: its queue, or its tag, and the outbound queue where it is GRANTED (R50, R63). -/
theorem State.Tables.ended (hs : s.CountLaw) (h : s.Tables) {ref0 : PieceRef} {p0 : Port} {d0 : Domain} {st0 : PieceState}
    {x0 : Option (Fin 16)} {v : TagState} (h0 : s.Stands ref0 p0 d0 st0 x0) (hv : ∀ y, v ≠ .live y)
    (hst : ∀ ref p d st x, st.atTarget = true → (t.Stands ref p d st x ↔ s.Stands ref p d st x ∧ ref ≠ ref0))
    (hq : ∀ p d, (t.ports.get p).arbiter.queueOf d = if p = p0 ∧ d = d0 ∧ st0 = .queued then
      ((s.ports.get p).arbiter.queueOf d).filter (fun y => decide (y ≠ ref0)) else (s.ports.get p).arbiter.queueOf d)
    (htags : ∀ p j, (t.ports.get p).tags.get j = if p = p0 ∧ x0 = some j ∧ (st0 = .granted ∨ st0 = .sent) then v else
      (s.ports.get p).tags.get j)
    (hout : ∀ p, requestTags (t.ports.get p).outbound =
      (requestTags (s.ports.get p).outbound).filter (fun j => !decide (p = p0 ∧ x0 = some j ∧ st0 = .granted))) : t.Tables := by
  have hheld {j : Fin 16} (hx : x0 = some j) (hor : st0 = .granted ∨ st0 = .sent) : (s.ports.get p0).tags.get j = .live (.piece ref0) := by
    obtain ⟨i, hi, htag⟩ := h.held _ _ _ _ _ h0 hor
    rw [hx] at hi
    rw [Option.some.inj hi]
    exact htag
  refine ⟨fun p d => ?_, fun p d ref href => ?_, fun ref p d st x ht hor => ?_, fun p j ref htag => ?_, fun p => ?_, fun p j hj => ?_⟩
  · rw [hq]
    split
    · exact (h.nodup p d).filter _
    · exact h.nodup p d
  · rw [hq] at href
    have hmem : ref ∈ (s.ports.get p).arbiter.queueOf d := by
      split at href
      · exact (List.mem_filter.mp href).1
      · exact href
    obtain ⟨x, hx⟩ := h.queued p d ref hmem
    refine ⟨x, (hst _ _ _ _ _ rfl).mpr ⟨hx, ?_⟩⟩
    rintro rfl
    obtain ⟨rfl, rfl, e, -⟩ := hs.stands_unique h0 hx
    rw [if_pos ⟨rfl, rfl, e.symm⟩] at href
    exact of_decide_eq_true (List.mem_filter.mp href).2 rfl
  · obtain ⟨hsref, hne⟩ := (hst _ _ _ _ _ (by rcases hor with rfl | rfl <;> rfl)).mp ht
    obtain ⟨j, hx, htag⟩ := h.held _ _ _ _ _ hsref hor
    refine ⟨j, hx, ?_⟩
    rw [htags, if_neg, htag]
    rintro ⟨rfl, hx0, hor0⟩
    rw [hheld hx0 hor0] at htag
    exact hne (Holder.piece.inj (TagState.live.inj htag)).symm
  · rw [htags] at htag
    split at htag
    · exact absurd htag (hv _)
    · rename_i hno
      obtain ⟨d, st, hsref, hor⟩ := h.named p j ref htag
      refine ⟨d, st, (hst _ _ _ _ _ (by rcases hor with rfl | rfl <;> rfl)).mpr ⟨hsref, ?_⟩, hor⟩
      rintro rfl
      obtain ⟨rfl, -, rfl, hx⟩ := hs.stands_unique h0 hsref
      exact hno ⟨rfl, hx.symm, hor⟩
  · rw [hout]
    exact (h.outNodup p).filter _
  · rw [hout] at hj
    obtain ⟨hj, hno⟩ := List.mem_filter.mp hj
    have hno : ¬(p = p0 ∧ x0 = some j ∧ st0 = .granted) := fun e => by rw [decide_eq_true e] at hno; cases hno
    rcases h.out p j hj with ⟨u, e, htag⟩ | ⟨ref, q, d, x, htag, hsref⟩
    · refine .inl ⟨u, e, ?_⟩
      rw [htags, if_neg, htag]
      rintro ⟨rfl, hx0, hor0⟩
      rw [hheld hx0 hor0] at htag
      cases htag
    · have hne : ref ≠ ref0 := by
        rintro rfl
        obtain ⟨-, -, e, -⟩ := hs.stands_unique h0 hsref
        obtain ⟨d', st', hs', -⟩ := h.named p j ref htag
        obtain ⟨e1, -, -, e2⟩ := hs.stands_unique h0 hs'
        exact hno ⟨e1, e2.symm, e.symm⟩
      refine .inr ⟨ref, q, d, x, ?_, (hst _ _ _ _ _ rfl).mpr ⟨hsref, hne⟩⟩
      rw [htags, if_neg, htag]
      rintro ⟨rfl, hx0, hor0⟩
      rw [hheld hx0 hor0] at htag
      exact hne (Holder.piece.inj (TagState.live.inj htag)).symm

/-- New QUEUED pieces join the end of their queue (R61). -/
theorem State.Tables.entered (h : s.Tables) {refs : List PieceRef} {p0 : Port} {d0 : Domain} (hn : refs.Nodup)
    (hnew : ∀ ref ∈ refs, ∀ p d st x, st.atTarget = true → ¬s.Stands ref p d st x)
    (hold : ∀ ref p d st x, s.Stands ref p d st x → st.atTarget = true → t.Stands ref p d st x)
    (hback : ∀ ref p d st x, t.Stands ref p d st x → st.atTarget = true → s.Stands ref p d st x ∨ st = .queued)
    (hin : ∀ ref ∈ refs, ∃ x, t.Stands ref p0 d0 .queued x)
    (hq : ∀ p d, (t.ports.get p).arbiter.queueOf d = (s.ports.get p).arbiter.queueOf d ++ (if p = p0 ∧ d = d0 then refs else []))
    (htags : ∀ p j, (t.ports.get p).tags.get j = (s.ports.get p).tags.get j)
    (hout : ∀ p, requestTags (t.ports.get p).outbound = requestTags (s.ports.get p).outbound) : t.Tables := by
  refine ⟨fun p d => ?_, fun p d ref href => ?_, fun ref p d st x ht hor => ?_, fun p j ref htag => ?_, fun p => ?_, fun p j hj => ?_⟩
  · rw [hq, List.nodup_append]
    refine ⟨h.nodup p d, by split <;> simp [hn], fun a ha b hb => ?_⟩
    rintro rfl
    obtain ⟨x, hx⟩ := h.queued p d a ha
    split at hb
    · exact hnew a hb _ _ _ _ rfl hx
    · cases hb
  · rw [hq] at href
    rcases List.mem_append.mp href with hleft | hright
    · obtain ⟨x, hx⟩ := h.queued p d ref hleft
      exact ⟨x, hold _ _ _ _ _ hx rfl⟩
    · split at hright
      · rename_i e
        obtain ⟨rfl, rfl⟩ := e
        exact hin ref hright
      · cases hright
  · rcases hback _ _ _ _ _ ht (by rcases hor with rfl | rfl <;> rfl) with ht | e
    · obtain ⟨j, hx, htag⟩ := h.held _ _ _ _ _ ht hor
      exact ⟨j, hx, by rw [htags, htag]⟩
    · rcases hor with rfl | rfl <;> cases e
  · rw [htags] at htag
    obtain ⟨d, st, hsref, hor⟩ := h.named p j ref htag
    exact ⟨d, st, hold _ _ _ _ _ hsref (by rcases hor with rfl | rfl <;> rfl), hor⟩
  · rw [hout]; exact h.outNodup p
  · rw [hout] at hj
    rw [htags]
    refine (h.out p j hj).imp_right ?_
    rintro ⟨ref, q, d, x, htag, hsref⟩
    exact ⟨ref, q, d, x, htag, hold _ _ _ _ _ hsref rfl⟩

/-- A QUEUED piece is granted a FREE tag: it leaves its queue and goes out under the tag (R63). -/
theorem State.Tables.granted (hs : s.CountLaw) (h : s.Tables) {ref0 : PieceRef} {p0 : Port} {d0 : Domain} {x0 : Option (Fin 16)} {j0 : Fin 16}
    (h0 : s.Stands ref0 p0 d0 .queued x0) (hfree : (s.ports.get p0).tags.get j0 = .free)
    (hst : ∀ ref p d st x, st.atTarget = true → (t.Stands ref p d st x ↔
      (s.Stands ref p d st x ∧ ref ≠ ref0) ∨ (ref = ref0 ∧ p = p0 ∧ d = d0 ∧ st = .granted ∧ x = some j0)))
    (hq : ∀ p d, ((t.ports.get p).arbiter.queueOf d).Sublist ((s.ports.get p).arbiter.queueOf d) ∧
      (p = p0 → d = d0 → ref0 ∉ (t.ports.get p).arbiter.queueOf d))
    (htags : ∀ p j, (t.ports.get p).tags.get j = if p = p0 ∧ j = j0 then .live (.piece ref0) else (s.ports.get p).tags.get j)
    (hout : ∀ p, requestTags (t.ports.get p).outbound = requestTags (s.ports.get p).outbound ++ (if p = p0 then [j0] else [])) :
    t.Tables := by
  have hnot : j0 ∉ requestTags (s.ports.get p0).outbound := fun hj => by
    rcases h.out p0 j0 hj with ⟨u, e, htag⟩ | ⟨ref, q, d, x, htag, -⟩ <;> (rw [hfree] at htag; cases htag)
  have hnew : t.Stands ref0 p0 d0 .granted (some j0) := (hst _ _ _ _ _ rfl).mpr (.inr ⟨rfl, rfl, rfl, rfl, rfl⟩)
  refine ⟨fun p d => ?_, fun p d ref href => ?_, fun ref p d st x ht hor => ?_, fun p j ref htag => ?_, fun p => ?_, fun p j hj => ?_⟩
  · exact (h.nodup p d).sublist (hq p d).1
  · obtain ⟨x, hx⟩ := h.queued p d ref ((hq p d).1.subset href)
    refine ⟨x, (hst _ _ _ _ _ rfl).mpr (.inl ⟨hx, ?_⟩)⟩
    rintro rfl
    obtain ⟨rfl, rfl, -, -⟩ := hs.stands_unique h0 hx
    exact (hq _ _).2 rfl rfl href
  · rcases (hst _ _ _ _ _ (by rcases hor with rfl | rfl <;> rfl)).mp ht with ⟨hsref, hne⟩ | ⟨rfl, rfl, rfl, rfl, rfl⟩
    · obtain ⟨j, hx, htag⟩ := h.held _ _ _ _ _ hsref hor
      refine ⟨j, hx, ?_⟩
      rw [htags, if_neg, htag]
      rintro ⟨rfl, rfl⟩
      rw [hfree] at htag
      cases htag
    · exact ⟨j0, rfl, by rw [htags, if_pos ⟨rfl, rfl⟩]⟩
  · rw [htags] at htag
    split at htag
    · rename_i e
      obtain ⟨rfl, rfl⟩ := e
      obtain rfl := Holder.piece.inj (TagState.live.inj htag)
      exact ⟨d0, .granted, hnew, .inl rfl⟩
    · obtain ⟨d, st, hsref, hor⟩ := h.named p j ref htag
      refine ⟨d, st, (hst _ _ _ _ _ (by rcases hor with rfl | rfl <;> rfl)).mpr (.inl ⟨hsref, ?_⟩), hor⟩
      rintro rfl
      obtain ⟨-, -, rfl, -⟩ := hs.stands_unique h0 hsref
      rcases hor with e | e <;> cases e
  · rw [hout]
    split
    · rename_i e
      subst e
      rw [List.nodup_append]
      exact ⟨h.outNodup p, by simp, fun a ha b hb => by rw [List.mem_singleton.mp hb]; rintro rfl; exact hnot ha⟩
    · rw [List.append_nil]; exact h.outNodup p
  · rw [hout] at hj
    rcases List.mem_append.mp hj with hleft | hright
    · have hne : ¬(p = p0 ∧ j = j0) := by
        rintro ⟨rfl, rfl⟩
        exact hnot hleft
      rw [htags, if_neg hne]
      refine (h.out p j hleft).imp_right ?_
      rintro ⟨ref, q, d, x, htag, hsref⟩
      refine ⟨ref, q, d, x, htag, (hst _ _ _ _ _ rfl).mpr (.inl ⟨hsref, ?_⟩)⟩
      rintro rfl
      obtain ⟨-, -, e, -⟩ := hs.stands_unique h0 hsref
      cases e
    · split at hright
      · rename_i e
        subst e
        rw [List.mem_singleton.mp hright, htags, if_pos ⟨rfl, rfl⟩]
        exact .inr ⟨ref0, p, d0, some j0, rfl, hnew⟩
      · cases hright

/-- A GRANTED piece that leaves the link is SENT (R63). -/
theorem State.Tables.sent (hs : s.CountLaw) (h : s.Tables) {ref0 : PieceRef} {p0 : Port} {d0 : Domain} {j0 : Fin 16}
    (h0 : s.Stands ref0 p0 d0 .granted (some j0))
    (hst : ∀ ref p d st x, st.atTarget = true → (t.Stands ref p d st x ↔
      (s.Stands ref p d st x ∧ ref ≠ ref0) ∨ (ref = ref0 ∧ p = p0 ∧ d = d0 ∧ st = .sent ∧ x = some j0)))
    (hq : ∀ p d, (t.ports.get p).arbiter.queueOf d = (s.ports.get p).arbiter.queueOf d)
    (htags : ∀ p j, (t.ports.get p).tags.get j = (s.ports.get p).tags.get j)
    (hout : ∀ p, (requestTags (t.ports.get p).outbound).Sublist (requestTags (s.ports.get p).outbound))
    (hgone : j0 ∉ requestTags (t.ports.get p0).outbound) : t.Tables := by
  have hnew : t.Stands ref0 p0 d0 .sent (some j0) := (hst _ _ _ _ _ rfl).mpr (.inr ⟨rfl, rfl, rfl, rfl, rfl⟩)
  have hheld : (s.ports.get p0).tags.get j0 = .live (.piece ref0) := by
    obtain ⟨i, hi, htag⟩ := h.held _ _ _ _ _ h0 (.inl rfl)
    rw [Option.some.inj hi]
    exact htag
  refine ⟨fun p d => ?_, fun p d ref href => ?_, fun ref p d st x ht hor => ?_, fun p j ref htag => ?_, fun p => ?_, fun p j hj => ?_⟩
  · rw [hq]; exact h.nodup p d
  · rw [hq] at href
    obtain ⟨x, hx⟩ := h.queued p d ref href
    refine ⟨x, (hst _ _ _ _ _ rfl).mpr (.inl ⟨hx, ?_⟩)⟩
    rintro rfl
    obtain ⟨-, -, e, -⟩ := hs.stands_unique h0 hx
    cases e
  · rcases (hst _ _ _ _ _ (by rcases hor with rfl | rfl <;> rfl)).mp ht with ⟨hsref, hne⟩ | ⟨rfl, rfl, rfl, rfl, rfl⟩
    · obtain ⟨j, hx, htag⟩ := h.held _ _ _ _ _ hsref hor
      exact ⟨j, hx, by rw [htags, htag]⟩
    · exact ⟨j0, rfl, by rw [htags, hheld]⟩
  · rw [htags] at htag
    obtain ⟨d, st, hsref, hor⟩ := h.named p j ref htag
    by_cases he : ref = ref0
    · subst he
      obtain ⟨rfl, rfl, -, hx⟩ := hs.stands_unique h0 hsref
      obtain rfl := Option.some.inj hx
      exact ⟨d, .sent, hnew, .inr rfl⟩
    · exact ⟨d, st, (hst _ _ _ _ _ (by rcases hor with rfl | rfl <;> rfl)).mpr (.inl ⟨hsref, he⟩), hor⟩
  · exact (h.outNodup p).sublist (hout p)
  · rw [htags]
    refine (h.out p j ((hout p).subset hj)).imp_right ?_
    rintro ⟨ref, q, d, x, htag, hsref⟩
    refine ⟨ref, q, d, x, htag, (hst _ _ _ _ _ rfl).mpr (.inl ⟨hsref, ?_⟩)⟩
    rintro rfl
    obtain ⟨d', st', hs', -⟩ := h.named p j ref htag
    obtain ⟨rfl, -, -, hx⟩ := hs.stands_unique h0 hs'
    obtain rfl := Option.some.inj hx
    exact hgone hj

/-- A tag that no piece holds changes to one that names no piece; what waits under it is a scrub step that has not left (R67, R104). -/
theorem State.Tables.retag (h : s.Tables) {p0 : Port} {j0 : Fin 16} {v : TagState} (hreq : t.requests = s.requests)
    (hold : ∀ ref, (s.ports.get p0).tags.get j0 ≠ .live (.piece ref)) (hv : ∀ ref, v ≠ .live (.piece ref))
    (hq : ∀ p d, (t.ports.get p).arbiter.queueOf d = (s.ports.get p).arbiter.queueOf d)
    (htags : ∀ p j, (t.ports.get p).tags.get j = if p = p0 ∧ j = j0 then v else (s.ports.get p).tags.get j)
    (hn : ∀ p, (requestTags (t.ports.get p).outbound).Nodup)
    (hout : ∀ p, ∀ j ∈ requestTags (t.ports.get p).outbound,
      (j ∈ requestTags (s.ports.get p).outbound ∧ ¬(p = p0 ∧ j = j0)) ∨ (p = p0 ∧ j = j0 ∧ ∃ u e, v = .live (.scrub u false e))) :
    t.Tables := by
  have hst (ref : PieceRef) (p : Port) (d : Domain) (st : PieceState) (x : Option (Fin 16)) : t.Stands ref p d st x ↔ s.Stands ref p d st x := by
    unfold State.Stands
    rw [hreq]
  refine ⟨fun p d => ?_, fun p d ref href => ?_, fun ref p d st x ht hor => ?_, fun p j ref htag => ?_, hn, fun p j hj => ?_⟩
  · rw [hq]; exact h.nodup p d
  · rw [hq] at href
    obtain ⟨x, hx⟩ := h.queued p d ref href
    exact ⟨x, (hst _ _ _ _ _).mpr hx⟩
  · obtain ⟨j, hx, htag⟩ := h.held _ _ _ _ _ ((hst _ _ _ _ _).mp ht) hor
    refine ⟨j, hx, ?_⟩
    rw [htags, if_neg, htag]
    rintro ⟨rfl, rfl⟩
    exact hold _ htag
  · rw [htags] at htag
    split at htag
    · exact absurd htag (hv _)
    · obtain ⟨d, st, hsref, hor⟩ := h.named p j ref htag
      exact ⟨d, st, (hst _ _ _ _ _).mpr hsref, hor⟩
  · rcases hout p j hj with ⟨hj, hne⟩ | ⟨rfl, rfl, u, e, rfl⟩
    · rw [htags, if_neg hne]
      refine (h.out p j hj).imp_right ?_
      rintro ⟨ref, q, d, x, htag, hsref⟩
      exact ⟨ref, q, d, x, htag, (hst _ _ _ _ _).mpr hsref⟩
    · exact .inl ⟨u, e, by rw [htags, if_pos ⟨rfl, rfl⟩]⟩

/-- A port at which no piece stands is emptied (R11, R76). -/
theorem State.Tables.emptied (h : s.Tables) {p0 : Port} (hno : ∀ ref d st x, st.atTarget = true → ¬s.Stands ref p0 d st x)
    (hreq : t.requests = s.requests) (hother : ∀ p, p ≠ p0 → t.ports.get p = s.ports.get p)
    (hq : ∀ d, (t.ports.get p0).arbiter.queueOf d = []) (htags : ∀ j ref, (t.ports.get p0).tags.get j ≠ .live (.piece ref))
    (hout : requestTags (t.ports.get p0).outbound = []) : t.Tables := by
  have hst (ref : PieceRef) (p : Port) (d : Domain) (st : PieceState) (x : Option (Fin 16)) : t.Stands ref p d st x ↔ s.Stands ref p d st x := by
    unfold State.Stands
    rw [hreq]
  refine ⟨fun p d => ?_, fun p d ref href => ?_, fun ref p d st x ht hor => ?_, fun p j ref htag => ?_, fun p => ?_, fun p j hj => ?_⟩
  · by_cases hp : p = p0
    · rw [hp, hq]; exact List.nodup_nil
    · rw [hother p hp]; exact h.nodup p d
  · by_cases hp : p = p0
    · rw [hp, hq] at href; cases href
    · rw [hother p hp] at href
      obtain ⟨x, hx⟩ := h.queued p d ref href
      exact ⟨x, (hst _ _ _ _ _).mpr hx⟩
  · rw [hst] at ht
    by_cases hp : p = p0
    · subst hp
      exact absurd ht (hno _ _ _ _ (by rcases hor with rfl | rfl <;> rfl))
    · rw [hother p hp]
      exact h.held _ _ _ _ _ ht hor
  · by_cases hp : p = p0
    · subst hp
      exact absurd htag (htags _ _)
    · rw [hother p hp] at htag
      obtain ⟨d, st, hsref, hor⟩ := h.named p j ref htag
      exact ⟨d, st, (hst _ _ _ _ _).mpr hsref, hor⟩
  · by_cases hp : p = p0
    · rw [hp, hout]; exact List.nodup_nil
    · rw [hother p hp]; exact h.outNodup p
  · by_cases hp : p = p0
    · rw [hp, hout] at hj; cases hj
    · rw [hother p hp] at hj ⊢
      refine (h.out p j hj).imp_right ?_
      rintro ⟨ref, q, d, x, htag, hsref⟩
      exact ⟨ref, q, d, x, htag, (hst _ _ _ _ _).mpr hsref⟩

end

end Sys2Proof.Machine
end

section
/-! PROOFS. What the tracker's single changes keep of the accounts of the target ports (R50, R56, R59, R62 to R64). -/

namespace Sys2Proof.Machine

open Sys2Proof

/-! ### The table after a change of the records -/

section
variable {s t : State}

/-- One piece of one record changes. -/
theorem State.CountLaw.stands_replaced (hs : s.CountLaw) {r r' : Request} {c c' : Piece} (hr : r ∈ s.requests) (hc : c ∈ r.pieces)
    (ht : t.requests = replaced r r' s.requests) (hid : r'.id = r.id) (htarget : r'.target = r.target) (hdom : r'.dom = r.dom)
    (hpieces : r'.pieces = replacedPiece c c' r.pieces) (hnum : c'.num = c.num) (ref : PieceRef) (p : Port) (d : Domain) (st : PieceState)
    (x : Option (Fin 16)) : t.Stands ref p d st x ↔ (s.Stands ref p d st x ∧ ref ≠ ⟨r.id, c.num⟩) ∨
      (ref = ⟨r.id, c.num⟩ ∧ p = r.target ∧ d = r.dom ∧ st = c'.state ∧ x = c'.ttag) := by
  have hin : c' ∈ replacedPiece c c' r.pieces := List.mem_map.mpr ⟨c, hc, if_pos rfl⟩
  constructor
  · rintro ⟨q, hq, y, hy, rfl, rfl, rfl, rfl, rfl⟩
    rw [ht, mem_replaced hr] at hq
    rcases hq with rfl | ⟨hq, hne⟩
    · rw [hpieces] at hy
      obtain ⟨z, hz, rfl⟩ := List.mem_map.mp hy
      by_cases hzc : z.num = c.num
      · rw [if_pos hzc]
        exact .inr ⟨by rw [hid, hnum], htarget, hdom, rfl, rfl⟩
      · rw [if_neg hzc]
        exact .inl ⟨⟨r, hr, z, hz, by rw [hid], htarget.symm, hdom.symm, rfl, rfl⟩, fun e => hzc (PieceRef.mk.inj e).2⟩
    · exact .inl ⟨⟨q, hq, y, hy, rfl, rfl, rfl, rfl, rfl⟩, fun e => hne (PieceRef.mk.inj e).1⟩
  · rintro (⟨⟨q, hq, y, hy, rfl, rfl, rfl, rfl, rfl⟩, hne⟩ | ⟨rfl, rfl, rfl, rfl, rfl⟩)
    · by_cases he : q.id = r.id
      · obtain rfl := hs.eq_of_id hr hq he
        have hyc : y.num ≠ c.num := fun e => hne (by rw [e])
        refine ⟨r', by rw [ht, mem_replaced hr]; exact .inl rfl, y, ?_, by rw [hid], htarget, hdom, rfl, rfl⟩
        rw [hpieces]
        exact List.mem_map.mpr ⟨y, hy, if_neg hyc⟩
      · exact ⟨q, by rw [ht, mem_replaced hr]; exact .inr ⟨hq, he⟩, y, hy, rfl, rfl, rfl, rfl, rfl⟩
    · exact ⟨r', by rw [ht, mem_replaced hr]; exact .inl rfl, c', by rw [hpieces]; exact hin, by rw [hid, hnum], htarget, hdom, rfl, rfl⟩

/-- Records that keep what the table reads keep the table. -/
theorem State.stands_map {f : Request → Request} (hf : ∀ r, (f r).id = r.id ∧ (f r).target = r.target ∧ (f r).dom = r.dom ∧ (f r).pieces = r.pieces)
    (ht : t.requests = s.requests.map f) (ref : PieceRef) (p : Port) (d : Domain) (st : PieceState) (x : Option (Fin 16)) :
    t.Stands ref p d st x ↔ s.Stands ref p d st x := by
  unfold State.Stands
  rw [ht]
  constructor
  · rintro ⟨q, hq, c, hc, e⟩
    obtain ⟨r, hr, rfl⟩ := List.mem_map.mp hq
    obtain ⟨h1, h2, h3, h4⟩ := hf r
    rw [h4] at hc
    rw [h1, h2, h3] at e
    exact ⟨r, hr, c, hc, e⟩
  · rintro ⟨r, hr, c, hc, e⟩
    obtain ⟨h1, h2, h3, h4⟩ := hf r
    exact ⟨f r, List.mem_map_of_mem hr, c, by rw [h4]; exact hc, by rw [h1, h2, h3]; exact e⟩

theorem State.stands_same (ht : t.requests = s.requests) (ref : PieceRef) (p : Port) (d : Domain) (st : PieceState) (x : Option (Fin 16)) :
    t.Stands ref p d st x ↔ s.Stands ref p d st x := by
  unfold State.Stands
  rw [ht]

/-- Records without live pieces that leave do not show in the table. -/
theorem State.stands_filter {f : Request → Bool} (hf : ∀ r ∈ s.requests, f r = false → ∀ c ∈ r.pieces, c.state.live = false)
    (ht : t.requests = s.requests.filter f) (ref : PieceRef) (p : Port) (d : Domain) {st : PieceState} (hst : st.atTarget = true)
    (x : Option (Fin 16)) : t.Stands ref p d st x ↔ s.Stands ref p d st x := by
  unfold State.Stands
  rw [ht]
  constructor
  · rintro ⟨r, hr, rest⟩
    exact ⟨r, (List.mem_filter.mp hr).1, rest⟩
  · rintro ⟨r, hr, c, hc, e, e1, e2, rfl, e3⟩
    refine ⟨r, List.mem_filter.mpr ⟨hr, ?_⟩, c, hc, e, e1, e2, rfl, e3⟩
    by_contra hno
    have hn := hf r hr (by simpa using hno) c hc
    rw [PieceState.atTarget_live hst] at hn
    cases hn

end

/-! ### The place that a piece leaves -/

theorem requestTags_dropOut (t : Fin 16) (l : List OutPacket) : requestTags (dropOut t l) = (requestTags l).filter (fun j => decide (j ≠ t)) := by
  unfold requestTags dropOut
  induction l with
  | nil => rfl
  | cons pkt l ih =>
    cases pkt with
    | request j kind a n y =>
      by_cases h : j = t
      · simpa [h] using ih
      · simpa [h] using ih
    | completion x st data => simpa using ih
    | reply x st res => simpa using ih
    | event a b c d => simpa using ih
    | notice k => simpa using ih

theorem leavePlace_queue (r : Request) (c : Piece) (v : PortState) (d : Domain) : (leavePlace r c v).arbiter.queueOf d =
    if d = r.dom ∧ c.state = .queued then (v.arbiter.queueOf d).filter (fun y => decide (y ≠ ⟨r.id, c.num⟩)) else v.arbiter.queueOf d := by
  unfold leavePlace
  cases hs : c.state with
  | queued =>
    by_cases hd : d = r.dom
    · subst hd
      rw [if_pos ⟨rfl, rfl⟩]
      exact Arbiter.queueOf_modQueue_same _ _ _
    · rw [if_neg fun e => hd e.1]
      exact Arbiter.queueOf_modQueue_other _ hd _
  | granted => rw [if_neg (by simp)]; cases c.ttag <;> rfl
  | sent => rw [if_neg (by simp)]; cases c.ttag <;> rfl
  | charging => rw [if_neg (by simp)]
  | resolved st => rw [if_neg (by simp)]
  | removed => rw [if_neg (by simp)]

theorem leavePlace_tag (r : Request) (c : Piece) (v : PortState) (j : Fin 16) : (leavePlace r c v).tags.get j =
    if c.ttag = some j ∧ (c.state = .granted ∨ c.state = .sent) then (if c.state = .granted then .free else .orphaned) else v.tags.get j := by
  have hset (i : Fin 16) (w : TagState) : (setAt v.tags i w).get j = if some i = some j then w else v.tags.get j := by
    rw [setAt_get]
    by_cases h : j = i
    · rw [if_pos h, if_pos (by rw [h])]
    · rw [if_neg h, if_neg fun e => h (Option.some.inj e).symm]
  unfold leavePlace
  cases hs : c.state with
  | granted =>
    cases ht : c.ttag with
    | none => rw [if_neg (by simp)]
    | some i =>
      dsimp only
      rw [hset]
      simp
  | sent =>
    cases ht : c.ttag with
    | none => rw [if_neg (by simp)]
    | some i =>
      dsimp only
      rw [hset]
      simp
  | queued => rw [if_neg (by simp)]
  | charging => rw [if_neg (by simp)]
  | resolved st => rw [if_neg (by simp)]
  | removed => rw [if_neg (by simp)]

theorem leavePlace_requestTags (r : Request) (c : Piece) (v : PortState) : requestTags (leavePlace r c v).outbound =
    (requestTags v.outbound).filter (fun j => !decide (c.ttag = some j ∧ c.state = .granted)) := by
  have hall {f : Fin 16 → Bool} (h : ∀ j, f j = true) : requestTags v.outbound = (requestTags v.outbound).filter f :=
    (List.filter_eq_self.mpr fun j _ => h j).symm
  unfold leavePlace
  cases hs : c.state with
  | granted =>
    cases ht : c.ttag with
    | none => exact hall fun j => by simp
    | some i =>
      dsimp only
      rw [requestTags_dropOut]
      refine List.filter_congr fun j _ => ?_
      by_cases h : j = i
      · simp [h]
      · simp [h, Ne.symm h]
  | sent => cases c.ttag <;> exact hall fun j => by simp
  | queued => exact hall fun j => by simp
  | charging => exact hall fun j => by simp
  | resolved st => exact hall fun j => by simp
  | removed => exact hall fun j => by simp

/-! ### The tracker -/

section
variable {s t : State} {cuts : Prop}

/-- A record with nothing outstanding has no live piece (R56). -/
theorem State.CountLaw.ended_of_outstanding (hs : s.CountLaw) {r : Request} (hr : r ∈ s.requests) (h0 : r.outstanding = 0) :
    ∀ c ∈ r.pieces, c.state.live = false := fun c hc => by
  have := (hs.counted hr).2
  rw [h0] at this
  have hnil := List.length_eq_zero_iff.mp this.symm
  by_contra hl
  exact absurd hc fun hm => List.filter_eq_nil_iff.mp hnil c hm (by simpa using hl)

theorem finishRequest_tables (hs : s.CountLaw) (h : s.Tables) (id : Nat) : (finishRequest id s).Tables := by
  have hsame : SameTargets s (finishRequest id s) := by
    unfold finishRequest
    split
    · exact ⟨fun _ _ => rfl, fun _ _ => rfl, fun _ => rfl⟩
    · split
      · dsimp only
        split
        · exact ⟨fun _ _ => rfl, fun _ _ => rfl, fun _ => rfl⟩
        · rename_i r _ _ _
          have ht := Tells.answerTo r.dom r.tag r.worst.answer (if r.kind = .read ∧ r.worst = .ok then r.readData else [])
            (s.setRequests (s.requests.filter (fun x => decide (x.id ≠ id))))
          refine ⟨fun p d => ?_, fun p j => ?_, fun p => ?_⟩
          · obtain ⟨more, -, e⟩ := ht.port p
            rw [e]; rfl
          · obtain ⟨more, -, e⟩ := ht.port p
            rw [e]; rfl
          · obtain ⟨more, hm, e⟩ := ht.port p
            rw [e]
            unfold requestTags at hm ⊢
            dsimp only
            rw [List.filterMap_append, hm, List.append_nil]
            rfl
      · exact ⟨fun _ _ => rfl, fun _ _ => rfl, fun _ => rfl⟩
  refine h.congr hsame fun ref p d st x hst => ?_
  unfold finishRequest
  cases hr : s.request id with
  | none => exact Iff.rfl
  | some r =>
    obtain ⟨hmem, rfl⟩ := request_some hr
    dsimp only
    by_cases h0 : r.outstanding = 0
    · rw [if_pos h0]
      have hfilter : (s.setRequests (s.requests.filter (fun x => decide (x.id ≠ r.id)))).Stands ref p d st x ↔ s.Stands ref p d st x := by
        refine State.stands_filter (f := fun x => decide (x.id ≠ r.id)) (fun q hq hqf => ?_) rfl ref p d hst x
        rw [hs.eq_of_id hmem hq (by simpa using hqf)]
        exact hs.ended_of_outstanding hmem h0
      split
      · exact hfilter
      · exact (State.stands_same (Tells.answerTo _ _ _ _ _).requests _ _ _ _ _).trans hfilter
    · rw [if_neg h0]

/-- The end of a live piece that leaves its place (R50, R63, R73). -/
theorem State.Tables.ends (hs : s.CountLaw) (h : s.Tables) {q r : Request} {c : Piece} {st : PieceState} (hst : st.live = false)
    (hq : q ∈ s.requests) (hid : q.id = r.id) (htarget : q.target = r.target) (hdom : q.dom = r.dom) (hc : c ∈ q.pieces)
    (hl : c.state.live = true) : (endPiece ⟨r.id, c.num⟩ st (vacate r c s)).Tables := by
  have hrun := endPiece_vacate (st := st) (v := r) (hs.lone hq) ((hs.counted hq).lonePiece hc) hl
  rw [hid] at hrun
  rw [hrun]
  have h0 : s.Stands ⟨r.id, c.num⟩ r.target r.dom c.state c.ttag := ⟨q, hq, c, hc, by rw [hid], htarget, hdom, rfl, rfl⟩
  refine h.ended hs (v := if c.state = .granted then .free else .orphaned) h0 (fun y => by split <;> simp) (fun ref p d st' x hat => ?_)
    (fun p d => ?_) (fun p j => ?_) fun p => ?_
  · rw [hs.stands_replaced (t := { s with
        requests := replaced q (q.ended c st) s.requests, units := _, ports := _ }) hq hc rfl rfl rfl rfl rfl rfl, hid]
    refine or_iff_left fun e => ?_
    have hlive := PieceState.atTarget_live hat
    rw [e.2.2.2.1] at hlive
    rw [show ({ c with state := st, ttag := none, deadline := none } : Piece).state = st from rfl, hst] at hlive
    cases hlive
  · dsimp only
    rw [PerPort.get_set]
    by_cases hp : p = r.target
    · subst hp
      rw [if_pos rfl, leavePlace_queue]
      simp only [true_and]
    · rw [if_neg hp, if_neg fun e => hp e.1]
  · dsimp only
    rw [PerPort.get_set]
    by_cases hp : p = r.target
    · subst hp
      rw [if_pos rfl, leavePlace_tag]
      simp only [true_and]
    · rw [if_neg hp, if_neg fun e => hp e.1]
  · dsimp only
    rw [PerPort.get_set]
    by_cases hp : p = r.target
    · subst hp
      rw [if_pos rfl, leavePlace_requestTags]
      simp only [true_and]
    · rw [if_neg hp]
      refine (List.filter_eq_self.mpr fun j _ => ?_).symm
      simp [hp]

/-- A CHARGING piece that is charged joins its queue (R59, R61). -/
theorem State.Tables.queues (hs : s.CountLaw) (h : s.Tables) {r : Request} {c : Piece} (hf : s.piece ⟨r.id, c.num⟩ = some (r, c))
    (hc : c.state = .charging) :
    (enqueuePiece r.target r.dom ⟨r.id, c.num⟩ (setPiece ⟨r.id, c.num⟩ (fun y => { y with state := .queued }) s)).Tables := by
  obtain ⟨hr, -, hcm, -⟩ := piece_some hf
  have hset := setPiece_lone (hs.lone hr) ((hs.counted hr).lonePiece hcm) (fun y => { y with state := .queued })
  rw [hset]
  have hstands (ref : PieceRef) (p : Port) (d : Domain) (st : PieceState) (x : Option (Fin 16)) :=
    hs.stands_replaced (t := enqueuePiece r.target r.dom ⟨r.id, c.num⟩
      { s with requests := replaced r { r with pieces := replacedPiece c { c with state := .queued } r.pieces } s.requests })
      hr hcm rfl rfl rfl rfl rfl rfl ref p d st x
  have h0 : s.Stands ⟨r.id, c.num⟩ r.target r.dom .charging c.ttag := ⟨r, hr, c, hcm, rfl, rfl, rfl, hc, rfl⟩
  refine h.entered (refs := [⟨r.id, c.num⟩]) (p0 := r.target) (d0 := r.dom) (List.nodup_singleton _) (fun ref href p d st x hat hst => ?_)
    (fun ref p d st x hst hat => ?_) (fun ref p d st x hst hat => ?_) (fun ref href => ?_) (fun p d => ?_) (fun p j => ?_) fun p => ?_
  · rw [List.mem_singleton.mp href] at hst
    obtain ⟨-, -, e, -⟩ := hs.stands_unique h0 hst
    rw [e] at hat
    cases hat
  · refine (hstands _ _ _ _ _).mpr (.inl ⟨hst, ?_⟩)
    rintro rfl
    obtain ⟨-, -, e, -⟩ := hs.stands_unique h0 hst
    rw [e] at hat
    cases hat
  · rcases (hstands _ _ _ _ _).mp hst with ⟨hst, -⟩ | ⟨-, -, -, e, -⟩
    · exact .inl hst
    · exact .inr e
  · rw [List.mem_singleton.mp href]
    exact ⟨_, (hstands _ _ _ _ _).mpr (.inr ⟨rfl, rfl, rfl, rfl, rfl⟩)⟩
  · show ((s.ports.set r.target _).get p).arbiter.queueOf d = _
    rw [PerPort.get_set]
    by_cases hp : p = r.target
    · subst hp
      rw [if_pos rfl]
      by_cases hd : d = r.dom
      · subst hd
        rw [if_pos ⟨rfl, rfl⟩]
        exact Arbiter.queueOf_modQueue_same _ _ _
      · rw [if_neg fun e => hd e.2, List.append_nil]
        exact Arbiter.queueOf_modQueue_other _ hd _
    · rw [if_neg hp, if_neg fun e => hp e.1, List.append_nil]
  · show ((s.ports.set r.target _).get p).tags.get j = _
    rw [PerPort.get_set]
    split
    · rename_i e; rw [e]
    · rfl
  · show requestTags ((s.ports.set r.target _).get p).outbound = _
    rw [PerPort.get_set]
    split
    · rename_i e; rw [e]
    · rfl

theorem Track.tables (g : Track True cuts s t) (hs : s.CountLaw) (h : s.Tables) : t.Tables := by
  cases g with
  | ends r c st hst _ hq =>
    obtain ⟨q, hq, hid, ht, hd, hc, hl⟩ := hq trivial
    exact h.ends hs hst hq hid ht hd hc hl
  | queues r c hf hc _ => exact h.queues hs hf hc
  | finishes r => exact finishRequest_tables hs h r.id
  | meters m => exact h.congr ⟨fun _ _ => rfl, fun _ _ => rfl, fun _ => rfl⟩ fun _ _ _ _ _ _ => Iff.rfl
  | flags v => exact h.congr ⟨fun _ _ => rfl, fun _ _ => rfl, fun _ => rfl⟩ fun _ _ _ _ _ _ => Iff.rfl

theorem Tracks.tables (g : Tracks True cuts s t) (hs : s.CountLaw) (h : s.Tables) : t.Tables := by
  induction g with
  | refl => exact h
  | tail m g ih => exact g.tables (Tracks.countLaw m (fun _ => hs) trivial) ih

end

end Sys2Proof.Machine
end

section
/-! PROOFS. The accounts of one initiator port's outbound queue: events, gate events, replies and COMPLETIONs, with what is in hand
(R4, R9, R114, R118, R158). -/

namespace Sys2Proof.Machine

open Sys2Proof

/-! ### What an outbound queue says -/

/-- What of an outbound queue the accounts of an initiator read. -/
def speech (l : List OutPacket) : Nat × Nat × Nat × List (Fin 4) × List (Fin 32) :=
  (eventsIn l, noticesIn .fault l, noticesIn .custody l, replyTags l, completionTags l)

theorem speech_append (l : List OutPacket) (pkt : OutPacket) : speech (l ++ [pkt]) =
    (eventsIn l + eventsIn [pkt], noticesIn .fault l + noticesIn .fault [pkt], noticesIn .custody l + noticesIn .custody [pkt],
      replyTags l ++ replyTags [pkt], completionTags l ++ completionTags [pkt]) := by
  unfold speech eventsIn noticesIn replyTags completionTags
  simp only [List.filter_append, List.length_append, List.filterMap_append]

theorem speech_cons (l : List OutPacket) (pkt : OutPacket) : speech (pkt :: l) =
    (eventsIn [pkt] + eventsIn l, noticesIn .fault [pkt] + noticesIn .fault l, noticesIn .custody [pkt] + noticesIn .custody l,
      replyTags [pkt] ++ replyTags l, completionTags [pkt] ++ completionTags l) := by
  rw [← List.singleton_append]
  unfold speech eventsIn noticesIn replyTags completionTags
  simp only [List.filter_append, List.length_append, List.filterMap_append]

/-- A piece or scrub step that goes out says nothing to the initiator. -/
theorem speech_request (l : List OutPacket) (t : Fin 16) (k : Kind) (a : Addr) (c : Byte) (y : List Byte) :
    speech (l ++ [.request t k a c y]) = speech l := by
  rw [speech_append]
  simp [speech, eventsIn, noticesIn, replyTags, completionTags]

theorem speech_dropOut (t : Fin 16) (l : List OutPacket) : speech (dropOut t l) = speech l := by
  induction l with
  | nil => rfl
  | cons pkt l ih =>
    by_cases h : dropOut t (pkt :: l) = pkt :: dropOut t l
    · rw [h, speech_cons, speech_cons]
      simp only [speech, Prod.mk.injEq] at ih
      obtain ⟨h1, h2, h3, h4, h5⟩ := ih
      rw [h1, h2, h3, h4, h5]
    · cases pkt with
      | request j k a c y =>
        have hj : j = t := by
          by_contra hne
          exact h (List.filter_cons_of_pos (decide_eq_true hne))
        have hdrop : dropOut t (.request j k a c y :: l) = dropOut t l := List.filter_cons_of_neg (by simp [hj])
        rw [hdrop, ih, speech_cons]
        simp [speech, eventsIn, noticesIn, replyTags, completionTags]
      | completion x st data => exact absurd (List.filter_cons_of_pos rfl) h
      | reply x st res => exact absurd (List.filter_cons_of_pos rfl) h
      | event a b c d => exact absurd (List.filter_cons_of_pos rfl) h
      | notice k => exact absurd (List.filter_cons_of_pos rfl) h

/-! ### The accounts -/

/-- The unmarked commands of an initiator port, by their tags (R158). -/
def InitState.tagsTaken (v : InitState) : List (Fin 4) := (v.commands.filter (fun c => !c.discard)).map (fun c => c.tag)

/-- A command of tag `t` that is neither marked nor carried. -/
def InitState.Waiting (v : InitState) (t : Fin 4) : Prop := ∃ c ∈ v.commands, c.tag = t ∧ c.discard = false ∧ c.carrier = none

/-- The accounts of the outbound queue `out` of an initiator port `v`: `due x` answers under tag `x` are still to come, and the command of
tag `cmd`, if any, has been taken and not yet been replied to. -/
structure Said (due : Fin 32 → Nat) (cmd : Option (Fin 4)) (v : InitState) (out : List OutPacket) : Prop where
  events  : eventsIn out = v.eventCount
  fault   : noticesIn .fault out = if v.faultNotice = .waiting then 1 else 0
  custody : noticesIn .custody out = if v.custodyNotice = .waiting then 1 else 0
  nodup   : (replyTags out).Nodup
  replies : ∀ t ∈ replyTags out, v.Waiting t
  unique  : v.tagsTaken.Nodup
  taken   : ∀ t, cmd = some t → t ∉ replyTags out ∧ v.Waiting t
  tags    : ∀ x, due x + (completionTags out).count x ≤ if x ∈ v.tags then 1 else 0

section
variable {due due' : Fin 32 → Nat} {cmd : Option (Fin 4)} {v w : InitState} {out out' : List OutPacket}

namespace Said

theorem congr (h : Said due cmd v out) (ho : speech out' = speech out) : Said due cmd v out' := by
  simp only [speech, Prod.mk.injEq] at ho
  obtain ⟨h1, h2, h3, h4, h5⟩ := ho
  exact ⟨by rw [h1]; exact h.events, by rw [h2]; exact h.fault, by rw [h3]; exact h.custody, by rw [h4]; exact h.nodup,
    by rw [h4]; exact h.replies, h.unique, by rw [h4]; exact h.taken, by rw [h5]; exact h.tags⟩

theorem mono (h : Said due cmd v out) (hd : ∀ x, due' x ≤ due x) : Said due' cmd v out :=
  { h with tags := fun x => (Nat.add_le_add_right (hd x) _).trans (h.tags x) }

theorem forget (h : Said due cmd v out) : Said due none v out := { h with taken := fun _ e => nomatch e }

/-- An answer is placed. -/
theorem completion (h : Said due cmd v out) {x : Fin 32} (hd : ∀ y, due' y + (if y = x then 1 else 0) ≤ due y) (st : AnswerStatus)
    (data : List Byte) : Said due' cmd v (out ++ [.completion x st data]) := by
  have ho := speech_append out (.completion x st data)
  have e1 : eventsIn [.completion x st data] = 0 := rfl
  have e2 : noticesIn .fault [.completion x st data] = 0 := rfl
  have e3 : noticesIn .custody [.completion x st data] = 0 := rfl
  have e4 : replyTags [.completion x st data] = [] := rfl
  have e5 : completionTags [.completion x st data] = [x] := rfl
  rw [e1, e2, e3, e4, e5, List.append_nil] at ho
  simp only [speech, Prod.mk.injEq] at ho
  obtain ⟨h1, h2, h3, h4, h5⟩ := ho
  refine ⟨by rw [h1]; exact h.events, by rw [h2]; exact h.fault, by rw [h3]; exact h.custody, by rw [h4]; exact h.nodup,
    by rw [h4]; exact h.replies, h.unique, by rw [h4]; exact h.taken, fun y => ?_⟩
  rw [h5, List.count_append, List.count_singleton]
  have := h.tags y
  have := hd y
  by_cases hy : y = x
  · subst hy
    simp only [beq_self_eq_true, if_true] at *
    omega
  · have hb : (x == y) = false := by simpa using Ne.symm hy
    rw [hb]
    simp only [hy, if_false] at *
    simp only [Bool.false_eq_true, if_false]
    omega

/-- A FAULT_NOTICE is placed (R120). -/
theorem faultNotice (h : Said due cmd v out) (hv : v.faultNotice = .empty) :
    Said due cmd { v with faultNotice := .waiting } (out ++ [.notice .fault]) := by
  have ho := speech_append out (.notice .fault)
  have e1 : eventsIn [.notice .fault] = 0 := rfl
  have e2 : noticesIn .fault [.notice .fault] = 1 := rfl
  have e3 : noticesIn .custody [.notice .fault] = 0 := rfl
  have e4 : replyTags [.notice .fault] = [] := rfl
  have e5 : completionTags [.notice .fault] = [] := rfl
  rw [e1, e2, e3, e4, e5, List.append_nil, List.append_nil] at ho
  simp only [speech, Prod.mk.injEq] at ho
  obtain ⟨h1, h2, h3, h4, h5⟩ := ho
  have hf := h.fault
  rw [hv] at hf
  refine ⟨by rw [h1]; exact h.events, ?_, by rw [h3]; exact h.custody, by rw [h4]; exact h.nodup,
    by rw [h4]; exact h.replies, h.unique, by rw [h4]; exact h.taken, by rw [h5]; exact h.tags⟩
  rw [h2, hf]
  rfl

/-- A CUSTODY_NOTICE is placed (R121, R122). -/
theorem custodyNotice (h : Said due cmd v out) (hv : v.custodyNotice ≠ .waiting) :
    Said due cmd { v with custodyNotice := .waiting } (out ++ [.notice .custody]) := by
  have ho := speech_append out (.notice .custody)
  have e1 : eventsIn [.notice .custody] = 0 := rfl
  have e2 : noticesIn .fault [.notice .custody] = 0 := rfl
  have e3 : noticesIn .custody [.notice .custody] = 1 := rfl
  have e4 : replyTags [.notice .custody] = [] := rfl
  have e5 : completionTags [.notice .custody] = [] := rfl
  rw [e1, e2, e3, e4, e5, List.append_nil, List.append_nil] at ho
  simp only [speech, Prod.mk.injEq] at ho
  obtain ⟨h1, h2, h3, h4, h5⟩ := ho
  have hf := h.custody
  rw [if_neg hv] at hf
  refine ⟨by rw [h1]; exact h.events, by rw [h2]; exact h.fault, ?_, by rw [h4]; exact h.nodup,
    by rw [h4]; exact h.replies, h.unique, by rw [h4]; exact h.taken, by rw [h5]; exact h.tags⟩
  rw [h3, hf]
  rfl

/-- A CUSTODY_NOTICE is held, or its place changes without one being placed. -/
theorem custodyHeld (h : Said due cmd v out) (hv : v.custodyNotice ≠ .waiting) : Said due cmd { v with custodyNotice := .held } out := by
  have hf := h.custody
  rw [if_neg hv] at hf
  exact { h with custody := hf }

/-- A peripheral event is placed (R117). -/
theorem event (h : Said due cmd v out) (a b : Byte) (g g' : Bool) (y : List Byte) :
    Said due cmd { v with eventCount := v.eventCount + 1, gap := g' } (out ++ [.event a b g y]) := by
  have ho := speech_append out (.event a b g y)
  have e1 : eventsIn [.event a b g y] = 1 := rfl
  have e2 : noticesIn .fault [.event a b g y] = 0 := rfl
  have e3 : noticesIn .custody [.event a b g y] = 0 := rfl
  have e4 : replyTags [.event a b g y] = [] := rfl
  have e5 : completionTags [.event a b g y] = [] := rfl
  rw [e1, e2, e3, e4, e5, List.append_nil, List.append_nil] at ho
  simp only [speech, Prod.mk.injEq] at ho
  obtain ⟨h1, h2, h3, h4, h5⟩ := ho
  exact ⟨by rw [h1, h.events], by rw [h2]; exact h.fault, by rw [h3]; exact h.custody, by rw [h4]; exact h.nodup,
    by rw [h4]; exact h.replies, h.unique, by rw [h4]; exact h.taken, by rw [h5]; exact h.tags⟩

theorem gap (h : Said due cmd v out) (g : Bool) : Said due cmd { v with gap := g } out := { h with }

/-- Packets that say a reply more. -/
theorem speech_reply (out : List OutPacket) (t : Fin 4) (st : ReplyStatus) (res : List Byte) :
    speech (out ++ [.reply t st res]) =
      (eventsIn out, noticesIn .fault out, noticesIn .custody out, replyTags out ++ [t], completionTags out) := by
  rw [speech_append]
  simp [eventsIn, noticesIn, replyTags, completionTags]

/-- A reply is placed for an uncarried command that has none yet (R160). -/
theorem replied (h : Said due cmd v out) {t : Fin 4} (hn : t ∉ replyTags out) (hw : v.Waiting t) (hc : cmd ≠ some t) (st : ReplyStatus)
    (res : List Byte) : Said due cmd v (out ++ [.reply t st res]) := by
  have ho := speech_reply out t st res
  simp only [speech, Prod.mk.injEq] at ho
  obtain ⟨h1, h2, h3, h4, h5⟩ := ho
  refine ⟨by rw [h1]; exact h.events, by rw [h2]; exact h.fault, by rw [h3]; exact h.custody, ?_, fun x hx => ?_, h.unique, fun x hx => ?_,
    by rw [h5]; exact h.tags⟩
  · rw [h4, List.nodup_append]
    exact ⟨h.nodup, by simp, fun a ha b hb => by rw [List.mem_singleton.mp hb]; rintro rfl; exact hn ha⟩
  · rw [h4] at hx
    rcases List.mem_append.mp hx with hl | hr
    · exact h.replies x hl
    · rw [List.mem_singleton.mp hr]; exact hw
  · obtain ⟨h1, h2⟩ := h.taken x hx
    refine ⟨?_, h2⟩
    rw [h4]
    intro hm
    rcases List.mem_append.mp hm with hl | hr
    · exact h1 hl
    · rw [List.mem_singleton.mp hr] at hx
      exact hc hx

/-- The command in hand is replied to (R160). -/
theorem reply {t : Fin 4} (h : Said due (some t) v out) (st : ReplyStatus) (res : List Byte) : Said due none v (out ++ [.reply t st res]) := by
  obtain ⟨hn, hw⟩ := h.taken t rfl
  exact h.forget.replied hn hw (by simp) st res

/-! ### The engine's list (R158) -/

/-- Two unmarked commands of one tag are one. -/
theorem one_command (h : v.tagsTaken.Nodup) {c y : Command} (hc : c ∈ v.commands) (hy : y ∈ v.commands) (hcd : c.discard = false)
    (hyd : y.discard = false) (e : c.tag = y.tag) : c = y :=
  List.inj_on_of_nodup_map h (List.mem_filter.mpr ⟨hc, by rw [hcd]; rfl⟩) (List.mem_filter.mpr ⟨hy, by rw [hyd]; rfl⟩) e

/-- The commands change, and so does the command in hand. -/
theorem commands (h : Said due cmd v out) {l : List Command} {cmd' : Option (Fin 4)} (hu : ({ v with commands := l } : InitState).tagsTaken.Nodup)
    (hw : ∀ t ∈ replyTags out, v.Waiting t → ({ v with commands := l } : InitState).Waiting t)
    (ht : ∀ t, cmd' = some t → t ∉ replyTags out ∧ ({ v with commands := l } : InitState).Waiting t) :
    Said due cmd' { v with commands := l } out :=
  ⟨h.events, h.fault, h.custody, h.nodup, fun t ht => hw t ht (h.replies t ht), hu, ht, h.tags⟩

/-- A command is taken (R158). -/
theorem enter (h : Said due cmd v out) {t : Fin 4} (hno : ∀ c ∈ v.commands, c.discard = false → c.tag ≠ t) (code : Byte) :
    Said due (some t) { v with commands := v.commands ++ [⟨t, code, false, none⟩] } out := by
  have hkeep {x : Fin 4} (hx : v.Waiting x) : ({ v with commands := v.commands ++ [⟨t, code, false, none⟩] } : InitState).Waiting x := by
    obtain ⟨c, hc, rest⟩ := hx
    exact ⟨c, List.mem_append_left _ hc, rest⟩
  refine h.commands ?_ (fun _ _ => hkeep) fun x hx => ?_
  · unfold InitState.tagsTaken
    dsimp only
    rw [List.filter_append, List.map_append, List.nodup_append]
    refine ⟨h.unique, by simp, fun a ha b hb => ?_⟩
    obtain ⟨c, hc, rfl⟩ := List.mem_map.mp ha
    obtain ⟨hc, hd⟩ := List.mem_filter.mp hc
    have : b = t := by simpa using hb
    rw [this]
    exact hno c hc (by simpa using hd)
  · obtain rfl := Option.some.inj hx
    refine ⟨fun hm => ?_, _, List.mem_append_right _ (List.mem_singleton.mpr rfl), rfl, rfl, rfl⟩
    obtain ⟨c, hc, e, hd, -⟩ := h.replies t hm
    exact hno c hc hd e

theorem tagsTaken_map {f : Command → Command} (hf : ∀ c, (f c).tag = c.tag ∧ (f c).discard = c.discard) (v : InitState) :
    ({ v with commands := v.commands.map f } : InitState).tagsTaken = v.tagsTaken := by
  unfold InitState.tagsTaken
  dsimp only
  rw [List.filter_map, List.map_map]
  have h1 : ((fun c : Command => !c.discard) ∘ f) = (fun c => !c.discard) := funext fun c => by simp [hf]
  have h2 : ((fun c : Command => c.tag) ∘ f) = (fun c => c.tag) := funext fun c => by simp [hf]
  rw [h1, h2]

/-- The command in hand becomes a long command (R158). -/
theorem carry {t : Fin 4} (h : Said due (some t) v out) (c : Carrier) :
    Said due none { v with commands := v.commands.map (fun x => if x.discard = false ∧ x.tag = t then { x with carrier := some c } else x) } out := by
  refine h.commands ?_ (fun x hx => ?_) fun _ e => nomatch e
  · rw [tagsTaken_map (fun c => by split <;> exact ⟨rfl, rfl⟩)]
    exact h.unique
  · rintro ⟨y, hy, rfl, hd, hc⟩
    refine ⟨y, List.mem_map.mpr ⟨y, hy, if_neg fun e => ?_⟩, rfl, hd, hc⟩
    exact (h.taken t rfl).1 (e.2 ▸ hx)

/-- A marked long command leaves the list (R158). -/
theorem dropped (h : Said due cmd v out) (c : Carrier) :
    Said due cmd { v with commands := v.commands.filter (fun y => decide (y.carrier ≠ some c)) } out := by
  have hkeep {x : Fin 4} (hx : v.Waiting x) :
      ({ v with commands := v.commands.filter (fun y => decide (y.carrier ≠ some c)) } : InitState).Waiting x := by
    obtain ⟨y, hy, e, hd, hc⟩ := hx
    exact ⟨y, List.mem_filter.mpr ⟨hy, decide_eq_true (by rw [hc]; simp)⟩, e, hd, hc⟩
  refine h.commands ?_ (fun _ _ => hkeep) fun x hx => ⟨(h.taken x hx).1, hkeep (h.taken x hx).2⟩
  exact h.unique.sublist ((List.filter_sublist.filter _).map _)

/-- A long command's carrier ends (R158). -/
theorem uncarried (h : Said due cmd v out) (c : Carrier) :
    Said due cmd { v with commands := v.commands.map (fun y => if y.carrier = some c then { y with carrier := none } else y) } out := by
  have hkeep {x : Fin 4} (hx : v.Waiting x) : ({ v with
      commands := v.commands.map (fun y => if y.carrier = some c then { y with carrier := none } else y) } : InitState).Waiting x := by
    obtain ⟨y, hy, e, hd, hc⟩ := hx
    exact ⟨y, List.mem_map.mpr ⟨y, hy, if_neg (by rw [hc]; simp)⟩, e, hd, hc⟩
  refine h.commands ?_ (fun _ _ => hkeep) fun x hx => ⟨(h.taken x hx).1, hkeep (h.taken x hx).2⟩
  rw [tagsTaken_map (fun c => by split <;> exact ⟨rfl, rfl⟩)]
  exact h.unique

/-- A long command ends with its reply (R160, R161). -/
theorem endReply (h : Said due cmd v out) {c : Carrier} {x : Command} (hx : x ∈ v.commands) (hc : x.carrier = some c) (hd : x.discard = false)
    (st : ReplyStatus) (res : List Byte) :
    Said due cmd { v with commands := v.commands.map (fun y => if y.carrier = some c then { y with carrier := none } else y) }
      (out ++ [.reply x.tag st res]) := by
  have hno {t : Fin 4} (ht : v.Waiting t) : x.tag ≠ t := by
    obtain ⟨y, hy, e, hyd, hyc⟩ := ht
    intro he
    obtain rfl := one_command h.unique hx hy hd hyd (he.trans e.symm)
    rw [hc] at hyc
    cases hyc
  refine (h.uncarried c).replied (fun hm => hno (h.replies _ hm) rfl) ?_ (fun e => hno (h.taken _ e).2 rfl) st res
  exact ⟨_, List.mem_map.mpr ⟨x, hx, if_pos hc⟩, rfl, hd, rfl⟩

/-! ### Packets that leave (R4, R5, R118, R120, R121) -/

theorem completionLeaves {x : Fin 32} {st : AnswerStatus} {data : List Byte} (h : Said due cmd v (.completion x st data :: out)) :
    Said due cmd { v with tags := v.tags.filter (fun y => decide (y ≠ x)) } out := by
  have hcount (y : Fin 32) : (completionTags (.completion x st data :: out)).count y =
      (completionTags out).count y + if y = x then 1 else 0 := by
    rw [show completionTags (.completion x st data :: out) = x :: completionTags out from rfl, List.count_cons]
    by_cases hy : y = x
    · simp [hy]
    · simp [hy, Ne.symm hy]
  refine ⟨h.events, h.fault, h.custody, h.nodup, h.replies, h.unique, h.taken, fun y => ?_⟩
  have ht := h.tags y
  rw [hcount] at ht
  dsimp only
  by_cases hy : y = x
  · rw [if_pos hy] at ht
    have : (if y ∈ v.tags then 1 else 0) ≤ 1 := by split <;> omega
    omega
  · rw [if_neg hy, Nat.add_zero] at ht
    refine ht.trans (le_of_eq ?_)
    congr 1
    simp [hy]

theorem replyLeaves {t : Fin 4} {st : ReplyStatus} {res : List Byte} (h : Said due cmd v (.reply t st res :: out)) :
    Said due cmd { v with commands := v.commands.filter (fun c => c.discard || decide (c.tag ≠ t)) } out := by
  have hr : replyTags (.reply t st res :: out) = t :: replyTags out := rfl
  obtain ⟨ht, hn⟩ := List.nodup_cons.mp (hr ▸ h.nodup)
  have hkeep {x : Fin 4} (hne : x ≠ t) (hx : v.Waiting x) :
      ({ v with commands := v.commands.filter (fun c => c.discard || decide (c.tag ≠ t)) } : InitState).Waiting x := by
    obtain ⟨y, hy, rfl, hd, hc⟩ := hx
    exact ⟨y, List.mem_filter.mpr ⟨hy, by rw [decide_eq_true hne, Bool.or_true]⟩, rfl, hd, hc⟩
  refine ⟨h.events, h.fault, h.custody, hn, fun x hx => ?_, ?_, fun x hx => ?_, h.tags⟩
  · exact hkeep (by rintro rfl; exact ht hx) (h.replies x (by rw [hr]; exact List.mem_cons_of_mem _ hx))
  · exact h.unique.sublist ((List.filter_sublist.filter _).map _)
  · obtain ⟨h1, h2⟩ := h.taken x hx
    rw [hr] at h1
    obtain ⟨hne, h1⟩ := not_or.mp (fun e => h1 (List.mem_cons.mpr e))
    exact ⟨h1, hkeep hne h2⟩

theorem eventLeaves {a b : Byte} {g : Bool} {y : List Byte} (h : Said due cmd v (.event a b g y :: out)) :
    Said due cmd { v with eventCount := v.eventCount - 1 } out := by
  have he : eventsIn out + 1 = v.eventCount := h.events
  exact ⟨by dsimp only; omega, h.fault, h.custody, h.nodup, h.replies, h.unique, h.taken, h.tags⟩

theorem faultLeaves (h : Said due cmd v (.notice .fault :: out)) : Said due cmd { v with faultNotice := .empty } out := by
  have he : noticesIn .fault out + 1 = if v.faultNotice = .waiting then 1 else 0 := h.fault
  have h0 : noticesIn .fault out = 0 := by
    split at he <;> omega
  exact ⟨h.events, h0, h.custody, h.nodup, h.replies, h.unique, h.taken, h.tags⟩

theorem custodyLeaves (h : Said due cmd v (.notice .custody :: out)) : Said due cmd { v with custodyNotice := .empty } out := by
  have he : noticesIn .custody out + 1 = if v.custodyNotice = .waiting then 1 else 0 := h.custody
  have h0 : noticesIn .custody out = 0 := by
    split at he <;> omega
  exact ⟨h.events, h.fault, h0, h.nodup, h.replies, h.unique, h.taken, h.tags⟩

/-- A tag is taken that was not in the set (R4). -/
theorem enterTag (h : Said due cmd v out) {x : Fin 32} (hx : x ∉ v.tags) (hd : ∀ y, due' y ≤ due y + if y = x then 1 else 0) :
    Said due' cmd { v with tags := x :: v.tags } out := by
  refine ⟨h.events, h.fault, h.custody, h.nodup, h.replies, h.unique, h.taken, fun y => ?_⟩
  have ht := h.tags y
  have := hd y
  dsimp only
  by_cases hy : y = x
  · subst hy
    rw [if_neg hx] at ht
    rw [if_pos rfl] at this
    rw [if_pos List.mem_cons_self]
    omega
  · rw [if_neg hy] at this
    have : (if y ∈ x :: v.tags then 1 else 0) = if y ∈ v.tags then 1 else 0 := by simp [hy]
    omega

end Said

end

end Sys2Proof.Machine
end

section
/-! PROOFS. The accounts that every command keeps: the records, the target ports, the waiting lists and the outbound queues, with what is in
hand while a command runs (R4, R9, R56, R64, R82, R114, R158). -/

namespace Sys2Proof.Machine

open Sys2Proof

/-! ### Answers that are still to come -/

/-- 1 where a request of domain `e` under `tag` is owed the answer under tag `x` of domain `d`. -/
def owes (e : Domain) (tag : Option (Fin 32)) (d : Domain) (x : Fin 32) : Nat := if e = d ∧ tag = some x then 1 else 0

/-- What a record owes; an abandoned one nothing (R12). -/
def Request.owes (d : Domain) (x : Fin 32) (r : Request) : Nat := if r.abandoned then 0 else Machine.owes r.dom r.tag d x

/-- What a parked request owes. -/
def Parked.owes (d : Domain) (x : Fin 32) (k : Parked) : Nat := Machine.owes k.req.dom k.req.tag d x

/-- What a list of parked requests owes. -/
def owedParked (l : List Parked) (d : Domain) (x : Fin 32) : Nat := (l.map (Parked.owes d x)).sum

/-- What the requests owe. -/
def owedRequests (l : List Request) (d : Domain) (x : Fin 32) : Nat := (l.map (Request.owes d x)).sum

/-- The answers under tag `x` that are still to come to domain `d`. -/
def State.owed (s : State) (d : Domain) (x : Fin 32) : Nat :=
  owedRequests s.requests d x + ∑ u : Fin 8, owedParked (s.units.get u).parked d x

theorem owedParked_append (l m : List Parked) (d : Domain) (x : Fin 32) : owedParked (l ++ m) d x = owedParked l d x + owedParked m d x := by
  simp [owedParked]

theorem owedParked_cons (k : Parked) (l : List Parked) (d : Domain) (x : Fin 32) : owedParked (k :: l) d x = k.owes d x + owedParked l d x := by
  simp [owedParked]

theorem owedParked_sublist {l m : List Parked} (h : l.Sublist m) (d : Domain) (x : Fin 32) : owedParked l d x ≤ owedParked m d x :=
  (h.map _).sum_le_sum fun _ _ => Nat.zero_le _

theorem owedRequests_append (l m : List Request) (d : Domain) (x : Fin 32) :
    owedRequests (l ++ m) d x = owedRequests l d x + owedRequests m d x := by
  simp [owedRequests]

/-- Records that keep domain and tag, and that are abandoned where they were, owe no more. -/
theorem owedRequests_map {f : Request → Request} (hf : ∀ r, (f r).dom = r.dom ∧ (f r).tag = r.tag ∧ (r.abandoned = true → (f r).abandoned = true))
    (l : List Request) (d : Domain) (x : Fin 32) : owedRequests (l.map f) d x ≤ owedRequests l d x := by
  unfold owedRequests
  rw [List.map_map]
  refine List.sum_le_sum fun r _ => ?_
  obtain ⟨h1, h2, h3⟩ := hf r
  simp only [Function.comp_apply, Request.owes, h1, h2]
  by_cases ha : r.abandoned = true
  · rw [h3 ha, ha]
  · rw [if_neg ha]
    split
    · exact Nat.zero_le _
    · exact le_refl _

/-- Where one record leaves, what it owed goes with it. -/
theorem owedRequests_filter {l : List Request} (hn : (l.map (fun r => r.id)).Nodup) {r : Request} (hr : r ∈ l) (d : Domain) (x : Fin 32) :
    owedRequests (l.filter (fun q => decide (q.id ≠ r.id))) d x + r.owes d x = owedRequests l d x :=
  sum_map_remove (key := fun r : Request => r.id) (Request.owes d x) hn hr

/-- One of several summands changes. -/
theorem sum_setAt {α : Type} {n : Nat} (v : Vector α n) (i : Fin n) (a : α) (w : α → Nat) :
    (∑ j : Fin n, w ((setAt v i a).get j)) + w (v.get i) = (∑ j : Fin n, w (v.get j)) + w a := by
  rw [← Finset.add_sum_erase Finset.univ (fun j => w ((setAt v i a).get j)) (Finset.mem_univ i),
    ← Finset.add_sum_erase Finset.univ (fun j => w (v.get j)) (Finset.mem_univ i), setAt_get_same]
  have h : ∑ j ∈ Finset.univ.erase i, w ((setAt v i a).get j) = ∑ j ∈ Finset.univ.erase i, w (v.get j) :=
    Finset.sum_congr rfl fun j hj => by rw [setAt_get_other _ _ (Finset.ne_of_mem_erase hj)]
  rw [h]
  omega

/-! ### What is in hand, and the accounts -/

/-- What a running command has in hand: how often it owes an answer, and on each port the tag of a command that has been taken and has not yet
been replied to. -/
structure Hand where
  tags : Domain → Fin 32 → Nat
  cmd  : Domain → Option (Fin 4)

/-- Nothing is in hand. -/
def Hand.empty : Hand := ⟨fun _ _ => 0, fun _ => none⟩

/-- The account of the outbound queue of port `p`. -/
structure State.OutAt (h : Hand) (s : State) (p : Port) : Prop where
  down : (s.ports.get p).link ≠ .up → (s.ports.get p).outbound = []
  only : p.domain = none → ∀ pkt ∈ (s.ports.get p).outbound, ∃ t kind a l y, pkt = .request t kind a l y
  said : ∀ d : Domain, p = d.port → Said (fun x => h.tags d x + s.owed d x) (h.cmd d) (s.inits.get d) (s.ports.get p).outbound

/-- The accounts while a command runs: of the waiting lists where `w`, and of the outbound queues of the ports `on`. -/
structure Accounts (w : Prop) (on : Port → Prop) (h : Hand) (s : State) : Prop where
  count  : s.CountLaw
  tables : s.Tables
  waits  : w → Waits s.ups none s ∧ s.Parks s.ups
  out    : ∀ p, on p → s.OutAt h p

section
variable {w : Prop} {on : Port → Prop} {h h' : Hand} {s t u : State} {p : Port}

theorem State.OutAt.mono (a : s.OutAt h p) (ht : ∀ d x, h'.tags d x ≤ h.tags d x) (hc : ∀ d, h'.cmd d = h.cmd d) : s.OutAt h' p :=
  ⟨a.down, a.only, fun d hd => hc d ▸ (a.said d hd).mono fun x => Nat.add_le_add_right (ht d x) _⟩

theorem Accounts.mono (a : Accounts w on h s) (ht : ∀ d x, h'.tags d x ≤ h.tags d x) (hc : ∀ d, h'.cmd d = h.cmd d) : Accounts w on h' s :=
  ⟨a.count, a.tables, a.waits, fun p hp => (a.out p hp).mono ht hc⟩

/-- The account of one outbound queue reads the port's link and queue, the initiator's side and what is owed. -/
theorem State.OutAt.congr (a : s.OutAt h p) (hl : (t.ports.get p).link = (s.ports.get p).link)
    (ho : (t.ports.get p).outbound = (s.ports.get p).outbound) (hi : ∀ d, p = d.port → t.inits.get d = s.inits.get d)
    (hd : ∀ d, p = d.port → ∀ x, h'.tags d x + t.owed d x ≤ h.tags d x + s.owed d x) (hc : ∀ d, p = d.port → h'.cmd d = h.cmd d) :
    t.OutAt h' p := by
  refine ⟨fun hdown => ?_, fun hno pkt hpkt => ?_, fun d hp => ?_⟩
  · rw [ho]; exact a.down (hl ▸ hdown)
  · exact a.only hno pkt (ho ▸ hpkt)
  · rw [ho, hi d hp, hc d hp]
    exact (a.said d hp).mono (hd d hp)

/-- The same where pieces and scrub steps leave the queue of an initiator or go into that of an UP port. -/
theorem State.OutAt.heard (a : s.OutAt h p) (hl : (t.ports.get p).link = (s.ports.get p).link)
    (ho : speech (t.ports.get p).outbound = speech (s.ports.get p).outbound)
    (hnew : ∀ pkt ∈ (t.ports.get p).outbound, pkt ∈ (s.ports.get p).outbound ∨
      (s.ports.get p).link = .up ∧ ∃ t kind a l y, pkt = .request t kind a l y)
    (hi : ∀ d, p = d.port → t.inits.get d = s.inits.get d)
    (hd : ∀ d, p = d.port → ∀ x, h'.tags d x + t.owed d x ≤ h.tags d x + s.owed d x) (hc : ∀ d, p = d.port → h'.cmd d = h.cmd d) :
    t.OutAt h' p := by
  refine ⟨fun hdown => ?_, fun hno pkt hpkt => ?_, fun d hp => ?_⟩
  · rw [hl] at hdown
    refine List.eq_nil_iff_forall_not_mem.mpr fun pkt hpkt => ?_
    rcases hnew pkt hpkt with hold | ⟨hup, -⟩
    · rw [a.down hdown] at hold
      cases hold
    · exact hdown hup
  · exact (hnew pkt hpkt).elim (a.only hno pkt) fun e => e.2
  · rw [hi d hp, hc d hp]
    exact ((a.said d hp).congr ho).mono (hd d hp)

/-- What the accounts read of two states is the same. -/
structure Same (s t : State) : Prop where
  requests : t.requests = s.requests
  unit     : ∀ u, (t.units.get u).inFlight = (s.units.get u).inFlight ∧ (t.units.get u).parked = (s.units.get u).parked
  waiting  : ∀ n : Fin 16, (t.meters.get n).waiting = (s.meters.get n).waiting
  port     : ∀ p, ((t.ports.get p).link, (t.ports.get p).outbound, (t.ports.get p).tags) =
    ((s.ports.get p).link, (s.ports.get p).outbound, (s.ports.get p).tags)
  queue    : ∀ p d, (t.ports.get p).arbiter.queueOf d = (s.ports.get p).arbiter.queueOf d
  init     : t.inits = s.inits

namespace Same

theorem refl (s : State) : Same s s := ⟨rfl, fun _ => ⟨rfl, rfl⟩, fun _ => rfl, fun _ => rfl, fun _ _ => rfl, rfl⟩

theorem trans (e : Same s t) (g : Same t u) : Same s u :=
  ⟨g.requests.trans e.requests, fun v => ⟨(g.unit v).1.trans (e.unit v).1, (g.unit v).2.trans (e.unit v).2⟩,
    fun n => (g.waiting n).trans (e.waiting n), fun p => (g.port p).trans (e.port p), fun p d => (g.queue p d).trans (e.queue p d),
    g.init.trans e.init⟩

theorem link (e : Same s t) (p : Port) : (t.ports.get p).link = (s.ports.get p).link := congrArg (fun x => x.1) (e.port p)

theorem outbound (e : Same s t) (p : Port) : (t.ports.get p).outbound = (s.ports.get p).outbound := congrArg (fun x => x.2.1) (e.port p)

theorem tags (e : Same s t) (p : Port) : (t.ports.get p).tags = (s.ports.get p).tags := congrArg (fun x => x.2.2) (e.port p)

theorem owed (e : Same s t) (d : Domain) (x : Fin 32) : t.owed d x = s.owed d x := by
  unfold State.owed
  rw [e.requests, Finset.sum_congr rfl fun v _ => by rw [(e.unit v).2]]

theorem ups (e : Same s t) : t.ups = s.ups := by
  funext p
  unfold State.ups
  rw [e.link]

/-- The parts that the accounts read are the same. -/
theorem of_eq (hr : t.requests = s.requests) (hu : t.units = s.units) (hm : t.meters = s.meters) (hp : t.ports = s.ports)
    (hi : t.inits = s.inits) : Same s t := by
  refine ⟨hr, fun v => ?_, fun n => ?_, fun p => ?_, fun p d => ?_, hi⟩
  · rw [hu]; exact ⟨rfl, rfl⟩
  · rw [hm]
  · rw [hp]
  · rw [hp]

theorem modUnit {v : Fin 8} {f : CustodyUnit → CustodyUnit}
    (hf : (f (s.units.get v)).inFlight = (s.units.get v).inFlight ∧ (f (s.units.get v)).parked = (s.units.get v).parked) :
    Same s (s.modUnit v f) := by
  refine ⟨rfl, fun x => ?_, fun _ => rfl, fun _ => rfl, fun _ _ => rfl, rfl⟩
  unfold State.modUnit
  rw [setAt_get]
  split
  · rename_i e; rw [e]; exact hf
  · exact ⟨rfl, rfl⟩

theorem modMeter {n : Fin 16} {f : Meter → Meter} (hf : (f (s.meters.get n)).waiting = (s.meters.get n).waiting) :
    Same s (s.modMeter n f) := by
  refine ⟨rfl, fun _ => ⟨rfl, rfl⟩, fun x => ?_, fun _ => rfl, fun _ _ => rfl, rfl⟩
  unfold State.modMeter
  rw [setAt_get]
  split
  · rename_i e; rw [e]; exact hf
  · rfl

theorem modPort {q : Port} {f : PortState → PortState}
    (hf : ∀ v, ((f v).link, (f v).outbound, (f v).tags) = (v.link, v.outbound, v.tags) ∧ ∀ d, (f v).arbiter.queueOf d = v.arbiter.queueOf d) :
    Same s (s.modPort q f) := by
  have hget (p : Port) : (s.modPort q f).ports.get p = if p = q then f (s.ports.get q) else s.ports.get p := PerPort.get_set _ _ _ _
  refine ⟨rfl, fun _ => ⟨rfl, rfl⟩, fun _ => rfl, fun p => ?_, fun p d => ?_, rfl⟩
  · rw [hget]
    split
    · rename_i e; rw [e]; exact (hf _).1
    · rfl
  · rw [hget]
    split
    · rename_i e; rw [e]; exact (hf _).2 d
    · rfl

theorem setFlag (d : Domain) (f : Flag) (s : State) : Same s (setFlag d f s) := of_eq rfl rfl rfl rfl rfl

theorem foldl {α : Type} {f : State → α → State} (hf : ∀ s x, Same s (f s x)) (l : List α) (s : State) : Same s (l.foldl f s) := by
  induction l generalizing s with
  | nil => exact refl s
  | cons x xs ih => exact (hf s x).trans (ih _)

end Same

theorem Accounts.same (a : Accounts w on h s) (e : Same s t) : Accounts w on h t := by
  refine ⟨a.count.congr e.requests fun v => (e.unit v).1, ?_, fun hw => ?_, fun p hp => ?_⟩
  · exact a.tables.congr ⟨e.queue, fun p j => by rw [e.tags], fun p => by rw [e.outbound]⟩ fun _ _ _ _ _ _ => State.stands_same e.requests _ _ _ _ _
  · obtain ⟨hwaits, hparks⟩ := a.waits hw
    rw [e.ups]
    exact ⟨hwaits.congr e.requests (fun v => (e.unit v).1) e.waiting, fun v k hk => hparks v k ((e.unit v).2 ▸ hk)⟩
  · exact (a.out p hp).congr (e.link p) (e.outbound p) (fun d _ => by rw [e.init]) (fun d _ x => by rw [e.owed]) fun _ _ => rfl

/-- Packets to initiators, and what their sides keep, show in the accounts of the outbound queues alone. -/
theorem Accounts.told (a : Accounts w on h s) (e : Tells s t) (ho : ∀ p, on p → s.OutAt h p → t.OutAt h' p) : Accounts w on h' t := by
  have hups : t.ups = s.ups := by
    funext p
    unfold State.ups
    rw [e.link]
  refine ⟨a.count.congr e.requests fun v => by rw [e.units], ?_, fun hw => ?_, fun p hp => ho p hp (a.out p hp)⟩
  · refine a.tables.congr ⟨fun p d => ?_, fun p j => ?_, fun p => ?_⟩ fun _ _ _ _ _ _ => State.stands_same e.requests _ _ _ _ _
    · obtain ⟨more, -, e⟩ := e.port p; rw [e]
    · obtain ⟨more, -, e⟩ := e.port p; rw [e]
    · obtain ⟨more, hm, e⟩ := e.port p
      rw [e]
      unfold requestTags at hm ⊢
      dsimp only
      rw [List.filterMap_append, hm, List.append_nil]
  · obtain ⟨hwaits, hparks⟩ := a.waits hw
    rw [hups]
    exact ⟨hwaits.congr e.requests (fun v => by rw [e.units]) (fun n => by rw [e.meters]), fun v k hk => hparks v k (by rw [← e.units]; exact hk)⟩

theorem Tells.owed (e : Tells s t) (d : Domain) (x : Fin 32) : t.owed d x = s.owed d x := by
  unfold State.owed
  rw [e.requests, e.units]

end

end Sys2Proof.Machine
end

section
/-! PROOFS. What answers, notices, replies and faults keep of the accounts (R33, R120, R121, R131, R158, R160). -/

namespace Sys2Proof.Machine

open Sys2Proof

section
variable {w : Prop} {on : Port → Prop} {h h' : Hand} {s t : State} {p : Port}

/-! ### One initiator's side -/

/-- What is in hand changes for domain `e` alone. -/
def Hand.Others (e : Domain) (h h' : Hand) : Prop := ∀ d, d ≠ e → (∀ x, h'.tags d x ≤ h.tags d x) ∧ h'.cmd d = h.cmd d

theorem Hand.others_refl (e : Domain) (h : Hand) : h.Others e h := fun _ _ => ⟨fun _ => le_refl _, rfl⟩

/-- The initiator's side of `e` changes, and what is in hand for it. -/
theorem State.OutAt.noted {e : Domain} {f : InitState → InitState} (a : s.OutAt h p) (hh : h.Others e h')
    (hs : ∀ {out}, Said (fun x => h.tags e x + s.owed e x) (h.cmd e) (s.inits.get e) out →
      Said (fun x => h'.tags e x + s.owed e x) (h'.cmd e) (f (s.inits.get e)) out) : (s.modInit e f).OutAt h' p := by
  refine ⟨a.down, a.only, fun d hd => ?_⟩
  by_cases he : d = e
  · subst he
    rw [show (s.modInit d f).inits.get d = f (s.inits.get d) from PerDomain.get_set_same _ _ _]
    exact hs (a.said d hd)
  · rw [show (s.modInit e f).inits.get d = s.inits.get d from PerDomain.get_set_other _ _ he, (hh d he).2]
    exact (a.said d hd).mono fun x => Nat.add_le_add_right ((hh d he).1 x) _

/-- A packet to the initiator `e` is placed, and its side changes. -/
theorem State.OutAt.placed {e : Domain} {pkt : OutPacket} {f : InitState → InitState} (a : s.OutAt h p)
    (hup : (s.ports.get e.port).link = .up) (hh : h.Others e h')
    (hs : ∀ {out}, Said (fun x => h.tags e x + s.owed e x) (h.cmd e) (s.inits.get e) out →
      Said (fun x => h'.tags e x + s.owed e x) (h'.cmd e) (f (s.inits.get e)) (out ++ [pkt])) :
    ((placeOut e.port pkt s).modInit e f).OutAt h' p := by
  rw [placeOut_up hup]
  have hget (q : Port) : ((withOut e.port [pkt] s).modInit e f).ports.get q = if q = e.port then
      { s.ports.get e.port with outbound := (s.ports.get e.port).outbound ++ [pkt] } else s.ports.get q := PerPort.get_set _ _ _ _
  have hinit (d : Domain) : ((withOut e.port [pkt] s).modInit e f).inits.get d = if d = e then f (s.inits.get e) else s.inits.get d :=
    PerDomain.get_set _ _ _ _
  by_cases hp : p = e.port
  · subst hp
    refine ⟨fun hdown => ?_, fun hno => ?_, fun d hd => ?_⟩
    · rw [hget, if_pos rfl] at hdown
      exact absurd hup hdown
    · rw [Domain.port_domain] at hno
      cases hno
    · obtain rfl := Domain.port_inj hd
      rw [hget, if_pos rfl, hinit, if_pos rfl]
      exact hs (a.said e rfl)
  · have hne (d : Domain) (hd : p = d.port) : d ≠ e := fun e' => hp (e' ▸ hd)
    refine a.congr (by rw [hget, if_neg hp]) (by rw [hget, if_neg hp]) (fun d hd => by rw [hinit, if_neg (hne d hd)]) (fun d hd x => ?_)
      fun d hd => (hh d (hne d hd)).2
    exact Nat.add_le_add_right ((hh d (hne d hd)).1 x) _

theorem Accounts.noted {e : Domain} {f : InitState → InitState} (a : Accounts w on h s) (hh : h.Others e h')
    (hs : ∀ {out}, Said (fun x => h.tags e x + s.owed e x) (h.cmd e) (s.inits.get e) out →
      Said (fun x => h'.tags e x + s.owed e x) (h'.cmd e) (f (s.inits.get e)) out) : Accounts w on h' (s.modInit e f) :=
  a.told (Tells.modInit e f s) fun _ _ b => b.noted hh hs

theorem Accounts.placed {e : Domain} {pkt : OutPacket} {f : InitState → InitState} (a : Accounts w on h s) (hpkt : requestTags [pkt] = [])
    (hup : (s.ports.get e.port).link = .up) (hh : h.Others e h')
    (hs : ∀ {out}, Said (fun x => h.tags e x + s.owed e x) (h.cmd e) (s.inits.get e) out →
      Said (fun x => h'.tags e x + s.owed e x) (h'.cmd e) (f (s.inits.get e)) (out ++ [pkt])) :
    Accounts w on h' ((placeOut e.port pkt s).modInit e f) :=
  a.told ((Tells.placeOut hpkt s).trans (Tells.modInit e f _)) fun _ _ b => b.placed hup hh hs

/-- A packet is placed and the initiator's side stays. -/
theorem modInit_id (e : Domain) (s : State) : s.modInit e id = s := by
  unfold State.modInit
  rw [show id (s.inits.get e) = s.inits.get e from rfl, PerDomain.set_get]

/-! ### Answers -/

/-- The answer in hand is given (R33, R71). -/
theorem State.OutAt.answerTo {d : Domain} {tag : Option (Fin 32)} (a : s.OutAt h p)
    (ht : ∀ e x, h'.tags e x + owes d tag e x ≤ h.tags e x) (hc : ∀ e, h'.cmd e = h.cmd e) (st : AnswerStatus) (data : List Byte) :
    (answerTo d tag st data s).OutAt h' p := by
  have hle (e : Domain) (x : Fin 32) : h'.tags e x ≤ h.tags e x := (Nat.le_add_right _ _).trans (ht e x)
  cases tag with
  | none => exact a.mono hle hc
  | some y =>
    by_cases hup : (s.ports.get d.port).link = .up
    · have hkey := a.placed (f := id) (pkt := .completion y st data) (e := d) (h' := h') hup (fun e _ => ⟨hle e, hc e⟩) fun {out} b => by
        rw [hc]
        refine b.completion (fun x => ?_) st data
        have := ht d x
        unfold owes at this
        simp only [true_and, Option.some.injEq] at this
        by_cases hx : x = y
        · rw [if_pos hx.symm] at this
          rw [if_pos hx]
          omega
        · rw [if_neg (Ne.symm hx)] at this
          rw [if_neg hx]
          omega
      rw [modInit_id] at hkey
      exact hkey
    · rw [show Machine.answerTo d (some y) st data s = s from placeOut_notUp hup]
      exact a.mono hle hc

theorem Accounts.answerTo {d : Domain} {tag : Option (Fin 32)} (a : Accounts w on h s)
    (ht : ∀ e x, h'.tags e x + owes d tag e x ≤ h.tags e x) (hc : ∀ e, h'.cmd e = h.cmd e) (st : AnswerStatus) (data : List Byte) :
    Accounts w on h' (answerTo d tag st data s) :=
  a.told (Tells.answerTo _ _ _ _ _) fun _ _ b => b.answerTo ht hc st data

/-! ### Gate events and faults -/

theorem Accounts.handFaultNotice (a : Accounts w on h s) (d : Domain) : Accounts w on h (handFaultNotice d s) := by
  unfold Machine.handFaultNotice
  split
  · rename_i hup
    exact a.placed rfl ((State.isUp_iff _ _).mp hup.1) (Hand.others_refl d h) fun b => b.faultNotice hup.2
  · exact a

theorem Accounts.handCustodyNotice (a : Accounts w on h s) (d : Domain) : Accounts w on h (handCustodyNotice d s) := by
  unfold Machine.handCustodyNotice
  split
  · rename_i he
    have hne : (s.inits.get d).custodyNotice ≠ .waiting := fun e => by rw [show (s.inits.get d).custodyNotice = .empty from he] at e; cases e
    split
    · rename_i hup
      exact a.placed rfl ((State.isUp_iff _ _).mp hup) (Hand.others_refl d h) fun b => b.custodyNotice hne
    · exact a.noted (Hand.others_refl d h) fun b => b.custodyHeld hne
  · exact a
  · exact a

theorem Accounts.foldl {α : Type} {f : State → α → State} (hf : ∀ s x, Accounts w on h s → Accounts w on h (f s x)) (l : List α)
    (a : Accounts w on h s) : Accounts w on h (l.foldl f s) := by
  induction l generalizing s with
  | nil => exact a
  | cons x xs ih => exact ih (hf s x a)

theorem Accounts.sendNotices (a : Accounts w on h s) (b c : Resting) : Accounts w on h (sendNotices b c s) :=
  a.foldl (f := fun t d => Machine.handCustodyNotice d t) (fun _ d a => a.handCustodyNotice d) _

theorem Same.setArmed (d : Domain) (b : Bool) (s : State) : Same s (setArmed d b s) := by
  cases d <;> exact of_eq rfl rfl rfl rfl rfl

theorem Same.setSupQ (q : FaultQueue FullRecord) (s : State) : Same s (s.setSupQ q) := of_eq rfl rfl rfl rfl rfl

theorem Same.setOwnQ (x : Scored) (q : FaultQueue ReducedRecord) (s : State) : Same s (s.setOwnQ x q) := of_eq rfl rfl rfl rfl rfl

theorem Same.modScore (x : Scored) (f : ScoreRecord → ScoreRecord) (s : State) : Same s (s.modScore x f) := of_eq rfl rfl rfl rfl rfl

theorem Same.modDomain (d : Domain) (f : DomainRecord → DomainRecord) (s : State) : Same s (s.modDomain d f) := of_eq rfl rfl rfl rfl rfl

theorem Same.setCommit (v : Option Commit) (s : State) : Same s (s.setCommit v) := of_eq rfl rfl rfl rfl rfl

theorem Accounts.tellReader (a : Accounts w on h s) (d : Domain) : Accounts w on h (tellReader d s) :=
  (a.same (Same.setArmed d false s)).handFaultNotice d

theorem Accounts.afterPlacing (a : Accounts w on h s) (d : Domain) (n : Nat) : Accounts w on h (afterPlacing d n s) := by
  unfold Machine.afterPlacing
  split
  · exact a.tellReader d
  · exact a

theorem Accounts.recordFault (a : Accounts w on h s) (e : FaultEvent) : Accounts w on h (recordFault e s) := by
  unfold Machine.recordFault
  split
  · split
    · exact (a.same (.setOwnQ _ _ _)).afterPlacing _ _
    · exact (a.same (.setSupQ _ _)).afterPlacing _ _
  · exact a

theorem Accounts.judgeAdvisory (a : Accounts w on h s) (x : Scored) : Accounts w on h (judgeAdvisory x s) := by
  unfold Machine.judgeAdvisory
  dsimp only
  split
  · exact a
  · split
    · exact a.same (.modScore _ _ _)
    · split
      · exact (a.same (.modScore _ _ _)).recordFault _
      · exact a

theorem Accounts.judgeQuarantine (a : Accounts w on h s) (x : Scored) : Accounts w on h (judgeQuarantine x s) := by
  unfold Machine.judgeQuarantine
  dsimp only
  split
  · exact (a.same (.modDomain _ _ _)).recordFault _
  · exact a

/-- A fault shows in the accounts by its notices alone (R126). -/
theorem Accounts.raiseFault (a : Accounts w on h s) (e : FaultEvent) : Accounts w on h (raiseFault e s) := by
  unfold Machine.raiseFault chargeFault
  have b := a.recordFault e
  split
  · split
    · exact ((b.same (.modScore _ _ _)).judgeAdvisory _).judgeQuarantine _
    · exact b
  · exact b

theorem Accounts.denyRequest {q : Arrival} (a : Accounts w on h s) (ht : ∀ e x, h'.tags e x + owes q.dom q.tag e x ≤ h.tags e x)
    (hc : ∀ e, h'.cmd e = h.cmd e) (c : FaultClass) (e : Option EntryCopy) (u : Option (Fin 8)) (style : Style) :
    Accounts w on h' (denyRequest c q e u style s) := by
  unfold Machine.denyRequest
  split
  · exact ((a.answerTo ht hc _ _).same (.setFlag _ _ _)).raiseFault _
  · exact ((a.answerTo ht hc _ _).same (.setFlag _ _ _)).raiseFault _

/-! ### Commands and replies (R158, R160) -/

/-- The command of domain `e` in hand, with the answers owed. -/
def Hand.taking (e : Domain) (t : Option (Fin 4)) (h : Hand) : Hand := ⟨h.tags, fun d => if d = e then t else h.cmd d⟩

theorem Hand.taking_others (e : Domain) (t : Option (Fin 4)) (h : Hand) : h.Others e (h.taking e t) :=
  fun _ hd => ⟨fun _ => le_refl _, if_neg hd⟩

@[simp] theorem Hand.taking_cmd (e : Domain) (t : Option (Fin 4)) (h : Hand) : (h.taking e t).cmd e = t := if_pos rfl

@[simp] theorem Hand.taking_tags (e : Domain) (t : Option (Fin 4)) (h : Hand) : (h.taking e t).tags = h.tags := rfl

@[simp] theorem Hand.taking_taking (e : Domain) (t t' : Option (Fin 4)) (h : Hand) : (h.taking e t).taking e t' = h.taking e t' := by
  unfold Hand.taking
  congr 1
  funext d
  dsimp only
  split <;> rfl

@[simp] theorem Hand.empty_taking_none (e : Domain) : Hand.empty.taking e none = Hand.empty := by
  unfold Hand.taking Hand.empty
  congr 1
  funext d
  dsimp only
  split <;> rfl

/-- The command in hand is replied to; where the port is not UP the reply is lost (R160). -/
theorem Accounts.reply {d : Domain} {t : Fin 4} (a : Accounts w on h s) (hc : h.cmd d = some t) (st : ReplyStatus) (res : List Byte) :
    Accounts w on (h.taking d none) (reply d t st res s) := by
  by_cases hup : (s.ports.get d.port).link = .up
  · have hkey := a.placed (f := id) (pkt := .reply t st res) rfl hup (h.taking_others d none) fun {out} b => by
      rw [hc] at b
      rw [Hand.taking_cmd]
      exact b.reply st res
    rw [modInit_id] at hkey
    exact hkey
  · rw [show Machine.reply d t st res s = s from placeOut_notUp hup]
    have hkey := a.noted (f := id) (h.taking_others d none) fun {out} b => by
      rw [Hand.taking_cmd]
      exact b.forget
    rw [modInit_id] at hkey
    exact hkey

/-- A block starts to carry the command in hand (R158). -/
theorem Accounts.carryCommand {d : Domain} {t : Fin 4} (a : Accounts w on h s) (hc : h.cmd d = some t) (c : Carrier) :
    Accounts w on (h.taking d none) (carryCommand d t c s) :=
  a.noted (h.taking_others d none) fun {out} b => by
    rw [hc] at b
    rw [Hand.taking_cmd]
    exact b.carry c

/-- The engine takes a command whose tag is not in use (R158). -/
theorem Accounts.enterCommand {d : Domain} {t : Fin 4} (a : Accounts w on h s) (hno : tagInUse s d t = false) (code : Byte) :
    Accounts w on (h.taking d (some t)) (enterCommand d t code s) :=
  a.noted (h.taking_others d (some t)) fun {out} b => by
    rw [Hand.taking_cmd]
    refine b.enter (fun c hc hd e => ?_) code
    simp only [tagInUse, State.init, List.any_eq_false, Bool.and_eq_true, Bool.not_eq_true', decide_eq_true_eq, not_and] at hno
    exact hno c hc hd e

/-- A long command of P ends (R158, R161). -/
theorem Accounts.endCommand (a : Accounts w on h s) (c : Carrier) (st : ReplyStatus) (res : List Byte) :
    Accounts w on h (endCommand c st res s) := by
  unfold Machine.endCommand
  split
  · exact a
  · rename_i x hf
    have hmem : x ∈ (s.inits.get .pay).commands := List.mem_of_find?_eq_some hf
    have hcar : x.carrier = some c := by simpa using List.find?_some hf
    split
    · exact a.noted (Hand.others_refl .pay h) fun b => b.dropped c
    · rename_i hd
      have hd : x.discard = false := Bool.eq_false_iff.mpr hd
      by_cases hup : (s.ports.get Domain.pay.port).link = .up
      · have hkey := a.placed (e := .pay) (pkt := .reply x.tag st res) (h' := h)
          (f := fun v => { v with commands := v.commands.map (fun y => if y.carrier = some c then { y with carrier := none } else y) }) rfl hup
          (Hand.others_refl .pay h) fun {out} b => b.endReply hmem hcar hd st res
        unfold Machine.reply
        rw [placeOut_up hup] at hkey
        rw [placeOut_up (by exact hup)]
        exact hkey
      · unfold Machine.reply
        rw [placeOut_notUp (by exact hup)]
        exact a.noted (Hand.others_refl .pay h) fun b => b.uncarried c

theorem Accounts.abortCommit (a : Accounts w on h s) : Accounts w on h (abortCommit s) := by
  unfold Machine.abortCommit
  split
  · exact (a.same (.setCommit _ _)).endCommand _ _ _
  · exact a

end

end Sys2Proof.Machine
end

section
/-! PROOFS. What the tracker keeps of the accounts of the outbound queues (R50, R56, R71). -/

namespace Sys2Proof.Machine

open Sys2Proof

section
variable {w : Prop} {on : Port → Prop} {h h' : Hand} {s t : State} {p : Port} {cuts : Prop}

/-- One record is replaced by one that owes the same. -/
theorem owedRequests_replaced {l : List Request} (hn : (l.map (fun r => r.id)).Nodup) {r r' : Request} (hr : r ∈ l)
    (hf : r'.dom = r.dom ∧ r'.tag = r.tag ∧ r'.abandoned = r.abandoned) (d : Domain) (x : Fin 32) :
    owedRequests (replaced r r' l) d x = owedRequests l d x := by
  have hkey := sum_map_replace (key := fun r : Request => r.id) (Request.owes d x) (fun _ => r') hn hr
  have hsame : r'.owes d x = r.owes d x := by
    unfold Request.owes
    rw [hf.1, hf.2.1, hf.2.2]
  rw [hsame] at hkey
  exact Nat.add_right_cancel hkey

/-- What is owed reads the records and the parked requests alone. -/
theorem State.owed_of (hr : ∀ d x, owedRequests t.requests d x = owedRequests s.requests d x)
    (hu : ∀ u, (t.units.get u).parked = (s.units.get u).parked) (d : Domain) (x : Fin 32) : t.owed d x = s.owed d x := by
  unfold State.owed
  rw [hr, Finset.sum_congr rfl fun u _ => by rw [hu]]

theorem State.CountLaw.owed_replaced (hs : s.CountLaw) {r r' : Request} (hr : r ∈ s.requests) (ht : t.requests = replaced r r' s.requests)
    (hu : ∀ u, (t.units.get u).parked = (s.units.get u).parked) (hf : r'.dom = r.dom ∧ r'.tag = r.tag ∧ r'.abandoned = r.abandoned)
    (d : Domain) (x : Fin 32) : t.owed d x = s.owed d x :=
  State.owed_of (fun d x => by rw [ht]; exact owedRequests_replaced hs.ids hr hf d x) hu d x

theorem countOut_parked (u : Option (Fin 8)) (n : Nat) (s : State) (v : Fin 8) :
    ((countOut u n s).units.get v).parked = (s.units.get v).parked := by
  obtain ⟨k, e⟩ := (Confined.countOut u n s).unit v
  rw [e]

theorem leavePlace_link (r : Request) (c : Piece) (v : PortState) : (leavePlace r c v).link = v.link := by
  unfold leavePlace
  cases c.state <;> cases c.ttag <;> rfl

/-- What leaves with a piece says nothing to an initiator. -/
theorem leavePlace_out (r : Request) (c : Piece) (v : PortState) :
    speech (leavePlace r c v).outbound = speech v.outbound ∧ ∀ pkt ∈ (leavePlace r c v).outbound, pkt ∈ v.outbound := by
  unfold leavePlace
  cases c.state with
  | granted =>
    cases c.ttag with
    | none => exact ⟨rfl, fun _ h => h⟩
    | some j => exact ⟨speech_dropOut j v.outbound, fun _ h => (List.mem_filter.mp h).1⟩
  | sent => cases c.ttag <;> exact ⟨rfl, fun _ h => h⟩
  | queued => exact ⟨rfl, fun _ h => h⟩
  | charging => exact ⟨rfl, fun _ h => h⟩
  | resolved st => exact ⟨rfl, fun _ h => h⟩
  | removed => exact ⟨rfl, fun _ h => h⟩

/-- A record that ends is answered (R71). -/
theorem State.OutAt.finishRequest (hs : s.CountLaw) (a : s.OutAt h p) (id : Nat) : (finishRequest id s).OutAt h p := by
  unfold Machine.finishRequest
  cases hr : s.request id with
  | none => exact a
  | some r =>
    obtain ⟨hmem, rfl⟩ := request_some hr
    dsimp only
    split
    · let due : Hand := ⟨fun d x => h.tags d x + r.owes d x, h.cmd⟩
      have hrel : (s.setRequests (s.requests.filter (fun x => decide (x.id ≠ r.id)))).OutAt due p := by
        refine a.congr rfl rfl (fun _ _ => rfl) (fun d _ x => ?_) fun _ _ => rfl
        have := owedRequests_filter hs.ids hmem d x
        show h.tags d x + r.owes d x + (owedRequests (s.requests.filter _) d x + ∑ u, owedParked (s.units.get u).parked d x) ≤
          h.tags d x + (owedRequests s.requests d x + ∑ u, owedParked (s.units.get u).parked d x)
        rw [← this]
        omega
      split
      · exact hrel.mono (fun d x => Nat.le_add_right _ _) fun _ => rfl
      · rename_i hab
        have hlast (e : Domain) (x : Fin 32) : h.tags e x + owes r.dom r.tag e x ≤ due.tags e x := by
          refine Nat.add_le_add_left (le_of_eq ?_) _
          unfold Request.owes
          rw [if_neg hab]
        exact hrel.answerTo hlast (fun _ => rfl) _ _
    · exact a

theorem State.OutAt.track (hs : s.CountLaw) (a : s.OutAt h p) (g : Track True cuts s t) : t.OutAt h p := by
  cases g with
  | ends r c st hst _ hq =>
    obtain ⟨q, hq, hid, htarget, hdom, hc, hl⟩ := hq trivial
    have hrun := endPiece_vacate (st := st) (v := r) (hs.lone hq) ((hs.counted hq).lonePiece hc) hl
    rw [hid] at hrun
    rw [hrun]
    have howed := hs.owed_replaced (t := { s with
        requests := replaced q (q.ended c st) s.requests
        units := (countOut q.unit 1 s).units
        ports := s.ports.set r.target (leavePlace r c (s.ports.get r.target)) }) hq rfl (countOut_parked _ _ _) ⟨rfl, rfl, rfl⟩
    have hget : (s.ports.set r.target (leavePlace r c (s.ports.get r.target))).get p =
        if p = r.target then leavePlace r c (s.ports.get r.target) else s.ports.get p := PerPort.get_set _ _ _ _
    obtain ⟨hsay, hsub⟩ := leavePlace_out r c (s.ports.get r.target)
    refine a.heard ?_ ?_ (fun pkt hpkt => .inl ?_) (fun _ _ => rfl) (fun d _ x => by rw [howed]) fun _ _ => rfl
    · dsimp only
      rw [hget]
      split
      · rename_i e; rw [e, leavePlace_link]
      · rfl
    · dsimp only
      rw [hget]
      split
      · rename_i e; rw [e, hsay]
      · rfl
    · dsimp only at hpkt
      rw [hget] at hpkt
      split at hpkt
      · rename_i e; rw [e]; exact hsub pkt hpkt
      · exact hpkt
  | queues r c hf hc hup =>
    obtain ⟨hr, -, hcm, -⟩ := piece_some hf
    rw [setPiece_lone (hs.lone hr) ((hs.counted hr).lonePiece hcm) (fun y => { y with state := .queued })]
    have howed := hs.owed_replaced (t := enqueuePiece r.target r.dom ⟨r.id, c.num⟩
      { s with requests := replaced r { r with pieces := replacedPiece c { c with state := .queued } r.pieces } s.requests })
      hr rfl (fun _ => rfl) ⟨rfl, rfl, rfl⟩
    refine a.congr ?_ ?_ (fun _ _ => rfl) (fun d _ x => by rw [howed]) fun _ _ => rfl
    · show ((s.ports.set r.target _).get p).link = _
      rw [PerPort.get_set]
      split
      · rename_i e; rw [e]
      · rfl
    · show ((s.ports.set r.target _).get p).outbound = _
      rw [PerPort.get_set]
      split
      · rename_i e; rw [e]
      · rfl
  | finishes r => exact a.finishRequest hs r.id
  | meters m => exact a.congr rfl rfl (fun _ _ => rfl) (fun _ _ _ => le_refl _) fun _ _ => rfl
  | flags v => exact a.congr rfl rfl (fun _ _ => rfl) (fun _ _ _ => le_refl _) fun _ _ => rfl

theorem State.OutAt.tracks (hs : s.CountLaw) (a : s.OutAt h p) (g : Tracks True cuts s t) : t.OutAt h p := by
  induction g with
  | refl => exact a
  | tail m g ih => exact ih.track (Tracks.countLaw m (fun _ => hs) trivial) g

/-- The tracker keeps the accounts, where it keeps those of the waiting lists. -/
theorem Accounts.tracks (a : Accounts w on h s) (g : Tracks True cuts s t) (hw : w → Waits t.ups none t) : Accounts w on h t := by
  have hconf := Confined.tracks g
  refine ⟨g.countLaw (fun _ => a.count) trivial, g.tables a.count a.tables, fun hh => ⟨hw hh, fun u k hk => ?_⟩,
    fun p hp => (a.out p hp).tracks a.count g⟩
  obtain ⟨m, e⟩ := hconf.unit u
  rw [e] at hk
  rw [hconf.ups]
  exact (a.waits hh).2 u k hk

end

end Sys2Proof.Machine
end

section
/-! PROOFS. What the tracker keeps of the accounts of the waiting lists (R70, R82, R83, R89). -/

namespace Sys2Proof.Machine

open Sys2Proof

section
variable {up : Port → Prop} {x : Option Nat} {s t : State} {id : Nat}

/-! ### Pieces that end, and requests that leave their list -/

/-- The pieces of one record end; it may have none left CHARGING. -/
theorem Waits.endPieces (h : Waits up none s) (id : Nat) {f : PieceState → Bool} {st : PieceState} (hst : st.live = false)
    (hf : ∀ x, f x = true → x.live = true) : Waits up (some id) (endPieces id f st s) := by
  have hcount : (Machine.endPieces id f st s).CountLaw := h.count.moves (Moves.endPieces id f hst s)
  cases hr : s.request id with
  | none =>
    unfold Machine.endPieces
    rw [hr]
    exact h.weaken _
  | some r =>
    obtain ⟨hmem, rfl⟩ := request_some hr
    have hrun := endPieces_lone (f := f) (st := st) (h.count.lone hmem) (h.count.counted hmem).1 fun c _ => hf c.state
    rw [hrun] at hcount ⊢
    refine h.replace (r' := r.endedBy f st) hmem rfl rfl rfl rfl rfl (fun e => e) hcount (fun _ => List.Sublist.refl _)
      (fun _ _ _ _ _ => by simp) fun n hn => ⟨fun hy => absurd rfl hy, fun hd c hc hl => ?_⟩
    obtain ⟨-, -, hch⟩ := h.meter_of_listed hmem hn
    exact hch hd c (endedPieces_mem hst hc hl).1 hl

/-- One piece that is not CHARGING ends in its place. -/
theorem Waits.endPiece (h : Waits up none s) {r : Request} {c : Piece} {st : PieceState} (hst : st.live = false) (hr : r ∈ s.requests)
    (hc : c ∈ r.pieces) (hl : c.state.live = true) (hch : c.state ≠ .charging) :
    Waits up none (endPiece ⟨r.id, c.num⟩ st (vacate r c s)) := by
  have hcount : (Machine.endPiece ⟨r.id, c.num⟩ st (vacate r c s)).CountLaw :=
    h.count.moves ((Moves.vacate r c s).trans (Moves.endPiece hst _))
  have hrun := endPiece_vacate (st := st) (v := r) (h.count.lone hr) ((h.count.counted hr).lonePiece hc) hl
  rw [hrun] at hcount ⊢
  refine h.replace (r' := r.ended c st) hr rfl rfl rfl rfl rfl id hcount (fun _ => List.Sublist.refl _)
    (fun _ _ _ _ _ => by simp) fun n hn => ?_
  obtain ⟨-, hsome, hall⟩ := h.meter_of_listed hr hn
  obtain ⟨y, hy, hys⟩ := hsome (by simp)
  have hyc : y.num ≠ c.num := fun e => hch ((h.count.counted hr).piece_eq hc hy e ▸ hys)
  refine ⟨fun _ => ⟨y, List.mem_map.mpr ⟨y, hy, if_neg hyc⟩, hys⟩, fun hd z hz hzl => ?_⟩
  obtain ⟨z0, hz0, rfl⟩ := List.mem_map.mp hz
  by_cases he : z0.num = c.num
  · rw [if_pos he] at hzl
    exact absurd (hst.symm.trans hzl) Bool.false_ne_true
  · rw [if_neg he] at hzl ⊢
    exact hall hd z0 hz0 hzl

/-- A request that is on no list needs no piece CHARGING. -/
theorem Waits.unlisted (h : Waits up (some id) s) (hno : ∀ n : Fin 16, id ∉ (s.meters.get n).waiting) : Waits up none s := by
  refine ⟨h.count, h.nodup, fun n i hi => ?_, h.opened⟩
  obtain ⟨r, hr, e, hm, hch, hup⟩ := h.listed n i hi
  exact ⟨r, hr, e, hm, fun _ => hch fun e => hno n (Option.some.inj e ▸ hi), hup⟩

theorem leaveMeter_waiting (r : Request) (s : State) (n : Fin 16) : ((leaveMeter r s).meters.get n).waiting.Sublist (s.meters.get n).waiting ∧
    (r.meter = some n → r.id ∉ ((leaveMeter r s).meters.get n).waiting) ∧
    ∀ i ∈ (s.meters.get n).waiting, i ≠ r.id → i ∈ ((leaveMeter r s).meters.get n).waiting := by
  rw [leaveMeter_meters, metersWithout_get]
  split
  · rename_i hm
    refine ⟨List.filter_sublist, fun _ hid => ?_, fun i hi hne => List.mem_filter.mpr ⟨hi, by simpa using hne⟩⟩
    have := (List.mem_filter.mp hid).2
    simp at this
  · rename_i hm
    exact ⟨List.Sublist.refl _, fun e => absurd e hm, fun i hi _ => hi⟩

/-- The request leaves its list (R89). -/
theorem Waits.leaveMeter {r : Request} (h : Waits up (some r.id) s) (hr : ∃ q ∈ s.requests, q.id = r.id ∧ q.meter = r.meter) :
    Waits up none (leaveMeter r s) ∧ ∀ n : Fin 16, r.id ∉ ((leaveMeter r s).meters.get n).waiting := by
  obtain ⟨q, hq, hid, hmeter⟩ := hr
  have hno (n : Fin 16) : r.id ∉ ((Machine.leaveMeter r s).meters.get n).waiting := fun hn => by
    obtain ⟨hsub, hgone, -⟩ := leaveMeter_waiting r s n
    have hl := hsub.subset hn
    rw [← hid] at hl
    exact hgone (hmeter.symm.trans (h.meter_of_listed hq hl).1) hn
  have hreq : (Machine.leaveMeter r s).requests = s.requests := by rw [leaveMeter_meters]
  refine ⟨Waits.unlisted (id := r.id) ⟨h.count.moves (Moves.leaveMeter r s), fun n => (h.nodup n).sublist (leaveMeter_waiting r s n).1,
    fun n i hi => ?_, fun q hq => h.opened q (hreq ▸ hq)⟩ hno, hno⟩
  rw [hreq]
  exact h.listed n i ((leaveMeter_waiting r s n).1.subset hi)

/-- A record and its meter stay while its pieces end. -/
theorem endPieces_stays (hs : s.CountLaw) {r : Request} (hr : r ∈ s.requests) {f : PieceState → Bool} (hf : ∀ x, f x = true → x.live = true)
    (st : PieceState) : ∃ q ∈ (endPieces r.id f st s).requests, q.id = r.id ∧ q.meter = r.meter := by
  rw [endPieces_lone (f := f) (st := st) (hs.lone hr) (hs.counted hr).1 fun c _ => hf c.state]
  exact ⟨r.endedBy f st, (mem_replaced hr).mpr (.inl rfl), rfl, rfl⟩

/-- What is unsent of a request is removed, and it leaves its list (R70). -/
theorem Waits.removeUnsent (h : Waits up none s) (id : Nat) : Waits up none (removeUnsent id s) := by
  unfold Machine.removeUnsent
  split
  · exact h
  · rename_i r hr
    obtain ⟨hmem, rfl⟩ := request_some hr
    exact ((h.endPieces r.id rfl fun _ => PieceState.unsent_live).leaveMeter
      (endPieces_stays h.count hmem (fun _ => PieceState.unsent_live) .removed)).1

/-- A request on a list is not over (R56, R82). -/
theorem Waits.listed_outstanding (h : Waits up none s) {r : Request} (hr : r ∈ s.requests) (h0 : r.outstanding = 0) (n : Fin 16) :
    r.id ∉ (s.meters.get n).waiting := fun hn => by
  obtain ⟨-, hsome, -⟩ := h.meter_of_listed hr hn
  obtain ⟨c, hc, hch⟩ := hsome (by simp)
  have := h.count.ended_of_outstanding hr h0 c hc
  rw [hch] at this
  cases this

/-- A request with nothing outstanding ends; it is on no list (R71). -/
theorem Waits.finishRequest (h : Waits up none s) (id : Nat) : Waits up none (finishRequest id s) := by
  have hcount : (Machine.finishRequest id s).CountLaw := h.count.moves (Moves.finishRequest id s)
  cases hr : s.request id with
  | none =>
    unfold Machine.finishRequest
    rw [hr]
    exact h
  | some r =>
    obtain ⟨hmem, rfl⟩ := request_some hr
    by_cases h0 : r.outstanding = 0
    · have hreq : (Machine.finishRequest r.id s).requests = s.requests.filter (fun q => decide (q.id ≠ r.id)) := by
        unfold Machine.finishRequest
        rw [hr]
        dsimp only
        rw [if_pos h0]
        split
        · rfl
        · exact (Tells.answerTo _ _ _ _ _).requests
      refine h.release hreq hcount (fun n => by rw [finishRequest_meters]) fun n i hi => ⟨?_, fun _ e => nomatch e⟩
      rw [finishRequest_meters] at hi
      rintro rfl
      exact h.listed_outstanding hmem h0 n hi
    · unfold Machine.finishRequest at hcount ⊢
      rw [hr] at hcount ⊢
      dsimp only at hcount ⊢
      rw [if_neg h0] at hcount ⊢
      exact h

/-- A POST is taken from its list (R83). -/
theorem Waits.takeOffPost (h : Waits up none s) {r : Request} (hr : r ∈ s.requests) : Waits up none (takeOffPost r s) := by
  have hleft := (h.endPieces r.id (f := fun st => decide (st = .charging)) (st := .removed) rfl fun _ => Tracks.charging_live).leaveMeter
    (endPieces_stays h.count hr (fun _ => Tracks.charging_live) .removed)
  exact (hleft.1.congr (t := setFlag r.dom .throttled _) rfl (fun _ => rfl) fun _ => rfl).finishRequest _

/-- A piece that has left its place fails (R70, R89). -/
theorem Waits.failPiece (h : Waits s.ups none s) {r : Request} {c : Piece} (hr : r ∈ s.requests) (hc : c ∈ r.pieces)
    (hl : c.state.live = true) (st : PieceStatus) :
    Waits (failPiece ⟨r.id, c.num⟩ st s).ups none (failPiece ⟨r.id, c.num⟩ st s) := by
  have hb : Waits (failedIn r c st s).ups none (failedIn r c st s) := by
    rw [failedIn_ups]
    exact h.failed hr hc hl
  obtain ⟨-, hx⟩ := hb.evalNewHeads s
  have hrun : Machine.failPiece ⟨r.id, c.num⟩ st s = Machine.finishRequest r.id (Machine.evalNewHeads s (failedIn r c st s)) := by
    unfold Machine.failPiece failedIn
    dsimp only
    rw [removeUnsent_endPiece (h.count.lone hr) (h.count.counted hr) hc hl]
  rw [hrun, Confined.ups (Confined.finishRequest _ _)]
  exact hx.finishRequest _

end

end Sys2Proof.Machine
end

section
/-! PROOFS. What an admitted request leaves of the accounts (R31, R49, R56, R82, R83). -/

namespace Sys2Proof.Machine

open Sys2Proof

section
variable {up : Port → Prop} {x : Option Nat} {s t : State} {r : Request} {n : Fin 16}

/-! ### The waiting lists -/

theorem Quiet.ups (h : Quiet s t) : t.ups = s.ups := by
  funext p
  unfold State.ups
  rw [h.link]

/-- A new record is on no list. -/
theorem Waits.fresh (h : Waits up x s) (hnew : NewRecord s r) (n : Fin 16) : r.id ∉ (s.meters.get n).waiting := fun hn => by
  obtain ⟨q, hq, e, -⟩ := h.listed n r.id hn
  exact hnew.fresh q hq e

theorem withNew_moves (hnew : NewRecord s r) : Moves true s (withNew r s) := .one (.enter s r rfl hnew)

theorem withNew_ups (r : Request) (s : State) : (withNew r s).ups = s.ups := by
  funext p
  unfold State.ups
  rw [withNew_ports]

theorem Waits.withNew (h : Waits up none s) (hnew : NewRecord s r) (hdom : r.abandoned = false → up r.dom.port) :
    Waits up none (withNew r s) := by
  refine ⟨h.count.moves (withNew_moves hnew), fun n => by rw [withNew_meters]; exact h.nodup n, fun n i hi => ?_, fun q hq hab => ?_⟩
  · rw [withNew_meters] at hi
    obtain ⟨q, hq, rest⟩ := h.listed n i hi
    exact ⟨q, by rw [withNew_requests]; exact List.mem_append_left _ hq, rest⟩
  · rw [withNew_requests] at hq
    rcases List.mem_append.mp hq with hold | hin
    · exact h.opened q hold hab
    · rw [List.mem_singleton.mp hin] at hab ⊢
      exact hdom hab

/-- A request that is on no list joins the end of its meter's. -/
theorem Waits.appendWaiting (h : Waits up none s) (hr : r ∈ s.requests) (hm : r.meter = some n) (hch : ∀ c ∈ r.pieces, c.state = .charging)
    (hne : r.pieces ≠ []) (hno : r.id ∉ (s.meters.get n).waiting) : Waits up none (appendWaiting n r.id s) := by
  have hget (m : Fin 16) : ((Machine.appendWaiting n r.id s).meters.get m).waiting =
      (s.meters.get m).waiting ++ if m = n then [r.id] else [] := by
    unfold Machine.appendWaiting State.modMeter
    rw [setAt_get]
    split
    · rename_i e; rw [e]
    · rw [List.append_nil]
  refine ⟨h.count.moves (Moves.appendWaiting n r.id s), fun m => ?_, fun m i hi => ?_, h.opened⟩
  · rw [hget]
    split
    · rename_i e
      subst e
      exact List.nodup_append.mpr ⟨h.nodup m, List.nodup_singleton _, fun a ha b hb => by
        rw [List.mem_singleton.mp hb]; rintro rfl; exact hno ha⟩
    · rw [List.append_nil]; exact h.nodup m
  · rw [hget] at hi
    rcases List.mem_append.mp hi with hold | hin
    · exact h.listed m i hold
    · split at hin
      · rename_i e
        obtain ⟨c, hc⟩ := List.exists_mem_of_ne_nil _ hne
        rw [List.mem_singleton.mp hin, e]
        exact ⟨r, hr, rfl, hm, fun _ => ⟨c, hc, hch c hc⟩, fun _ c hc _ => hch c hc⟩
      · cases hin

/-- Another record stays when a POST is taken from its list. -/
theorem takeOffPost_other (hs : s.CountLaw) {q : Request} (hq : q ∈ s.requests) (hr : r ∈ s.requests) (hne : r.id ≠ q.id) :
    r ∈ (takeOffPost q s).requests ∧ ∀ n : Fin 16, ((takeOffPost q s).meters.get n).waiting.Sublist (s.meters.get n).waiting := by
  have hend := endPieces_lone (f := fun st => decide (st = .charging)) (st := .removed) (hs.lone hq) (hs.counted hq).1
    fun c _ => Tracks.charging_live
  have hleft : r ∈ (setFlag q.dom .throttled (leaveMeter q (endPieces q.id (fun st => decide (st = .charging)) .removed s))).requests := by
    rw [leaveMeter_meters, hend]
    exact (mem_replaced hq).mpr (.inr ⟨hr, hne⟩)
  refine ⟨?_, fun n => ?_⟩
  · unfold takeOffPost
    generalize setFlag q.dom .throttled _ = y at hleft
    unfold finishRequest
    split
    · exact hleft
    · rename_i q' hq'
      split
      · have hin : r ∈ y.requests.filter (fun x => decide (x.id ≠ q.id)) := List.mem_filter.mpr ⟨hleft, decide_eq_true hne⟩
        dsimp only
        split
        · exact hin
        · rw [(Tells.answerTo _ _ _ _ _).requests]
          exact hin
      · exact hleft
  · unfold takeOffPost
    rw [finishRequest_meters]
    have := (leaveMeter_waiting q (endPieces q.id (fun st => decide (st = .charging)) .removed s) n).1
    rw [endPieces_meters] at this
    exact this

theorem lastPost_mem {q : Request} (h : lastPost s n = some q) : q ∈ s.requests ∧ q.id ∈ (s.meters.get n).waiting := by
  have hmem := List.mem_reverse.mp (List.mem_of_find?_eq_some h)
  obtain ⟨i, hi, e⟩ := List.mem_filterMap.mp hmem
  obtain ⟨hq, rfl⟩ := request_some e
  exact ⟨hq, hi⟩

/-- A new request joins the list of its meter (R82, R83). -/
theorem Waits.joinMeter (h : Waits s.ups none s) (hr : r ∈ s.requests) (hm : r.meter = some n) (hch : ∀ c ∈ r.pieces, c.state = .charging)
    (hne : r.pieces ≠ []) (hno : ∀ m : Fin 16, r.id ∉ (s.meters.get m).waiting) :
    Waits (joinMeter n r s).ups none (joinMeter n r s) := by
  unfold Machine.joinMeter
  dsimp only
  split
  · split
    · exact (show Waits (Machine.appendWaiting n r.id s).ups none _ from h.appendWaiting hr hm hch hne (hno n)).evalMeter n
    · exact h.appendWaiting hr hm hch hne (hno n)
  · split
    · rw [Confined.ups (Confined.finishRequest _ _)]
      have hend := h.endPieces r.id (f := fun st => decide (st = .charging)) (st := .removed) rfl fun _ => Tracks.charging_live
      have hkeep := (hend.unlisted fun m => by rw [endPieces_meters]; exact hno m).congr
        (t := setFlag r.dom .throttled (Machine.endPieces r.id (fun st => decide (st = .charging)) .removed s)) rfl (fun _ => rfl) fun _ => rfl
      refine Waits.finishRequest ?_ r.id
      rw [show (setFlag r.dom .throttled (Machine.endPieces r.id (fun st => decide (st = .charging)) .removed s)).ups = s.ups from
        Quiet.ups ((Quiet.endPieces _ _ _ s).trans (Quiet.setFlag _ _ _))]
      exact hkeep
    · split
      · exact h.appendWaiting hr hm hch hne (hno n)
      · rename_i q hq
        obtain ⟨hqm, hql⟩ := lastPost_mem hq
        have hid : r.id ≠ q.id := fun e => hno n (e ▸ hql)
        obtain ⟨hstay, hsub⟩ := takeOffPost_other h.count hqm hr hid
        have hoff : Waits (Machine.takeOffPost q s).ups none (Machine.takeOffPost q s) := by
          rw [Quiet.ups (Quiet.takeOffPost q s)]
          exact h.takeOffPost hqm
        exact (Waits.evalNewHeads s (show Waits (Machine.appendWaiting n r.id (Machine.takeOffPost q s)).ups none _ from
          hoff.appendWaiting hstay hm hch hne fun hn => hno n ((hsub n).subset hn))).2

end

end Sys2Proof.Machine
end

section
/-! PROOFS. What an admission keeps of the accounts: the record is new, its pieces wait for their meter or in a queue (R31, R49, R56, R60,
R61). -/

namespace Sys2Proof.Machine

open Sys2Proof

section
variable {w : Prop} {on : Port → Prop} {h h' : Hand} {s t : State} {p : Port} {r : Request} {q : Arrival} {e : EntryCopy}

/-- The pieces of a new record stand in the table too. -/
theorem stands_appended (ht : t.requests = s.requests ++ [r]) (ref : PieceRef) (p : Port) (d : Domain) (st : PieceState) (x : Option (Fin 16)) :
    t.Stands ref p d st x ↔ s.Stands ref p d st x ∨
      ∃ c ∈ r.pieces, ref = ⟨r.id, c.num⟩ ∧ r.target = p ∧ r.dom = d ∧ c.state = st ∧ c.ttag = x := by
  unfold State.Stands
  rw [ht]
  constructor
  · rintro ⟨y, hy, rest⟩
    rcases List.mem_append.mp hy with hold | hnew
    · exact .inl ⟨y, hold, rest⟩
    · rw [List.mem_singleton.mp hnew] at rest
      exact .inr rest
  · rintro (⟨y, hy, rest⟩ | rest)
    · exact ⟨y, List.mem_append_left _ hy, rest⟩
    · exact ⟨r, List.mem_append_right _ (List.mem_singleton.mpr rfl), rest⟩

theorem countIn_parked (u : Option (Fin 8)) (n : Nat) (s : State) (v : Fin 8) :
    ((countIn u n s).units.get v).parked = (s.units.get v).parked := by
  obtain ⟨k, e⟩ := (Confined.countIn u n s).unit v
  rw [e]

theorem withNew_parked (r : Request) (s : State) (v : Fin 8) : ((withNew r s).units.get v).parked = (s.units.get v).parked :=
  countIn_parked _ _ _ _

theorem withNew_inits (r : Request) (s : State) : (withNew r s).inits = s.inits := by
  unfold withNew countIn
  cases r.unit <;> rfl

theorem owed_appended (ht : t.requests = s.requests ++ [r]) (hu : ∀ v, (t.units.get v).parked = (s.units.get v).parked) (d : Domain)
    (x : Fin 32) : t.owed d x = s.owed d x + r.owes d x := by
  unfold State.owed
  rw [ht, owedRequests_append, Finset.sum_congr rfl fun v _ => by rw [hu]]
  unfold owedRequests
  simp only [List.map_cons, List.map_nil, List.sum_cons, List.sum_nil]
  omega

/-- A new record whose pieces all wait for their meter takes over what is in hand for it. -/
theorem Accounts.chargedIn (a : Accounts w on h s) (hnew : NewRecord s r) (hch : ∀ c ∈ r.pieces, c.state = .charging)
    (ht : ∀ d x, h'.tags d x + r.owes d x ≤ h.tags d x) (hc : ∀ d, h'.cmd d = h.cmd d) (hw : w → s.ups r.dom.port) :
    Accounts w on h' (withNew r s) := by
  have hreq := withNew_requests r s
  refine ⟨a.count.moves (withNew_moves hnew), ?_, fun hh => ?_, fun p hp => ?_⟩
  · refine a.tables.congr ⟨fun _ _ => by rw [withNew_ports], fun _ _ => by rw [withNew_ports], fun _ => by rw [withNew_ports]⟩
      fun ref p d st x hat => ?_
    rw [stands_appended hreq]
    refine or_iff_left ?_
    rintro ⟨c, hcm, -, -, -, rfl, -⟩
    rw [hch c hcm] at hat
    cases hat
  · obtain ⟨hwaits, hparks⟩ := a.waits hh
    rw [withNew_ups]
    exact ⟨hwaits.withNew hnew fun _ => hw hh, fun v k hk => hparks v k (withNew_parked r s v ▸ hk)⟩
  · refine (a.out p hp).congr (by rw [withNew_ports]) (by rw [withNew_ports]) (fun d _ => by rw [withNew_inits]) (fun d _ x => ?_)
      fun d _ => hc d
    rw [owed_appended hreq (withNew_parked r s)]
    have := ht d x
    omega

/-- A new record whose pieces all wait in their queue takes over what is in hand for it. -/
theorem Accounts.queuedIn (a : Accounts w on h s) (hnew : NewRecord s r) (hch : ∀ c ∈ r.pieces, c.state = .queued)
    (ht : ∀ d x, h'.tags d x + r.owes d x ≤ h.tags d x) (hc : ∀ d, h'.cmd d = h.cmd d) (hw : w → s.ups r.dom.port) :
    Accounts w on h' (r.pieces.foldl (fun t c => enqueuePiece r.target r.dom ⟨r.id, c.num⟩ t) (withNew r s)) := by
  let refs : List PieceRef := r.pieces.map (fun c => ⟨r.id, c.num⟩)
  have hrun : r.pieces.foldl (fun t c => enqueuePiece r.target r.dom ⟨r.id, c.num⟩ t) (withNew r s) =
      { withNew r s with
        ports := s.ports.set r.target { s.ports.get r.target with
          arbiter := (s.ports.get r.target).arbiter.modQueue r.dom (fun y => y ++ refs) } } := by
    have := foldl_enqueuePiece r.target r.dom refs (withNew r s)
    rw [List.foldl_map] at this
    rw [this, withNew_ports]
  have hmoves : Moves true s (r.pieces.foldl (fun t c => enqueuePiece r.target r.dom ⟨r.id, c.num⟩ t) (withNew r s)) :=
    (withNew_moves hnew).trans (Moves.foldl (fun t c => Moves.enqueuePiece _ _ _ t) _ _)
  generalize r.pieces.foldl (fun t c => enqueuePiece r.target r.dom ⟨r.id, c.num⟩ t) (withNew r s) = t at hrun hmoves
  have hreq : t.requests = s.requests ++ [r] := by rw [hrun]; exact withNew_requests r s
  have hparked (v : Fin 8) : (t.units.get v).parked = (s.units.get v).parked := by rw [hrun]; exact withNew_parked r s v
  have hmeters : t.meters = s.meters := by rw [hrun]; exact withNew_meters r s
  have hinits : t.inits = s.inits := by rw [hrun]; exact withNew_inits r s
  have hports (p : Port) : t.ports.get p = if p = r.target then { s.ports.get r.target with
      arbiter := (s.ports.get r.target).arbiter.modQueue r.dom (fun y => y ++ refs) } else s.ports.get p := by
    rw [hrun]; exact PerPort.get_set _ _ _ _
  have hrest (p : Port) : ((t.ports.get p).link, (t.ports.get p).outbound, (t.ports.get p).tags) =
      ((s.ports.get p).link, (s.ports.get p).outbound, (s.ports.get p).tags) := by
    rw [hports]
    split
    · rename_i e; rw [e]
    · rfl
  have hlink (p : Port) : (t.ports.get p).link = (s.ports.get p).link := congrArg (fun x => x.1) (hrest p)
  have hout (p : Port) : (t.ports.get p).outbound = (s.ports.get p).outbound := congrArg (fun x => x.2.1) (hrest p)
  have htags (p : Port) : (t.ports.get p).tags = (s.ports.get p).tags := congrArg (fun x => x.2.2) (hrest p)
  have hups : t.ups = s.ups := by
    funext p
    unfold State.ups
    rw [hlink]
  refine ⟨a.count.moves hmoves, ?_, fun hh => ?_, fun p hp => ?_⟩
  · have hst := stands_appended (s := s) (t := t) hreq
    have hfresh {ref : PieceRef} (href : ref ∈ refs) (p : Port) (d : Domain) (st : PieceState) (x : Option (Fin 16)) :
        ¬s.Stands ref p d st x := by
      rintro ⟨y, hy, z, hz, e, -⟩
      obtain ⟨c, -, rfl⟩ := List.mem_map.mp href
      exact hnew.fresh y hy (PieceRef.mk.inj e).1.symm
    refine a.tables.entered (refs := refs) (p0 := r.target) (d0 := r.dom) ?_ (fun ref href p d st x _ => hfresh href p d st x)
      (fun ref p d st x hs _ => (hst ref p d st x).mpr (.inl hs)) (fun ref p d st x hs _ => ?_) (fun ref href => ?_) (fun p d => ?_)
      (fun p j => by rw [htags]) fun p => by rw [hout]
    · have := hnew.nums.map (f := fun i : Nat => (⟨r.id, i⟩ : PieceRef)) fun i j e => (PieceRef.mk.inj e).2
      rw [List.map_map] at this
      exact this
    · rcases (hst ref p d st x).mp hs with hold | ⟨c, hcm, -, -, -, rfl, -⟩
      · exact .inl hold
      · exact .inr (hch c hcm)
    · obtain ⟨c, hcm, rfl⟩ := List.mem_map.mp href
      exact ⟨c.ttag, (hst _ _ _ _ _).mpr (.inr ⟨c, hcm, rfl, rfl, rfl, hch c hcm, rfl⟩)⟩
    · rw [hports]
      by_cases hp : p = r.target
      · subst hp
        rw [if_pos rfl]
        by_cases hd : d = r.dom
        · subst hd
          rw [if_pos ⟨rfl, rfl⟩]
          exact Arbiter.queueOf_modQueue_same _ _ _
        · rw [if_neg fun e => hd e.2, List.append_nil]
          exact Arbiter.queueOf_modQueue_other _ hd _
      · rw [if_neg hp, if_neg fun e => hp e.1, List.append_nil]
  · obtain ⟨hwaits, hparks⟩ := a.waits hh
    have hin := hwaits.withNew hnew fun _ => hw hh
    rw [hups]
    exact ⟨hin.congr (hreq.trans (withNew_requests r s).symm) (fun v => by rw [hrun]) fun n => by rw [hmeters, withNew_meters],
      fun v k hk => hparks v k (hparked v ▸ hk)⟩
  · refine (a.out p hp).congr (hlink p) (hout p) (fun d _ => by rw [hinits]) (fun d _ x => ?_)
      fun d _ => hc d
    rw [owed_appended hreq hparked]
    have := ht d x
    omega

/-- A request is admitted: recorded, or answered where its target is not UP (R31, R60). -/
theorem Accounts.admitRequest (a : Accounts w on h s) (ht : ∀ d x, h'.tags d x + owes q.dom q.tag d x ≤ h.tags d x)
    (hc : ∀ d, h'.cmd d = h.cmd d) (hw : w → s.ups q.dom.port ∧ 1 ≤ q.len) (e : EntryCopy) : Accounts w on h' (admitRequest q e s) := by
  have hnew := Moves.newRecord_admitted s q e
  have howes (d : Domain) (x : Fin 32) : h'.tags d x + (admittedRecord s q e).owes d x ≤ h.tags d x := ht d x
  by_cases hup : (s.ports.get e.target).link = .up
  · cases hm : e.meter with
    | some n =>
      have hjoins := joins_admitted (q := q) hm hup
      rw [admitRequest_metered hm hup]
      refine (a.chargedIn hnew hjoins.charging howes hc fun hh => (hw hh).1).tracks (cuts := False)
        (Tracks.joinMeter n _ fun _ => a.count.moves (withNew_moves hnew)) fun hh => ?_
      obtain ⟨hup0, hlen⟩ := hw hh
      have hwaits := ((a.waits hh).1.withNew hnew fun _ => hup0)
      rw [← withNew_ups (admittedRecord s q e) s] at hwaits
      refine hwaits.joinMeter (by simp) hjoins.meter hjoins.charging (fun hnil => ?_) fun m => ?_
      · have hlen' := splitFrom_length (s.port e.target).config.maxBurst.bytes_pos (if e.meter.isSome then .charging else .queued) q.len 1
          (e.translate q.addr).toNat q.len hlen (le_refl _)
        have hzero : (admittedRecord s q e).pieces.length = 0 := by rw [hnil]; rfl
        have hpos := (s.port e.target).config.maxBurst.bytes_pos
        have : 0 < ((e.translate q.addr).toNat % (s.port e.target).config.maxBurst.bytes + q.len +
            ((s.port e.target).config.maxBurst.bytes - 1)) / (s.port e.target).config.maxBurst.bytes :=
          Nat.div_pos (by omega) hpos
        rw [← hlen'] at this
        exact absurd hzero (by exact Nat.pos_iff_ne_zero.mp this)
      · rw [withNew_meters]
        exact (a.waits hh).1.fresh hnew m
    | none =>
      rw [admitRequest_up hup, hm]
      refine a.queuedIn hnew (fun c hcm => ?_) howes hc fun hh => (hw hh).1
      have := (Moves.splitFrom_state _ _ _ _ _ _ c hcm).1
      rw [hm] at this
      exact this
  · rw [admitRequest_down hup]
    exact a.answerTo ht hc _ _

end

end Sys2Proof.Machine
end

section
/-! PROOFS. What parking, deciding again and the handovers keep of the accounts (R51 to R53, R95 to R109). -/

namespace Sys2Proof.Machine

open Sys2Proof

section
variable {w : Prop} {on : Port → Prop} {h h' : Hand} {s t : State} {u : Fin 8} {q : Arrival} {e : EntryCopy}

/-! ### Parked requests -/

/-- In hand are also the answers owed to a list of parked requests. -/
def Hand.holding (l : List Parked) (h : Hand) : Hand := ⟨fun d x => h.tags d x + owedParked l d x, h.cmd⟩

@[simp] theorem Hand.holding_nil (h : Hand) : h.holding [] = h := rfl

theorem owed_modUnit (u : Fin 8) (f : CustodyUnit → CustodyUnit) (s : State) (d : Domain) (x : Fin 32) :
    (s.modUnit u f).owed d x + owedParked (s.units.get u).parked d x = s.owed d x + owedParked (f (s.units.get u)).parked d x := by
  have := sum_setAt s.units u (f (s.units.get u)) (fun v => owedParked v.parked d x)
  unfold State.owed
  show owedRequests s.requests d x + _ + _ = _
  have hunits : (s.modUnit u f).units = setAt s.units u (f (s.units.get u)) := rfl
  rw [hunits]
  omega

/-- The parked list of a unit changes, and with it what is in hand. -/
theorem Accounts.modUnit {f : CustodyUnit → CustodyUnit} (a : Accounts w on h s)
    (hf : (f (s.units.get u)).inFlight = (s.units.get u).inFlight)
    (ht : ∀ d x, h'.tags d x + owedParked (f (s.units.get u)).parked d x ≤ h.tags d x + owedParked (s.units.get u).parked d x)
    (hc : ∀ d, h'.cmd d = h.cmd d)
    (hw : w → ∀ k ∈ (f (s.units.get u)).parked, k ∈ (s.units.get u).parked ∨ (1 ≤ k.req.len ∧ k.req.len ≤ 256) ∧ s.ups k.req.dom.port) :
    Accounts w on h' (s.modUnit u f) := by
  have hget (v : Fin 8) : (s.modUnit u f).units.get v = if v = u then f (s.units.get u) else s.units.get v := setAt_get _ _ _ _
  have hin (v : Fin 8) : ((s.modUnit u f).units.get v).inFlight = (s.units.get v).inFlight := by
    rw [hget]
    split
    · rename_i e; rw [e]; exact hf
    · rfl
  refine ⟨State.CountLaw.congr (s := s) (t := s.modUnit u f) rfl hin a.count, ?_, fun hh => ?_, fun p hp => ?_⟩
  · exact a.tables.congr ⟨fun _ _ => rfl, fun _ _ => rfl, fun _ => rfl⟩ fun _ _ _ _ _ _ => Iff.rfl
  · obtain ⟨hwaits, hparks⟩ := a.waits hh
    refine ⟨hwaits.congr (t := s.modUnit u f) rfl hin fun _ => rfl, fun v k hk => ?_⟩
    rw [hget] at hk
    split at hk
    · exact (hw hh k hk).elim (hparks u k) fun e => e
    · exact hparks v k hk
  · refine (a.out p hp).congr rfl rfl (fun _ _ => rfl) (fun d _ x => ?_) fun d _ => hc d
    have h1 := owed_modUnit u f s d x
    have h2 := ht d x
    omega

/-- A request in hand is parked (R51). -/
theorem Accounts.parkRequest (a : Accounts w on h s) (ht : ∀ d x, h'.tags d x + owes q.dom q.tag d x ≤ h.tags d x)
    (hc : ∀ d, h'.cmd d = h.cmd d) (hw : w → s.ups q.dom.port ∧ 1 ≤ q.len ∧ q.len ≤ 256) (u : Fin 8) (e : EntryCopy) :
    Accounts w on h' (parkRequest u q e s) := by
  refine a.modUnit rfl (fun d x => ?_) hc fun hh k hk => ?_
  · have := ht d x
    rw [owedParked_append, owedParked_cons]
    have hk : (⟨q, e⟩ : Parked).owes d x = owes q.dom q.tag d x := rfl
    have h0 : owedParked [] d x = 0 := rfl
    omega
  · rcases List.mem_append.mp hk with hold | hnew
    · exact .inl hold
    · rw [List.mem_singleton.mp hnew]
      exact .inr ⟨(hw hh).2, (hw hh).1⟩

theorem Accounts.denyCustody (a : Accounts w on h s) (ht : ∀ d x, h'.tags d x + owes q.dom q.tag d x ≤ h.tags d x)
    (hc : ∀ d, h'.cmd d = h.cmd d) (u : Fin 8) (e : EntryCopy) : Accounts w on h' (denyCustody u q e s) :=
  a.denyRequest ht hc _ _ _ _

/-- One parked request is decided again (R53). -/
theorem Accounts.redecideOne {k : Parked} {l : List Parked} (a : Accounts w on (h.holding (k :: l)) s)
    (hw : w → s.ups k.req.dom.port ∧ 1 ≤ k.req.len) (u : Fin 8) : Accounts w on (h.holding l) (redecideOne u s k) := by
  have ht (d : Domain) (x : Fin 32) : (h.holding l).tags d x + owes k.req.dom k.req.tag d x ≤ (h.holding (k :: l)).tags d x := by
    show h.tags d x + owedParked l d x + k.owes d x ≤ h.tags d x + owedParked (k :: l) d x
    rw [owedParked_cons]
    omega
  unfold Machine.redecideOne
  split
  · exact a.admitRequest ht (fun _ => rfl) hw _
  · exact a.denyCustody ht (fun _ => rfl) _ _
  · exact a.denyCustody ht (fun _ => rfl) _ _

theorem Quiet.redecideOne (u : Fin 8) (s : State) (k : Parked) : Quiet s (redecideOne u s k) := by
  unfold Machine.redecideOne
  split
  · exact admitRequest _ _ s
  · exact denyRequest _ _ _ _ _ s
  · exact denyRequest _ _ _ _ _ s

/-- The parked requests of a unit are decided again (R53). -/
theorem Accounts.redecideParked (a : Accounts w on h s) (u : Fin 8) : Accounts w on h (redecideParked u s) := by
  have hfold (l : List Parked) : ∀ {t : State}, Accounts w on (h.holding l) t → (w → ∀ k ∈ l, t.ups k.req.dom.port ∧ 1 ≤ k.req.len) →
      Accounts w on h (l.foldl (Machine.redecideOne u) t) := by
    induction l with
    | nil => exact fun b _ => b
    | cons k l ih =>
      intro t b hw
      refine ih (b.redecideOne (fun hh => hw hh k List.mem_cons_self) u) fun hh y hy => ?_
      rw [Quiet.ups (Quiet.redecideOne u t k)]
      exact hw hh y (List.mem_cons_of_mem _ hy)
  unfold Machine.redecideParked
  refine hfold _ (a.modUnit (h' := h.holding (s.units.get u).parked) rfl (fun d x => ?_) (fun _ => rfl) fun _ k hk => nomatch hk) fun hh k hk => ?_
  · show h.tags d x + owedParked (s.units.get u).parked d x + 0 ≤ _
    exact le_refl _
  · obtain ⟨⟨hlen, -⟩, hup⟩ := (a.waits hh).2 u k hk
    exact ⟨hup, hlen⟩

/-! ### The handovers -/

theorem Same.clearHandover (u : Fin 8) (s : State) : Same s (clearHandover u s) := modUnit ⟨rfl, rfl⟩

theorem Accounts.scrubFail (a : Accounts w on h s) (u : Fin 8) : Accounts w on h (scrubFail u s) := by
  unfold Machine.scrubFail
  exact (((((a.same (.modUnit ⟨rfl, rfl⟩)).raiseFault _).redecideParked u).sendNotices _ _).same (.clearHandover _ _)).endCommand _ _ _

theorem Accounts.grantUnit (a : Accounts w on h s) (u : Fin 8) (g : Holding) : Accounts w on h (grantUnit u g s) := by
  unfold Machine.grantUnit
  exact ((((a.same (.modUnit ⟨rfl, rfl⟩)).redecideParked u).sendNotices _ _).same (.clearHandover _ _)).endCommand _ _ _

theorem Accounts.startSettle (a : Accounts w on h s) (u : Fin 8) (g : Holding) : Accounts w on h (startSettle u g s) := by
  unfold Machine.startSettle
  dsimp only
  split
  · exact (a.same (.modUnit ⟨rfl, rfl⟩)).grantUnit u g
  · exact (a.same (.modUnit ⟨rfl, rfl⟩)).same (.modUnit ⟨rfl, rfl⟩)

theorem Same.placeStep (u : Fin 8) (p : Port) (n : Nat) (s : State) : Same s (placeStep u p n s) :=
  (Same.modUnit (s := s) ⟨rfl, rfl⟩).trans (.modPort fun _ => ⟨rfl, fun d => by cases d <;> rfl⟩)

theorem Accounts.beginScrub (a : Accounts w on h s) (u : Fin 8) (g : Holding) : Accounts w on h (beginScrub u g s) := by
  unfold Machine.beginScrub
  split
  · exact a.scrubFail u
  · split
    · split
      · exact a.startSettle u g
      · exact a.same (.placeStep _ _ _ _)
    · exact a.scrubFail u

theorem Accounts.endDrain (a : Accounts w on h s) (u : Fin 8) (g : Holding) : Accounts w on h (endDrain u g s) := by
  unfold Machine.endDrain
  exact (a.same (.modUnit ⟨rfl, rfl⟩)).beginScrub u g

theorem Accounts.beginDue (a : Accounts w on h s) (u : Fin 8) : Accounts w on h (beginDue u s) := by
  unfold Machine.beginDue
  split
  · exact a.endDrain u _
  · exact a

theorem Accounts.stepDone (a : Accounts w on h s) (u : Fin 8) : Accounts w on h (stepDone u s) := by
  unfold Machine.stepDone
  split
  · split
    · exact a.startSettle u _
    · exact a.same (.placeStep _ _ _ _)
  · exact a

theorem Accounts.stepFailed (a : Accounts w on h s) (u : Fin 8) : Accounts w on h (stepFailed u s) := by
  unfold Machine.stepFailed
  split
  · exact a.scrubFail u
  · exact a
  · exact a
  · exact a
  · exact a

/-- A handover takes the command of P in hand (R96, R97). -/
theorem Accounts.acceptHandover {tag : Fin 4} (a : Accounts w on h s) (hc : h.cmd .pay = some tag) (u : Fin 8) (op : HandoverKind)
    (start : Resting) (g : Holding) : Accounts w on (h.taking .pay none) (acceptHandover u op start g tag s) := by
  unfold Machine.acceptHandover
  dsimp only
  have b := (a.carryCommand hc (.custody u)).same (.modUnit (v := u) (f := fun v =>
    { v with
      previous := if op = .take then savedPrevious start v.previous else v.previous
      state := .draining g
      pendingTake := some tag
      hand := { op := some op, starting := start, drainTimer := none, scrubPos := 0, settleTimer := none, cutCount := 0 } }) ⟨rfl, rfl⟩)
  split
  · exact b.endDrain u g
  · exact b.same (.modUnit ⟨rfl, rfl⟩)

/-- A return that aborts a draining take (R98). -/
theorem Accounts.abortTake {tag : Fin 4} (a : Accounts w on h s) (hc : h.cmd .pay = some tag) (u : Fin 8) :
    Accounts w on (h.taking .pay none) (abortTake u tag s) := by
  unfold Machine.abortTake
  exact ((((a.same (.modUnit ⟨rfl, rfl⟩)).same (.clearHandover _ _)).endCommand _ _ _).reply hc _ _).redecideParked u

end

end Sys2Proof.Machine
end

section
/-! PROOFS. What a port reset keeps of the accounts (R10 to R13, R54, R76, R110). -/

namespace Sys2Proof.Machine

open Sys2Proof

section
variable {w : Prop} {on : Port → Prop} {h h' : Hand} {s t b : State} {p : Port} {link : LinkState} {hold : Option Nat}

/-! ### The target ports -/

/-- Nothing stands at the port once its pieces have ended (R76). -/
theorem downed_none (ht : t.requests = s.requests.map (Request.downedAt p)) (ref : PieceRef) (d : Domain) (st : PieceState)
    (x : Option (Fin 16)) (hst : st.atTarget = true) : ¬t.Stands ref p d st x := by
  rintro ⟨q, hq, c, hc, -, htarget, -, rfl, -⟩
  rw [ht] at hq
  obtain ⟨r, -, rfl⟩ := List.mem_map.mp hq
  unfold Request.downedAt at hc htarget
  split at hc
  · have := Request.downed_live hc
    rw [PieceState.atTarget_live hst] at this
    cases this
  · rename_i hno
    rw [if_neg hno] at htarget
    exact hno (Request.reached_iff.mpr ⟨htarget, c, hc, hst⟩)

theorem targetReset_tables (hs : s.CountLaw) (h : s.Tables) (p : Port) (link : LinkState) (hold : Option Nat) :
    (targetReset p link hold s).Tables := by
  let s1 := s.modPort p (fun v => { v with link := link, established := false, hold := hold })
  have hget (q : Port) : s1.ports.get q = if q = p then
      { s.ports.get p with link := link, established := false, hold := hold } else s.ports.get q := PerPort.get_set _ _ _ _
  have h1 : s1.Tables := by
    refine h.congr ⟨fun q d => ?_, fun q j => ?_, fun q => ?_⟩ fun _ _ _ _ _ _ => Iff.rfl
    all_goals
      rw [hget]
      split
      · rename_i e; rw [e]
      · rfl
  have hs1 : s1.CountLaw := State.CountLaw.congr (s := s) rfl (fun _ => rfl) hs
  have hdown : Tracks True True s1 (((reachedBy p s).map (fun r => r.id)).foldl linkDownRequest s1) := by
    refine Tracks.foldl (fun x id hx => ?_) _ fun _ => hs1
    have hend := Tracks.endPieces (cuts := True) (s := x) id (f := PieceState.atTarget) (st := .resolved .linkDown) rfl
      (fun _ => PieceState.atTarget_live) (fun _ => trivial) hx
    exact hend.trans (Tracks.removeUnsent id (hend.countLaw hx))
  have h2 := hdown.tables hs1 h1
  obtain ⟨-, hrun⟩ := targetReset_eq (p := p) (link := link) (hold := hold) hs
  have hreq : (((reachedBy p s).map (fun r => r.id)).foldl linkDownRequest s1).requests = s.requests.map (Request.downedAt p) := by
    have : (targetReset p link hold s).requests = s.requests.map (Request.downedAt p) := by rw [hrun]
    exact this
  refine h2.emptied (p0 := p) (fun ref d st x hst => downed_none hreq ref d st x hst) rfl (fun q hq => PerPort.get_set_other _ _ hq)
    (fun d => ?_) (fun j ref => ?_) ?_
  · rw [show (targetReset p link hold s).ports.get p = _ from PerPort.get_set_same _ _ _]
    cases d <;> rfl
  · rw [show (targetReset p link hold s).ports.get p = _ from PerPort.get_set_same _ _ _]
    show (Vector.replicate 16 TagState.free).get j ≠ _
    rw [replicate_get]
    exact fun e => nomatch e
  · rw [show (targetReset p link hold s).ports.get p = _ from PerPort.get_set_same _ _ _]
    rfl

/-- Abandoned requests keep the accounts of the target ports (R12). -/
theorem desertedBy_tables (hs : s.CountLaw) (h : s.Tables) (d : Domain) : (desertedBy d s).Tables := by
  unfold desertedBy
  generalize requestsOf s d = l
  induction l generalizing s with
  | nil => exact h
  | cons id l ih =>
    have hone : (s.modRequest id (fun r => { r with abandoned := true })).Tables := by
      refine h.congr ⟨fun _ _ => rfl, fun _ _ => rfl, fun _ => rfl⟩ fun ref p d st x _ => State.stands_map
        (f := fun r => if r.id = id then { r with abandoned := true } else r) (fun r => ?_) rfl ref p d st x
      split <;> exact ⟨rfl, rfl, rfl, rfl⟩
    have hcount : (s.modRequest id (fun r => { r with abandoned := true })).CountLaw :=
      hs.moves (.one (.record s id _ fun _ => ⟨rfl, rfl, rfl, rfl, rfl⟩))
    exact ih (abandonRequest_countLaw hs id)
      ((Tracks.removeUnsent (cuts := False) id fun _ => hcount).tables hcount hone)

theorem resetStart_tables (hs : s.CountLaw) (h : s.Tables) (p : Port) (link : LinkState) (hold : Option Nat) :
    (resetStart p link hold s).Tables := by
  have htarget := targetReset_tables hs h p link hold
  unfold resetStart
  cases p.domain with
  | none => exact htarget
  | some d =>
    have hcount := (targetReset_eq (p := p) (link := link) (hold := hold) hs).1
    obtain ⟨l, -, hrun⟩ := resetInitiator_rest d (targetReset p link hold s)
    dsimp only
    have hports : (resetInitiator d (targetReset p link hold s)).ports = (desertedBy d (targetReset p link hold s)).ports := by rw [hrun]
    have hreq : (resetInitiator d (targetReset p link hold s)).requests = (desertedBy d (targetReset p link hold s)).requests := by rw [hrun]
    exact (desertedBy_tables hcount htarget d).congr ⟨fun _ _ => by rw [hports], fun _ _ => by rw [hports], fun _ => by rw [hports]⟩
      fun _ _ _ _ _ _ => State.stands_same hreq _ _ _ _ _

/-! ### What is parked, and what is owed -/

/-- Of the parked requests some go (R54). -/
theorem resetStart_parked (p : Port) (link : LinkState) (hold : Option Nat) (s : State) (u : Fin 8) :
    ((resetStart p link hold s).units.get u).parked.Sublist (s.units.get u).parked := by
  obtain ⟨-, -, hunit, -⟩ := targetReset_static p link hold s
  obtain ⟨k, e⟩ := hunit u
  unfold resetStart
  cases p.domain with
  | none =>
    dsimp only
    rw [e]
  | some d =>
    obtain ⟨l, -, hrun⟩ := resetInitiator_rest d (targetReset p link hold s)
    obtain ⟨m, e'⟩ := (Confined.desertedBy d (targetReset p link hold s)).unit u
    dsimp only
    rw [hrun]
    dsimp only
    rw [dropParked_get, e', e]
    exact List.filter_sublist

theorem Request.resetAt_owes (p : Port) (r : Request) : (r.resetAt p).dom = r.dom ∧ (r.resetAt p).tag = r.tag ∧
    (r.abandoned = true → (r.resetAt p).abandoned = true) := by
  obtain ⟨-, hdom, htag, -⟩ := Request.resetAt_fields p r
  refine ⟨hdom, htag, fun ha => ?_⟩
  unfold Request.resetAt Request.downedAt
  split
  · rfl
  · split <;> exact ha

/-- A reset owes no more. -/
theorem resetStart_owed (hs : s.CountLaw) (p : Port) (link : LinkState) (hold : Option Nat) (d : Domain) (x : Fin 32) :
    (resetStart p link hold s).owed d x ≤ s.owed d x := by
  unfold State.owed
  rw [(resetStart_counted (p := p) (link := link) (hold := hold) hs).requests]
  exact Nat.add_le_add (owedRequests_map (Request.resetAt_owes p) _ _ _)
    (Finset.sum_le_sum fun u _ => owedParked_sublist (resetStart_parked p link hold s u) d x)

/-- Nothing is owed to the domain of a port that was reset (R12, R54). -/
theorem StartOf.owed (ho : StartOf p link hold s b) {d : Domain} (hd : p = d.port) (x : Fin 32) : b.owed d x = 0 := by
  have hr : owedRequests b.requests d x = 0 := by
    refine List.sum_eq_zero fun k hk => ?_
    obtain ⟨r, hr, rfl⟩ := List.mem_map.mp hk
    unfold Request.owes owes
    by_cases hrd : r.dom = d
    · rw [ho.abandoned d hd r hr hrd]; rfl
    · rw [if_neg (fun e : r.dom = d ∧ r.tag = some x => hrd e.1), ite_self]
  have hu (u : Fin 8) : owedParked (b.units.get u).parked d x = 0 := by
    refine List.sum_eq_zero fun k hk => ?_
    obtain ⟨y, hy, rfl⟩ := List.mem_map.mp hk
    exact if_neg fun e => ho.parked d hd u y hy e.1
  unfold State.owed
  rw [hr, Finset.sum_congr rfl fun u _ => hu u]
  simp

/-! ### The outbound queues -/

theorem speech_kept (freed : Fin 16 → Bool) (l : List OutPacket) : speech (keptPackets freed l) = speech l := by
  induction l with
  | nil => rfl
  | cons pkt l ih =>
    by_cases hk : keptPackets freed (pkt :: l) = pkt :: keptPackets freed l
    · rw [hk, speech_cons, speech_cons]
      simp only [speech, Prod.mk.injEq] at ih
      obtain ⟨h1, h2, h3, h4, h5⟩ := ih
      rw [h1, h2, h3, h4, h5]
    · cases pkt with
      | request j k a c y =>
        have hj : freed j = true := by
          by_contra hne
          exact hk (List.filter_cons_of_pos (by simpa using hne))
        rw [show keptPackets freed (.request j k a c y :: l) = keptPackets freed l from List.filter_cons_of_neg (by simp [hj]), ih, speech_cons]
        simp [speech, eventsIn, noticesIn, replyTags, completionTags]
      | completion x st data => exact absurd (List.filter_cons_of_pos rfl) hk
      | reply x st res => exact absurd (List.filter_cons_of_pos rfl) hk
      | event a b c d => exact absurd (List.filter_cons_of_pos rfl) hk
      | notice k => exact absurd (List.filter_cons_of_pos rfl) hk

/-- The port that was reset has an empty queue, and nothing of its initiator waits (R11, R13). -/
theorem StartOf.outAt (ho : StartOf p link hold s b) : b.OutAt .empty p := by
  have hport : (b.ports.get p).outbound = [] := by rw [ho.port]; rfl
  refine ⟨fun _ => hport, fun _ pkt hpkt => ?_, fun d hd => ?_⟩
  · rw [hport] at hpkt
    cases hpkt
  · obtain ⟨l, hmark, hinit⟩ := ho.init d hd
    have hnone : l.filter (fun c => !c.discard) = [] := List.filter_eq_nil_iff.mpr fun c hc => by rw [hmark c hc]; exact Bool.false_ne_true
    rw [hport, hinit]
    refine ⟨rfl, rfl, rfl, List.nodup_nil, (fun _ ht => nomatch ht), ?_, fun _ e => (nomatch e), fun x => ?_⟩
    · unfold InitState.tagsTaken
      dsimp only
      rw [hnone]
      exact List.nodup_nil
    · rw [ho.owed hd x]
      exact Nat.zero_le _

/-- A port reset up to the moment before the meters go on keeps the accounts. -/
theorem Accounts.resetStart (a : Accounts w on .empty s) (hl : link ≠ .up) : Accounts w on .empty (resetStart p link hold s) := by
  have hof := resetStart_of (p := p) (hold := hold) (s := s) hl
  have hcs := resetStart_counted (p := p) (link := link) (hold := hold) a.count
  have hlink (q : Port) (hq : q ≠ p) : ((Machine.resetStart p link hold s).ports.get q).link = (s.ports.get q).link :=
    congrArg (fun x => x.1) (hof.face q hq)
  refine ⟨hcs.count, resetStart_tables a.count a.tables p link hold, fun hh => ⟨?_, fun u k hk => ?_⟩, fun q hq => ?_⟩
  · obtain ⟨hwaits, hparks⟩ := a.waits hh
    exact hcs.waits (State.WaitingLaw.of_waits hwaits hparks) hlink
  · obtain ⟨hlen, hup⟩ := (a.waits hh).2 u k ((resetStart_parked p link hold s u).subset hk)
    refine ⟨hlen, ?_⟩
    have hne : k.req.dom.port ≠ p := fun e => hof.parked k.req.dom e.symm u k hk rfl
    unfold State.ups
    rw [hlink _ hne]
    exact hup
  · by_cases hqp : q = p
    · rw [hqp]
      exact hof.outAt
    · have hport := hcs.ports q hqp
      refine (a.out q hq).heard (hlink q hqp) ?_ (fun pkt hpkt => .inl ?_) (fun d hd => hof.other d fun e => hqp (hd.trans e.symm))
        (fun d _ x => Nat.add_le_add_left (resetStart_owed a.count p link hold d x) _) fun _ _ => rfl
      · rw [hport, PortState.deserted_outbound, speech_kept]
      · rw [hport, PortState.deserted_outbound] at hpkt
        exact (List.mem_filter.mp hpkt).1

theorem Waits.goOn_finish {before : State} (hb : Waits b.ups none b) (ids : List Nat) :
    Waits (ids.foldl (fun t id => Machine.finishRequest id t) (Machine.evalNewHeads before b)).ups none
      (ids.foldl (fun t id => Machine.finishRequest id t) (Machine.evalNewHeads before b)) := by
  have hfold (l : List Nat) : ∀ {x : State}, Waits x.ups none x → Waits (l.foldl (fun t id => Machine.finishRequest id t) x).ups none
      (l.foldl (fun t id => Machine.finishRequest id t) x) := by
    induction l with
    | nil => exact fun hx => hx
    | cons id l ih =>
      refine fun hx => ih ?_
      rw [Confined.ups (Confined.finishRequest id _)]
      exact hx.finishRequest id
  exact hfold ids (hb.evalNewHeads before).2

theorem Accounts.withScrubFailed (a : Accounts w on h s) (u : Fin 8) : Accounts w on h (withScrubFailed u s) := by
  unfold Machine.withScrubFailed
  dsimp only
  split
  · rename_i g _
    have hsame : Same s (drainEnded u g s) := .modUnit ⟨rfl, rfl⟩
    exact (a.same hsame).scrubFail u
  · exact a.scrubFail u

/-- A port reset keeps the accounts (R10 to R13, R76, R110). -/
theorem Accounts.resetPort (a : Accounts w on .empty s) (hl : link ≠ .up) (hold : Option Nat) (cutting : Option (Fin 8)) :
    Accounts w on .empty (resetPort p link hold cutting s) := by
  have hstart := a.resetStart (p := p) (hold := hold) hl
  have hended : Accounts w on .empty (resetEnded p link hold s) :=
    hstart.tracks (resetEnded_tracks fun _ => hstart.count) fun hh => (hstart.waits hh).1.goOn_finish _
  rw [resetPort_fold hl, resetBody_eq]
  exact (hended.raiseFault _).foldl (f := fun x u => Machine.withScrubFailed u x) (fun _ u b => b.withScrubFailed u) _

/-- The orphan limit (R75). -/
theorem Accounts.orphanLimit (a : Accounts w on .empty s) (p : Port) (cutting : Option (Fin 8)) :
    Accounts w on .empty (orphanLimit p cutting s) := by
  unfold Machine.orphanLimit
  split
  · exact Accounts.resetPort (p := p) (link := .resetting) (a.raiseFault (portFault .orphanLimit p.byte none none 0)) (by decide) _ cutting
  · exact a

end

end Sys2Proof.Machine
end

section
/-! PROOFS. What links that come up keep of the accounts (R10, R13, R122, R131, R166). -/

namespace Sys2Proof.Machine

open Sys2Proof

section
variable {w : Prop} {on : Port → Prop} {h h' : Hand} {s t : State} {p : Port}

/-- More ports count as UP. -/
theorem Waits.mono {up up' : Port → Prop} {x : Option Nat} (a : Waits up x s) (hup : ∀ p, up p → up' p) : Waits up' x s :=
  ⟨a.count, a.nodup, fun n id hid => by
    obtain ⟨r, hr, e, hm, hch, hdown⟩ := a.listed n id hid
    exact ⟨r, hr, e, hm, hch, fun hno => hdown fun hu => hno (hup _ hu)⟩, fun r hr hab => hup _ (a.opened r hr hab)⟩

/-- The link of a port changes, not from UP. -/
theorem Accounts.linked {f : PortState → PortState} (a : Accounts w on h s)
    (hf : ∀ v, ((f v).outbound, (f v).tags) = (v.outbound, v.tags) ∧ ∀ d, (f v).arbiter.queueOf d = v.arbiter.queueOf d)
    (hl : (s.ports.get p).link ≠ .up) : Accounts w on h (s.modPort p f) := by
  have hget (q : Port) : (s.modPort p f).ports.get q = if q = p then f (s.ports.get p) else s.ports.get q := PerPort.get_set _ _ _ _
  have hrest (q : Port) : (((s.modPort p f).ports.get q).outbound, ((s.modPort p f).ports.get q).tags) =
      ((s.ports.get q).outbound, (s.ports.get q).tags) ∧
      ∀ d, ((s.modPort p f).ports.get q).arbiter.queueOf d = (s.ports.get q).arbiter.queueOf d := by
    rw [hget]
    split
    · rename_i e; rw [e]; exact hf _
    · exact ⟨rfl, fun _ => rfl⟩
  have hout (q : Port) : ((s.modPort p f).ports.get q).outbound = (s.ports.get q).outbound := congrArg (fun x => x.1) (hrest q).1
  have htags (q : Port) : ((s.modPort p f).ports.get q).tags = (s.ports.get q).tags := congrArg (fun x => x.2) (hrest q).1
  have hups (q : Port) (hu : s.ups q) : (s.modPort p f).ups q := by
    unfold State.ups
    rw [hget, if_neg (show q ≠ p from fun e => hl (e ▸ hu))]
    exact hu
  refine ⟨State.CountLaw.congr (s := s) (t := s.modPort p f) rfl (fun _ => rfl) a.count, ?_, fun hh => ?_, fun q hq => ?_⟩
  · exact a.tables.congr ⟨fun q d => (hrest q).2 d, fun q j => by rw [htags], fun q => by rw [hout]⟩ fun _ _ _ _ _ _ => Iff.rfl
  · obtain ⟨hwaits, hparks⟩ := a.waits hh
    refine ⟨(hwaits.mono hups).congr (t := s.modPort p f) rfl (fun _ => rfl) fun _ => rfl, fun u k hk => ?_⟩
    obtain ⟨hlen, hup⟩ := hparks u k hk
    exact ⟨hlen, hups _ hup⟩
  · refine ⟨fun hdown => ?_, fun hno pkt hpkt => (a.out q hq).only hno pkt (hout q ▸ hpkt), fun d hd => ?_⟩
    · rw [hout]
      by_cases he : q = p
      · rw [he]
        exact (a.out p (he ▸ hq)).down hl
      · rw [hget, if_neg he] at hdown
        exact (a.out q hq).down hdown
    · rw [hout]
      exact (a.out q hq).said d hd

theorem Accounts.announceUp {d : Domain} (a : Accounts w on h s) (hup : (s.ports.get d.port).link = .up) :
    Accounts w on h (announceUp d s) := by
  unfold Machine.announceUp
  have hone : Accounts w on h (if (s.init d).custodyNotice = .held then
      (placeOut d.port (.notice .custody) s).modInit d (fun v => { v with custodyNotice := .waiting }) else s) := by
    split
    · rename_i he
      have hne : (s.inits.get d).custodyNotice ≠ .waiting := fun e => by
        rw [show (s.inits.get d).custodyNotice = .held from he] at e
        cases e
      exact a.placed rfl hup (Hand.others_refl d h) fun b => b.custodyNotice hne
    · exact a
  revert hone
  generalize (if (s.init d).custodyNotice = .held then
      (placeOut d.port (.notice .custody) s).modInit d (fun v => { v with custodyNotice := .waiting }) else s) = t
  intro hone
  dsimp only
  split
  · exact hone
  · exact hone.tellReader d

theorem Accounts.beginDueOn (a : Accounts w on h s) (p : Port) : Accounts w on h (beginDueOn p s) :=
  a.foldl (f := fun t u => Machine.beginDue u t) (fun _ u b => b.beginDue u) _

/-- A port that was not UP becomes UP (R10, R13). -/
theorem Accounts.bringUp (a : Accounts w on h s) (hl : (s.ports.get p).link ≠ .up) : Accounts w on h (bringUp p s) := by
  have hdue := a.beginDueOn p
  have hlink : ((Machine.beginDueOn p s).ports.get p).link ≠ .up := by
    rw [(show Quiet s (Machine.beginDueOn p s) from Quiet.foldl (fun t u => Quiet.beginDue u t) _ s).link]
    exact hl
  have hup := hdue.linked (f := fun v => { v with link := .up, established := false, hold := none }) (fun _ => ⟨rfl, fun _ => rfl⟩) hlink
  unfold Machine.bringUp
  dsimp only
  split
  · rename_i d hd
    refine hup.announceUp ?_
    rw [← Port.domain_eq_some.mp hd]
    exact congrArg PortState.link (PerPort.get_set_same _ _ _)
  · exact hup

theorem Accounts.linkEstablished (a : Accounts w on h s) (p : Port) : Accounts w on h (linkEstablished p s) := by
  unfold Machine.linkEstablished
  split
  · rename_i hl
    exact a.bringUp fun e => by rw [show (s.ports.get p).link = .down from hl] at e; cases e
  · exact a
  · exact a.same (.modPort fun _ => ⟨rfl, fun _ => rfl⟩)

theorem Accounts.linkLost (a : Accounts w on .empty s) (p : Port) : Accounts w on .empty (linkLost p s) := by
  unfold Machine.linkLost
  split
  · exact a
  · exact a.resetPort (by decide) _ _
  · exact a.same (.modPort fun _ => ⟨rfl, fun _ => rfl⟩)

theorem Accounts.holdExpires (a : Accounts w on h s) (p : Port) : Accounts w on h (holdExpires p s) := by
  unfold Machine.holdExpires
  split
  · rename_i he
    have hl : (s.ports.get p).link ≠ .up := fun e => by
      unfold holdOf at he
      rw [show (s.port p).link = .up from e] at he
      rw [if_neg (by decide)] at he
      cases he
    split
    · exact (a.bringUp hl).endCommand _ _ _
    · exact (a.linked (f := fun v => { v with link := .down, hold := none }) (fun _ => ⟨rfl, fun _ => rfl⟩) hl).endCommand _ _ _
  · exact a

end

end Sys2Proof.Machine
end

section
/-! PROOFS. What the cut of a unit, the end of a drain and a settle delay keep of the accounts (R89, R99 to R101, R105). -/

namespace Sys2Proof.Machine

open Sys2Proof

section
variable {w : Prop} {on : Port → Prop} {h : Hand} {s : State} {u : Fin 8}

/-- The tracker makes the cuts of single requests. -/
theorem cutRequests_tracks (hs : s.CountLaw) (l : List Request) : Tracks True True s (l.foldl cutRequest s) :=
  Tracks.foldl (f := cutRequest) (fun _ r hx =>
    (Tracks.endPieces r.id rfl (fun _ e => e) (fun _ => trivial) hx).trans (Tracks.leaveMeter r _)) l fun _ => hs

theorem cutPieces_parked (hs : s.CountLaw) (v : Fin 8) : ((cutPieces u s).units.get v).parked = (s.units.get v).parked := by
  obtain ⟨hst, hother⟩ := cutPieces_start (u := u) hs
  by_cases hv : v = u
  · rw [hv, hst.own]
  · rw [hother v hv]

theorem CutStart.ups {b : State} (hst : CutStart u s b) : b.ups = s.ups := by
  funext p
  unfold State.ups
  rw [hst.link]

/-- The pieces of a unit are cut, before the meters go on. -/
theorem Accounts.cutPieces (a : Accounts w on h s) (u : Fin 8) : Accounts w on h (cutPieces u s) := by
  have hst := (cutPieces_start (u := u) a.count).1
  have g := cutRequests_tracks a.count (requestsInFlight s u)
  refine ⟨hst.count, ?_, fun hh => ⟨?_, fun v k hk => ?_⟩, fun p hp => ?_⟩
  · exact (g.tables a.count a.tables).congr (t := Machine.cutPieces u s) ⟨fun _ _ => rfl, fun _ _ => rfl, fun _ => rfl⟩
      fun _ _ _ _ _ _ => Iff.rfl
  · obtain ⟨hwaits, hparks⟩ := a.waits hh
    exact hst.waits (State.WaitingLaw.of_waits hwaits hparks)
  · rw [hst.ups]
    exact (a.waits hh).2 v k (cutPieces_parked a.count v ▸ hk)
  · have howed (d : Domain) (x : Fin 32) : (Machine.cutPieces u s).owed d x = ((requestsInFlight s u).foldl cutRequest s).owed d x := by
      refine State.owed_of (s := (requestsInFlight s u).foldl cutRequest s) (t := Machine.cutPieces u s) (fun _ _ => rfl) (fun v => ?_) d x
      rw [cutPieces_parked a.count]
      obtain ⟨m, e⟩ := (Confined.tracks g).unit v
      rw [e]
    exact ((a.out p hp).tracks a.count g).congr rfl rfl (fun _ _ => rfl) (fun d _ x => by rw [howed]) fun _ _ => rfl

theorem Accounts.makeCut (a : Accounts w on h s) (u : Fin 8) : Accounts w on h (makeCut u s) := by
  have hcut := a.cutPieces u
  have hended : Accounts w on h (cutEnded u s) :=
    hcut.tracks (cutEnded_tracks a.count) fun hh => (hcut.waits hh).1.goOn_finish _
  rw [makeCut_eq]
  exact (hended.same (Same.foldl (f := fun t (r : Request) => setFlag r.dom .cut t) (fun t r => .setFlag r.dom .cut t) (requestsInFlight s u) _)).raiseFault _

/-- The drain deadline (R100, R101). -/
theorem Accounts.drainDeadline (a : Accounts w on .empty s) (u : Fin 8) (g : Holding) :
    Accounts w on .empty (Machine.endDrain u g (allPorts.foldl (fun x p => Machine.orphanLimit p (some u) x) (Machine.makeCut u s))) :=
  ((a.makeCut u).foldl (f := fun x p => Machine.orphanLimit p (some u) x) (fun _ p b => b.orphanLimit p (some u)) allPorts).endDrain u g

/-- The release time of a meter (R85). -/
theorem Accounts.evalMeter (a : Accounts w on h s) (n : Fin 16) : Accounts w on h (evalMeter n s) :=
  a.tracks (cuts := False) (Tracks.evalMeter n fun _ => a.count) fun hh => (a.waits hh).1.evalMeter n

end

end Sys2Proof.Machine
end

section
/-! PROOFS. What grants, packets that leave and target tags that change keep of the accounts (R62 to R65, R67, R75). -/

namespace Sys2Proof.Machine

open Sys2Proof

section
variable {w : Prop} {on : Port → Prop} {h h' : Hand} {s t : State} {p q : Port} {j : Fin 16}

/-! ### Changes of target ports -/

/-- What a tag in an outbound queue is held by (R9). -/
theorem State.Tables.speaks (h : s.Tables) (hj : j ∈ requestTags (s.ports.get p).outbound) :
    (∃ u e, (s.ports.get p).tags.get j = .live (.scrub u false e)) ∨ ∃ ref, (s.ports.get p).tags.get j = .live (.piece ref) := by
  refine (h.out p j hj).imp_right ?_
  rintro ⟨ref, -, -, -, htag, -⟩
  exact ⟨ref, htag⟩

/-- Fewer packets wait. -/
theorem State.Tables.fewer (h : s.Tables) (hreq : t.requests = s.requests)
    (hq : ∀ p d, (t.ports.get p).arbiter.queueOf d = (s.ports.get p).arbiter.queueOf d)
    (htags : ∀ p j, (t.ports.get p).tags.get j = (s.ports.get p).tags.get j)
    (hout : ∀ p, (requestTags (t.ports.get p).outbound).Sublist (requestTags (s.ports.get p).outbound)) : t.Tables := by
  have hst := State.stands_same hreq
  refine ⟨fun p d => hq p d ▸ h.nodup p d, fun p d ref href => ?_, fun ref p d st x hs hor => ?_, fun p j ref htag => ?_,
    fun p => (h.outNodup p).sublist (hout p), fun p j hj => ?_⟩
  · obtain ⟨x, hx⟩ := h.queued p d ref (hq p d ▸ href)
    exact ⟨x, (hst _ _ _ _ _).mpr hx⟩
  · obtain ⟨j, hx, htag⟩ := h.held ref p d st x ((hst _ _ _ _ _).mp hs) hor
    exact ⟨j, hx, by rw [htags]; exact htag⟩
  · obtain ⟨d, st, hs, hor⟩ := h.named p j ref (htags p j ▸ htag)
    exact ⟨d, st, (hst _ _ _ _ _).mpr hs, hor⟩
  · rw [htags]
    refine (h.out p j ((hout p).subset hj)).imp_right ?_
    rintro ⟨ref, q, d, x, htag, hs⟩
    exact ⟨ref, q, d, x, htag, (hst _ _ _ _ _).mpr hs⟩

/-- Target ports change, and the places of pieces, while pieces and scrub steps alone come and go in the outbound queues. -/
theorem Accounts.outward (a : Accounts w on h s) (hc : t.CountLaw) (ht : t.Tables)
    (hw : Waits s.ups none s → Waits s.ups none t) (hu : ∀ v, (t.units.get v).parked = (s.units.get v).parked)
    (hd : ∀ d x, t.owed d x = s.owed d x) (hi : t.inits = s.inits) (hl : ∀ p, (t.ports.get p).link = (s.ports.get p).link)
    (ho : ∀ p, speech (t.ports.get p).outbound = speech (s.ports.get p).outbound ∧ ∀ pkt ∈ (t.ports.get p).outbound,
      pkt ∈ (s.ports.get p).outbound ∨ (s.ports.get p).link = .up ∧ ∃ j kind a l y, pkt = .request j kind a l y) : Accounts w on h t := by
  have hups : t.ups = s.ups := by
    funext p
    unfold State.ups
    rw [hl]
  refine ⟨hc, ht, fun hh => ?_, fun p hp => (a.out p hp).heard (hl p) (ho p).1 (ho p).2 (fun d _ => by rw [hi]) (fun d _ x => by rw [hd])
    fun _ _ => rfl⟩
  rw [hups]
  exact ⟨hw (a.waits hh).1, fun v k hk => (a.waits hh).2 v k (hu v ▸ hk)⟩

/-- The same where a port alone changes. -/
theorem Accounts.outwardAt {f : PortState → PortState} (a : Accounts w on h s) (ht : (s.modPort p f).Tables)
    (hl : (f (s.ports.get p)).link = (s.ports.get p).link)
    (ho : speech (f (s.ports.get p)).outbound = speech (s.ports.get p).outbound) (hk : ∀ pkt ∈ (f (s.ports.get p)).outbound,
      pkt ∈ (s.ports.get p).outbound ∨ (s.ports.get p).link = .up ∧ ∃ j kind a l y, pkt = .request j kind a l y) :
    Accounts w on h (s.modPort p f) := by
  have hget (q : Port) : (s.modPort p f).ports.get q = if q = p then f (s.ports.get p) else s.ports.get q := PerPort.get_set _ _ _ _
  refine a.outward (State.CountLaw.congr (s := s) rfl (fun _ => rfl) a.count) ht (fun b => b.congr rfl (fun _ => rfl) fun _ => rfl) (fun _ => rfl)
    (fun _ _ => rfl) rfl (fun q => ?_) fun q => ?_
  · rw [hget]
    split
    · rename_i e; rw [e]; exact hl
    · rfl
  · rw [hget]
    split
    · rename_i e; rw [e]; exact ⟨ho, hk⟩
    · exact ⟨rfl, fun pkt hpkt => .inl hpkt⟩

/-- A tag that names no piece changes; what waits under it is a scrub step (R64, R67, R75). -/
theorem Accounts.setTag {v : TagState} (a : Accounts w on h s) (hold : ∀ ref, (s.ports.get p).tags.get j ≠ .live (.piece ref))
    (hv : ∀ ref, v ≠ .live (.piece ref)) (hno : j ∉ requestTags (s.ports.get p).outbound) : Accounts w on h (setTag p j v s) := by
  have hget (q : Port) : (Machine.setTag p j v s).ports.get q =
      if q = p then { s.ports.get p with tags := setAt (s.ports.get p).tags j v } else s.ports.get q := PerPort.get_set _ _ _ _
  have hout (q : Port) : ((Machine.setTag p j v s).ports.get q).outbound = (s.ports.get q).outbound := by
    rw [hget]
    split
    · rename_i e; rw [e]
    · rfl
  refine a.outwardAt (f := fun x => { x with tags := setAt x.tags j v }) ?_ rfl rfl fun _ => .inl
  refine a.tables.retag (t := Machine.setTag p j v s) rfl hold hv (fun q d => ?_) (fun q i => ?_) (fun q => ?_) fun q i hi => .inl ⟨?_, ?_⟩
  · rw [hget]
    split
    · rename_i e; rw [e]
    · rfl
  · rw [hget]
    by_cases hq : q = p
    · subst hq
      rw [if_pos rfl]
      dsimp only
      rw [setAt_get]
      simp only [true_and]
    · rw [if_neg hq, if_neg fun e => hq e.1]
  · rw [hout]; exact a.tables.outNodup q
  · exact hout q ▸ hi
  · rintro ⟨rfl, rfl⟩
    exact hno (hout q ▸ hi)

/-- A tag held by neither a piece nor a scrub step that waits changes. -/
theorem Accounts.retag {v : TagState} (a : Accounts w on h s) (hold : ∀ ref, (s.ports.get p).tags.get j ≠ .live (.piece ref))
    (hstep : ∀ u e, (s.ports.get p).tags.get j ≠ .live (.scrub u false e)) (hv : ∀ ref, v ≠ .live (.piece ref)) :
    Accounts w on h (Machine.setTag p j v s) :=
  a.setTag hold hv fun hj => by
    rcases a.tables.speaks hj with ⟨u, e, htag⟩ | ⟨ref, htag⟩
    · exact hstep u e htag
    · exact hold ref htag

theorem dropOut_sublist (j : Fin 16) (l : List OutPacket) : (dropOut j l).Sublist l := List.filter_sublist

/-- A scrub step is taken back (R67, R104). -/
theorem Accounts.unsend (a : Accounts w on h s) (hold : ∀ ref, (s.ports.get p).tags.get j ≠ .live (.piece ref)) :
    Accounts w on h (unsend p j s) := by
  have hget (q : Port) : (Machine.unsend p j s).ports.get q = if q = p then
      { s.ports.get p with tags := setAt (s.ports.get p).tags j .free, outbound := dropOut j (s.ports.get p).outbound } else s.ports.get q :=
    PerPort.get_set _ _ _ _
  have hout (q : Port) : requestTags ((Machine.unsend p j s).ports.get q).outbound =
      if q = p then (requestTags (s.ports.get p).outbound).filter (fun i => decide (i ≠ j)) else requestTags (s.ports.get q).outbound := by
    rw [hget]
    split
    · exact requestTags_dropOut _ _
    · rfl
  refine a.outwardAt (f := fun x => { x with tags := setAt x.tags j .free, outbound := dropOut j x.outbound }) ?_ rfl (speech_dropOut _ _)
    fun pkt hpkt => .inl ((dropOut_sublist _ _).subset hpkt)
  refine a.tables.retag (t := Machine.unsend p j s) rfl hold (v := .free) (fun _ e => nomatch e) (fun q d => ?_) (fun q i => ?_) (fun q => ?_)
    fun q i hi => .inl ?_
  · rw [hget]
    split
    · rename_i e; rw [e]
    · rfl
  · rw [hget]
    by_cases hq : q = p
    · subst hq
      rw [if_pos rfl]
      dsimp only
      rw [setAt_get]
      simp only [true_and]
    · rw [if_neg hq, if_neg fun e => hq e.1]
  · rw [hout]
    split
    · exact (a.tables.outNodup p).filter _
    · exact a.tables.outNodup q
  · rw [hout] at hi
    split at hi
    · rename_i e
      obtain ⟨hi, hne⟩ := List.mem_filter.mp hi
      exact ⟨e ▸ hi, fun e' => of_decide_eq_true hne e'.2⟩
    · rename_i e
      exact ⟨hi, fun e' => e e'.1⟩

/-- A piece or scrub step leaves the head of the queue (R9, R63). -/
theorem Accounts.headGone {kind : Kind} {addr : Addr} {code : Byte} {data : List Byte} {rest : List OutPacket} (a : Accounts w on h s)
    (ho : (s.ports.get p).outbound = .request j kind addr code data :: rest) :
    Accounts w on h (s.modPort p (fun v => { v with outbound := rest })) := by
  have hget (q : Port) : (s.modPort p (fun v => { v with outbound := rest })).ports.get q =
      if q = p then { s.ports.get p with outbound := rest } else s.ports.get q := PerPort.get_set _ _ _ _
  refine a.outwardAt (f := fun v => { v with outbound := rest }) ?_ rfl ?_ fun pkt hpkt => .inl ?_
  · refine a.tables.fewer rfl (fun q d => ?_) (fun q i => ?_) fun q => ?_
    · rw [hget]
      split
      · rename_i e; rw [e]
      · rfl
    · rw [hget]
      split
      · rename_i e; rw [e]
      · rfl
    · rw [hget]
      split
      · rename_i e
        rw [e, ho]
        exact (List.sublist_cons_self _ _).filterMap _
      · exact List.Sublist.refl _
  · rw [ho, speech_cons]
    simp [speech, eventsIn, noticesIn, replyTags, completionTags]
  · rw [ho]
    exact List.mem_cons_of_mem _ hpkt

/-! ### Pieces that move -/

/-- A piece that is at its target changes its state or tag there. -/
theorem Accounts.pieceMoves {r : Request} {c c' : Piece} (a : Accounts w on h s) (hr : r ∈ s.requests) (hc : c ∈ r.pieces)
    (ht : t.requests = replaced r { r with pieces := replacedPiece c c' r.pieces } s.requests)
    (hat : c.state.atTarget = true) (hcount : t.CountLaw) (htables : t.Tables)
    (hu : t.units = s.units) (hm : t.meters = s.meters) (hi : t.inits = s.inits)
    (hl : ∀ p, (t.ports.get p).link = (s.ports.get p).link)
    (ho : ∀ p, speech (t.ports.get p).outbound = speech (s.ports.get p).outbound ∧ ∀ pkt ∈ (t.ports.get p).outbound,
      pkt ∈ (s.ports.get p).outbound ∨ (s.ports.get p).link = .up ∧ ∃ j kind a l y, pkt = .request j kind a l y) : Accounts w on h t := by
  have hch {y : Piece} (hy : y.state.atTarget = true) : y.state ≠ .charging := fun e => by rw [e] at hy; cases hy
  refine a.outward hcount htables (fun b => ?_) (fun v => by rw [hu]) (a.count.owed_replaced hr ht (fun v => by rw [hu]) ⟨rfl, rfl, rfl⟩) hi hl ho
  refine b.replace (r' := { r with pieces := replacedPiece c c' r.pieces }) hr ht rfl rfl rfl rfl id hcount
    (fun n => by rw [hm]) (fun _ _ _ _ _ => by simp) fun n hn => ?_
  rw [hm] at hn
  obtain ⟨-, hsome, hall⟩ := b.meter_of_listed hr hn
  obtain ⟨y, hy, hys⟩ := hsome (by simp)
  have hyc : y.num ≠ c.num := fun e => hch hat ((a.count.counted hr).piece_eq hc hy e ▸ hys)
  refine ⟨fun _ => ⟨y, List.mem_map.mpr ⟨y, hy, if_neg hyc⟩, hys⟩, fun hdown z hz hzl => ?_⟩
  exact absurd (hall hdown c hc (PieceState.atTarget_live hat)) (hch hat)

/-- A GRANTED piece whose packet has left is SENT (R63). -/
theorem Accounts.pieceSent {r : Request} {c : Piece} (a : Accounts w on h s) (hr : r ∈ s.requests) (hc : c ∈ r.pieces)
    (hg : c.state = .granted) (hx : c.ttag = some j) (hno : j ∉ requestTags (s.ports.get r.target).outbound) :
    Accounts w on h (setPiece ⟨r.id, c.num⟩ (fun c => { c with state := .sent }) s) := by
  have hpiece := (a.count.lone hr).piece ((a.count.counted hr).lonePiece hc)
  have hcount : (setPiece ⟨r.id, c.num⟩ (fun c => { c with state := .sent }) s).CountLaw :=
    a.count.moves (Moves.setPiece (fun y => { y with state := .sent }) hpiece (by rw [hg]; rfl) (fun _ => rfl) fun _ => rfl)
  have hrun := setPiece_lone (a.count.lone hr) ((a.count.counted hr).lonePiece hc) (fun c => { c with state := .sent })
  rw [hrun] at hcount ⊢
  refine a.pieceMoves (c' := { c with state := .sent }) hr hc rfl (by rw [hg]; rfl) hcount ?_ rfl rfl rfl (fun _ => rfl)
    fun _ => ⟨rfl, fun _ => .inl⟩
  have h0 : s.Stands ⟨r.id, c.num⟩ r.target r.dom .granted (some j) := ⟨r, hr, c, hc, rfl, rfl, rfl, hg, hx⟩
  refine a.tables.sent a.count h0 (fun ref p d st x _ => ?_) (fun _ _ => rfl) (fun _ _ => rfl) (fun _ => List.Sublist.refl _) hno
  have hstands := a.count.stands_replaced (r' := { r with pieces := replacedPiece c { c with state := .sent } r.pieces })
    (t := { s with requests := replaced r { r with pieces := replacedPiece c { c with state := .sent } r.pieces } s.requests })
    hr hc rfl rfl rfl rfl rfl rfl ref p d st x
  rw [← hx]
  exact hstands

end

end Sys2Proof.Machine
end

section
/-! PROOFS. What the arbiter's grants and the packets that leave an outbound queue keep of the accounts (R4, R62, R63, R114, R118, R158). -/

namespace Sys2Proof.Machine

open Sys2Proof

section
variable {w : Prop} {on : Port → Prop} {h h' : Hand} {s t : State} {p q : Port} {j : Fin 16}

/-! ### Grants (R62, R63) -/

theorem choose_scrub {x x' : Arbiter} {u : Fin 8} (hg : x.choose = some (.scrub u, x')) (d : Domain) : x'.queueOf d = x.queueOf d := by
  unfold Arbiter.choose at hg
  split at hg
  · obtain ⟨-, rfl⟩ := Prod.mk.inj (Option.some.inj hg)
    cases d <;> rfl
  · cases hg
  · split at hg <;> cases hg
  · cases hg
  · cases hg
  · cases hg

/-- The piece that is granted is the head of the queue of one domain, and leaves it. -/
theorem choose_ref {x x' : Arbiter} {ref : PieceRef} (hg : x.choose = some (.piece ref, x')) :
    ∃ d, x.queueOf d = ref :: x'.queueOf d ∧ ∀ e, e ≠ d → x'.queueOf e = x.queueOf e := by
  obtain ⟨scrub, pay, app, rad, turn⟩ := x
  unfold Arbiter.choose at hg
  dsimp only at hg
  split at hg
  · cases hg
  · obtain ⟨e, rfl⟩ := Prod.mk.inj (Option.some.inj hg)
    obtain rfl := Granted.piece.inj e
    exact ⟨.pay, rfl, fun e he => by cases e <;> trivial⟩
  · split at hg
    · obtain ⟨e, rfl⟩ := Prod.mk.inj (Option.some.inj hg)
      obtain rfl := Granted.piece.inj e
      exact ⟨.app, rfl, fun e he => by cases e <;> trivial⟩
    · obtain ⟨e, rfl⟩ := Prod.mk.inj (Option.some.inj hg)
      obtain rfl := Granted.piece.inj e
      exact ⟨.rad, rfl, fun e he => by cases e <;> trivial⟩
  · obtain ⟨e, rfl⟩ := Prod.mk.inj (Option.some.inj hg)
    obtain rfl := Granted.piece.inj e
    exact ⟨.app, rfl, fun e he => by cases e <;> trivial⟩
  · obtain ⟨e, rfl⟩ := Prod.mk.inj (Option.some.inj hg)
    obtain rfl := Granted.piece.inj e
    exact ⟨.rad, rfl, fun e he => by cases e <;> trivial⟩
  · cases hg

theorem lowestFree_free {v : Vector TagState 16} (hj : lowestFree v = some j) : v.get j = .free := by
  simpa using List.find?_some hj

theorem requestTags_append (l : List OutPacket) (kind : Kind) (a : Addr) (c : Byte) (y : List Byte) :
    requestTags (l ++ [.request j kind a c y]) = requestTags l ++ [j] := by
  unfold requestTags
  rw [List.filterMap_append]
  rfl

/-- The state in which tag `j` of port `p` is held by `v`, whose packet waits. -/
def withGrant (p : Port) (j : Fin 16) (v : TagState) (pkt : OutPacket) (x : Arbiter) (l : List Request) (s : State) : State :=
  { s with
    ports := s.ports.set p
      { s.ports.get p with arbiter := x, tags := setAt (s.ports.get p).tags j v, outbound := (s.ports.get p).outbound ++ [pkt] }
    requests := l }

section
variable {v : TagState} {kind : Kind} {addr : Addr} {code : Byte} {data : List Byte} {x : Arbiter} {l : List Request}

theorem withGrant_port (s : State) (q : Port) : (withGrant p j v (.request j kind addr code data) x l s).ports.get q = if q = p then
    { s.ports.get p with
      arbiter := x, tags := setAt (s.ports.get p).tags j v
      outbound := (s.ports.get p).outbound ++ [.request j kind addr code data] } else s.ports.get q :=
  PerPort.get_set _ _ _ _

theorem withGrant_link (s : State) (q : Port) :
    ((withGrant p j v (.request j kind addr code data) x l s).ports.get q).link = (s.ports.get q).link := by
  rw [withGrant_port]
  split
  · rename_i e; rw [e]
  · rfl

theorem withGrant_tags (s : State) (q : Port) (i : Fin 16) : ((withGrant p j v (.request j kind addr code data) x l s).ports.get q).tags.get i =
    if q = p ∧ i = j then v else (s.ports.get q).tags.get i := by
  rw [withGrant_port]
  by_cases hq : q = p
  · subst hq
    rw [if_pos rfl]
    dsimp only
    rw [setAt_get]
    simp only [true_and]
  · rw [if_neg hq, if_neg fun e => hq e.1]

theorem withGrant_requestTags (s : State) (q : Port) :
    requestTags ((withGrant p j v (.request j kind addr code data) x l s).ports.get q).outbound =
      requestTags (s.ports.get q).outbound ++ if q = p then [j] else [] := by
  rw [withGrant_port]
  split
  · rename_i e
    rw [e]
    exact requestTags_append _ _ _ _ _
  · rw [List.append_nil]

theorem withGrant_said (hup : (s.ports.get p).link = .up) (q : Port) :
    speech ((withGrant p j v (.request j kind addr code data) x l s).ports.get q).outbound = speech (s.ports.get q).outbound ∧
    ∀ pkt ∈ ((withGrant p j v (.request j kind addr code data) x l s).ports.get q).outbound,
      pkt ∈ (s.ports.get q).outbound ∨ (s.ports.get q).link = .up ∧ ∃ j kind a l y, pkt = .request j kind a l y := by
  rw [withGrant_port]
  split
  · rename_i e
    rw [e]
    refine ⟨speech_request _ _ _ _ _ _, fun pkt hpkt => ?_⟩
    rcases List.mem_append.mp hpkt with hold | hnew
    · exact .inl hold
    · exact .inr ⟨hup, _, _, _, _, _, List.mem_singleton.mp hnew⟩
  · exact ⟨rfl, fun pkt hpkt => .inl hpkt⟩

end

/-- A FREE tag holds nothing that waits (R9). -/
theorem State.Tables.free_silent (b : s.Tables) (hfree : (s.ports.get p).tags.get j = .free) : j ∉ requestTags (s.ports.get p).outbound := fun hj => by
  rcases b.speaks hj with ⟨u, e, htag⟩ | ⟨ref, htag⟩ <;> (rw [hfree] at htag; cases htag)

/-- A grant to a scrub step (R63, R103). -/
theorem Accounts.grantStep {x : Arbiter} (a : Accounts w on h s) (hup : (s.ports.get p).link = .up)
    (hfree : (s.ports.get p).tags.get j = .free) (hqueue : ∀ d, x.queueOf d = (s.ports.get p).arbiter.queueOf d) (u : Fin 8) :
    Accounts w on h (grantTag p j (.scrub u) (s.modPort p (fun v => { v with arbiter := x }))) := by
  have hsilent := a.tables.free_silent hfree
  unfold grantTag
  dsimp only
  split
  · refine a.same ⟨rfl, fun _ => ⟨rfl, rfl⟩, fun _ => rfl, fun q => ?_, fun q d => ?_, rfl⟩
    · show (((s.ports.set p _).get q).link, ((s.ports.set p _).get q).outbound, ((s.ports.set p _).get q).tags) = _
      rw [PerPort.get_set]
      split
      · rename_i e; rw [e]
      · rfl
    · show ((s.ports.set p _).get q).arbiter.queueOf d = _
      rw [PerPort.get_set]
      split
      · rename_i e; rw [e]; exact hqueue d
      · rfl
  · rename_i st hst
    generalize hv : TagState.live (.scrub u false _) = v
    have hrun := placeOut_setTag (t := j) hup x s.requests v (.request j .write st.addr (codeOfLength st.data.length) st.data)
    refine Eq.mpr (congrArg _ hrun) (a.outward (t := withGrant p j v
      (.request j .write st.addr (codeOfLength st.data.length) st.data) x s.requests s) ?_ ?_ ?_ (fun _ => rfl)
      (fun _ _ => rfl) rfl (fun q => withGrant_link _ _) (withGrant_said hup))
    · exact State.CountLaw.congr (s := s) rfl (fun _ => rfl) a.count
    · refine a.tables.retag (p0 := p) (j0 := j) (v := v) rfl (fun ref => by rw [hfree]; exact fun e => nomatch e)
        (fun ref => by rw [← hv]; exact fun e => nomatch e) (fun q d => ?_) (fun q i => withGrant_tags _ _ _) (fun q => ?_) fun q i hi => ?_
      · rw [withGrant_port]
        split
        · rename_i e; rw [e]; exact hqueue d
        · rfl
      · rw [withGrant_requestTags]
        split
        · rename_i e
          subst e
          exact List.nodup_append.mpr ⟨a.tables.outNodup q, List.nodup_singleton _, fun y hy z hz => by
            rw [List.mem_singleton.mp hz]; rintro rfl; exact hsilent hy⟩
        · rw [List.append_nil]; exact a.tables.outNodup q
      · rw [withGrant_requestTags] at hi
        rcases List.mem_append.mp hi with hold | hnew
        · refine .inl ⟨hold, ?_⟩
          rintro ⟨rfl, rfl⟩
          exact hsilent hold
        · split at hnew
          · rename_i e
            exact .inr ⟨e, List.mem_singleton.mp hnew, u, _, hv.symm⟩
          · cases hnew
    · exact fun b => b.congr rfl (fun _ => rfl) fun _ => rfl

/-- A grant to the piece at the head of its queue (R63). -/
theorem Accounts.grantPiece {x : Arbiter} {ref : PieceRef} {d : Domain} (a : Accounts w on h s) (hup : (s.ports.get p).link = .up)
    (hfree : (s.ports.get p).tags.get j = .free) (hqueue : (s.ports.get p).arbiter.queueOf d = ref :: x.queueOf d)
    (hothers : ∀ e, e ≠ d → x.queueOf e = (s.ports.get p).arbiter.queueOf e) :
    Accounts w on h (grantTag p j (.piece ref) (s.modPort p (fun v => { v with arbiter := x }))) := by
  obtain ⟨y, hstands⟩ := a.tables.queued p d ref (by rw [hqueue]; exact List.mem_cons_self)
  have hnodup := a.tables.nodup p d
  rw [hqueue] at hnodup
  obtain ⟨r, hr, c, hc, rfl, rfl, rfl, hst, rfl⟩ := hstands
  have hlone := a.count.lone hr
  have hpiece := (a.count.counted hr).lonePiece hc
  let c' : Piece := { c with state := .granted, ttag := some j, deadline := grantDeadline r s.gateTime }
  let l := replaced r { r with pieces := replacedPiece c c' r.pieces } s.requests
  let pkt : OutPacket := .request j r.kind c.addr (codeOfLength c.len) (piecePayload r c)
  have hrun : grantTag r.target j (.piece ⟨r.id, c.num⟩) (s.modPort r.target (fun v => { v with arbiter := x })) =
      withGrant r.target j (.live (.piece ⟨r.id, c.num⟩)) pkt x l s := by
    unfold grantTag
    dsimp only
    rw [show (s.modPort r.target (fun v => { v with arbiter := x })).piece ⟨r.id, c.num⟩ = some (r, c) from hlone.piece hpiece]
    dsimp only
    rw [if_pos hst, setPiece_lone (hlone.congr (t := Machine.setTag r.target j (.live (.piece ⟨r.id, c.num⟩))
      (s.modPort r.target (fun v => { v with arbiter := x }))) rfl) hpiece]
    exact placeOut_setTag (t := j) hup x l _ pkt
  have hcount : (withGrant r.target j (.live (.piece ⟨r.id, c.num⟩)) pkt x l s).CountLaw := by
    rw [← hrun]
    exact a.count.moves ((Moves.modPort List.suffix_rfl).trans (Moves.grantTag _ _ _ _))
  rw [hrun]
  refine a.pieceMoves (c' := c') hr hc rfl (by rw [hst]; rfl) hcount ?_ rfl rfl rfl (fun q => withGrant_link _ _) (withGrant_said hup)
  have h0 : s.Stands ⟨r.id, c.num⟩ r.target r.dom .queued c.ttag := ⟨r, hr, c, hc, rfl, rfl, rfl, hst, rfl⟩
  refine a.tables.granted (j0 := j) a.count h0 hfree (fun ref q e st z _ => ?_) (fun q e => ?_) (fun q i => withGrant_tags _ _ _)
    fun q => withGrant_requestTags _ _
  · exact a.count.stands_replaced (r' := { r with pieces := replacedPiece c c' r.pieces }) (c' := c') hr hc rfl rfl rfl rfl rfl rfl ref q e st z
  · rw [withGrant_port]
    by_cases hq : q = r.target
    · subst hq
      rw [if_pos rfl]
      dsimp only
      by_cases he : e = r.dom
      · subst he
        rw [hqueue]
        exact ⟨List.sublist_cons_self _ _, fun _ _ => (List.nodup_cons.mp hnodup).1⟩
      · rw [hothers e he]
        exact ⟨List.Sublist.refl _, fun _ e' => absurd e' he⟩
    · rw [if_neg hq]
      exact ⟨List.Sublist.refl _, fun e' => absurd e' hq⟩

/-- A grant keeps the accounts (R62, R63). -/
theorem Accounts.arbiterGrant (a : Accounts w on h s) (p : Port) : Accounts w on h (arbiterGrant p s) := by
  unfold Machine.arbiterGrant
  split
  · rename_i hup
    have hup : (s.ports.get p).link = .up := (State.isUp_iff _ _).mp hup
    split
    · rename_i j g x hj hg
      cases g with
      | scrub u => exact a.grantStep hup (lowestFree_free hj) (choose_scrub hg) u
      | piece ref =>
        obtain ⟨d, hqueue, hothers⟩ := choose_ref hg
        exact a.grantPiece hup (lowestFree_free hj) hqueue hothers
    · exact a
    · exact a
  · exact a

/-! ### Pieces and scrub steps that leave (R63, R67) -/

/-- A waiting piece of a POST ends as it leaves: its place is emptied (R63). -/
theorem setTag_vacate {r : Request} {c : Piece} (hg : c.state = .granted) (hx : c.ttag = some j)
    (hno : j ∉ requestTags (s.ports.get r.target).outbound) : Machine.setTag r.target j .free s = vacate r c s := by
  have hdrop : dropOut j (s.ports.get r.target).outbound = (s.ports.get r.target).outbound := by
    refine List.filter_eq_self.mpr fun pkt hpkt => ?_
    cases pkt with
    | request i k y z data =>
      refine decide_eq_true ?_
      rintro rfl
      exact hno (List.mem_filterMap.mpr ⟨_, hpkt, rfl⟩)
    | completion => rfl
    | reply => rfl
    | event => rfl
    | notice => rfl
  unfold vacate
  rw [hg, hx]
  dsimp only
  unfold Machine.setTag Machine.unsend State.modPort
  dsimp only
  rw [hdrop]

/-- A piece or scrub step has left the link (R63). -/
theorem Accounts.pieceLeft (a : Accounts w on h s) (hno : j ∉ requestTags (s.ports.get p).outbound)
    (hwas : (∃ u e, (s.ports.get p).tags.get j = .live (.scrub u false e)) ∨
      ∃ ref q d x, (s.ports.get p).tags.get j = .live (.piece ref) ∧ s.Stands ref q d .granted x) : Accounts w on h (pieceLeft p j s) := by
  rcases hwas with ⟨u, e, htag⟩ | ⟨ref, q, d, x, htag, hst⟩
  · unfold Machine.pieceLeft
    rw [show (s.port p).tags.get j = .live (.scrub u false e) from htag]
    exact a.setTag (fun ref => by rw [htag]; exact fun e => nomatch e) (fun _ e => nomatch e) hno
  · obtain ⟨d', st, hst', -⟩ := a.tables.named p j ref htag
    obtain ⟨rfl, rfl, rfl, rfl⟩ := a.count.stands_unique hst hst'
    obtain ⟨r, hr, c, hc, rfl, rfl, rfl, hg, hx⟩ := hst
    have hpiece := (a.count.lone hr).piece ((a.count.counted hr).lonePiece hc)
    have hl : c.state.live = true := by rw [hg]; rfl
    unfold Machine.pieceLeft
    rw [show (s.port r.target).tags.get j = .live (.piece ⟨r.id, c.num⟩) from htag]
    dsimp only
    rw [hpiece]
    dsimp only
    rw [if_pos hg]
    split
    · rw [setTag_vacate hg hx hno]
      have hends : Tracks True False s (Machine.finishRequest r.id (endPiece ⟨r.id, c.num⟩ (.resolved .ok) (vacate r c s))) :=
        (Tracks.one (.ends s r c _ rfl (fun e => by rw [hg] at e; cases e) fun _ => ⟨r, hr, rfl, rfl, rfl, hc, hl⟩)).trans
          (Tracks.finishRequest _ _)
      refine a.tracks hends fun hh => ?_
      rw [Confined.ups (Confined.tracks hends)]
      exact ((a.waits hh).1.endPiece rfl hr hc hl (by rw [hg]; exact fun e => nomatch e)).finishRequest _
    · exact a.pieceSent hr hc hg hx hno

theorem headLeaves_some {pkt : OutPacket} (hh : headLeaves p s = some (pkt, t)) : (s.ports.get p).link = .up ∧
    ∃ rest, (s.ports.get p).outbound = pkt :: rest ∧ t = s.modPort p (fun v => { v with outbound := rest }) := by
  unfold headLeaves at hh
  split at hh
  · rename_i hup
    split at hh
    · cases hh
    · rename_i y rest ho
      obtain ⟨rfl, rfl⟩ := Prod.mk.inj (Option.some.inj hh)
      exact ⟨(State.isUp_iff _ _).mp hup, rest, ho, rfl⟩
  · cases hh

/-- PIECE_LEAVES (R63). -/
theorem Accounts.pieceLeaves {kind : Kind} {addr : Addr} {code : Byte} {data : List Byte} (a : Accounts w on h s)
    (hh : headLeaves p s = some (.request j kind addr code data, t)) : Accounts w on h (Machine.pieceLeft p j t) := by
  obtain ⟨-, rest, ho, rfl⟩ := headLeaves_some hh
  have hget : (s.modPort p (fun v => { v with outbound := rest })).ports.get p = { s.ports.get p with outbound := rest } :=
    PerPort.get_set_same _ _ _
  have hout : requestTags (s.ports.get p).outbound = j :: requestTags rest := by rw [ho]; rfl
  refine (a.headGone ho).pieceLeft ?_ ?_
  · rw [hget]
    have := a.tables.outNodup p
    rw [hout] at this
    exact (List.nodup_cons.mp this).1
  · rw [hget]
    exact a.tables.out p j (by rw [hout]; exact List.mem_cons_self)

/-! ### Packets to initiators that leave (R4, R5, R114, R118) -/

/-- A packet to the initiator `e` leaves, and its side changes. -/
theorem Accounts.headLeft {e : Domain} {pkt : OutPacket} {f : InitState → InitState} (a : Accounts w on h s)
    (hh : headLeaves e.port s = some (pkt, t)) (hpkt : requestTags [pkt] = [])
    (hs : ∀ {due cmd v rest}, Said due cmd v (pkt :: rest) → Said due cmd (f v) rest) : Accounts w on h (t.modInit e f) := by
  obtain ⟨hup, rest, ho, rfl⟩ := headLeaves_some hh
  let t' := (s.modPort e.port (fun v => { v with outbound := rest })).modInit e f
  have hget (q : Port) : t'.ports.get q = if q = e.port then { s.ports.get e.port with outbound := rest } else s.ports.get q :=
    PerPort.get_set _ _ _ _
  have hinit (d : Domain) : t'.inits.get d = if d = e then f (s.inits.get e) else s.inits.get d := PerDomain.get_set _ _ _ _
  have hlink (q : Port) : (t'.ports.get q).link = (s.ports.get q).link := by
    rw [hget]
    split
    · rename_i e; rw [e]
    · rfl
  have hups : t'.ups = s.ups := by
    funext q
    unfold State.ups
    rw [hlink]
  refine ⟨State.CountLaw.congr (s := s) (t := t') rfl (fun _ => rfl) a.count, ?_, fun hw => ?_, fun q hq => ?_⟩
  · refine a.tables.congr (t := t') ⟨fun q d => ?_, fun q i => ?_, fun q => ?_⟩ fun _ _ _ _ _ _ => Iff.rfl
    · rw [hget]
      split
      · rename_i e; rw [e]
      · rfl
    · rw [hget]
      split
      · rename_i e; rw [e]
      · rfl
    · rw [hget]
      split
      · rename_i e'
        rw [e', ho, ← List.singleton_append]
        unfold requestTags at hpkt ⊢
        rw [List.filterMap_append, hpkt]
        rfl
      · rfl
  · obtain ⟨hwaits, hparks⟩ := a.waits hw
    rw [show ((s.modPort e.port (fun v => { v with outbound := rest })).modInit e f).ups = s.ups from hups]
    exact ⟨hwaits.congr (t := t') rfl (fun _ => rfl) fun _ => rfl, hparks⟩
  · have b := a.out q hq
    by_cases hqe : q = e.port
    · subst hqe
      refine ⟨fun hdown => absurd ((hlink _).trans hup) hdown, fun hno => ?_, fun d hd => ?_⟩
      · rw [Domain.port_domain] at hno
        cases hno
      · obtain rfl := Domain.port_inj hd
        have hsaid := b.said e rfl
        rw [ho] at hsaid
        show Said _ _ (t'.inits.get e) (t'.ports.get e.port).outbound
        rw [hget, if_pos rfl, hinit, if_pos rfl]
        exact hs hsaid
    · have hne (d : Domain) (hd : q = d.port) : d ≠ e := fun e' => hqe (e' ▸ hd)
      exact b.congr (t := t') (by rw [hget, if_neg hqe]) (by rw [hget, if_neg hqe]) (fun d hd => by rw [hinit, if_neg (hne d hd)])
        (fun _ _ _ => le_refl _) fun _ _ => rfl

end

end Sys2Proof.Machine
end

section
/-! PROOFS. What COMPLETIONs and deadlines keep of the accounts (R65 to R67, R70, R73 to R75, R104). -/

namespace Sys2Proof.Machine

open Sys2Proof

section
variable {w : Prop} {on : Port → Prop} {h h' : Hand} {s t x : State} {p : Port} {j : Fin 16} {r : Request} {c : Piece}

/-! ### A piece that ends under a tag that is freed at once (R65, R66) -/

theorem endPiece_setTag (ref : PieceRef) (st : PieceState) (p : Port) (j : Fin 16) (v : TagState) (s : State) :
    endPiece ref st (setTag p j v s) = setTag p j v (endPiece ref st s) := by
  unfold endPiece
  rw [show (setTag p j v s).piece ref = s.piece ref from rfl]
  cases s.piece ref with
  | none => rfl
  | some y =>
    dsimp only
    split
    · cases y.1.unit <;> rfl
    · rfl

/-- The end of a SENT piece whose tag is freed is that of one whose tag is orphaned, but for the tag. -/
theorem endPiece_freed (hs : c.state = .sent) (hx : c.ttag = some j) (st : PieceState) (s : State) :
    endPiece ⟨r.id, c.num⟩ st (setTag r.target j .free s) = setTag r.target j .free (endPiece ⟨r.id, c.num⟩ st (vacate r c s)) := by
  have hvacate : vacate r c s = setTag r.target j .orphaned s := by
    unfold vacate
    rw [hs, hx]
  have htwice : setTag r.target j .free (setTag r.target j .orphaned s) = setTag r.target j .free s := by
    unfold setTag State.modPort
    dsimp only
    rw [PerPort.get_set_same, PerPort.set_set]
    dsimp only
    rw [setAt_setAt]
  rw [hvacate, ← endPiece_setTag, htwice]

/-- A piece at its target ends in its place. -/
theorem Accounts.pieceEnds {st : PieceState} (a : Accounts w on h s) (hr : r ∈ s.requests) (hc : c ∈ r.pieces)
    (hat : c.state.atTarget = true) (hst : st.live = false) : Accounts w on h (endPiece ⟨r.id, c.num⟩ st (vacate r c s)) := by
  have hl := PieceState.atTarget_live hat
  have g : Tracks True True s (endPiece ⟨r.id, c.num⟩ st (vacate r c s)) :=
    .one (.ends s r c st hst (fun _ => trivial) fun _ => ⟨r, hr, rfl, rfl, rfl, hc, hl⟩)
  refine a.tracks g fun hh => ?_
  rw [Confined.ups (Confined.tracks g)]
  exact (a.waits hh).1.endPiece hst hr hc hl fun e => by rw [e] at hat; cases hat

/-- The same under a tag that is freed at once. -/
theorem Accounts.pieceEnds_freed {st : PieceState} (a : Accounts w on h s) (hr : r ∈ s.requests) (hc : c ∈ r.pieces)
    (hs : c.state = .sent) (hx : c.ttag = some j) (hst : st.live = false) :
    Accounts w on h (endPiece ⟨r.id, c.num⟩ st (Machine.setTag r.target j .free s)) := by
  have htag : ((endPiece ⟨r.id, c.num⟩ st (vacate r c s)).ports.get r.target).tags.get j = .orphaned := by
    rw [endPiece_ports, vacate_eq]
    dsimp only
    rw [PerPort.get_set_same, leavePlace_tag, if_pos ⟨hx, .inr hs⟩, if_neg (by rw [hs]; exact fun e => nomatch e)]
  rw [endPiece_freed hs hx]
  exact (a.pieceEnds hr hc (by rw [hs]; rfl) hst).retag (fun ref => by rw [htag]; exact fun e => nomatch e)
    (fun u e => by rw [htag]; exact fun e => nomatch e) fun _ e => nomatch e

theorem Accounts.loose (a : Accounts w on h s) : Accounts False on h s := ⟨a.count, a.tables, fun e => e.elim, a.out⟩

/-- The accounts of the waiting lists are added. -/
theorem Accounts.withWaits (a : Accounts False on h t) (hw : w → Waits t.ups none t ∧ t.Parks t.ups) : Accounts w on h t :=
  ⟨a.count, a.tables, hw, a.out⟩

theorem State.Parks.congr {up : Port → Prop} (hp : s.Parks up) (hu : ∀ v, (t.units.get v).parked = (s.units.get v).parked) : t.Parks up :=
  fun v k hk => hp v k (hu v ▸ hk)

/-- What a failing piece ends, once it has ended itself, the tracker ends (R70, R71, R89). -/
theorem failPiece_tracks {ref : PieceRef} {st : PieceStatus} (hx : (endPiece ref (.resolved st) x).CountLaw) :
    Tracks True False (endPiece ref (.resolved st) x) (failPiece ref st x) := by
  have hremove := Tracks.removeUnsent (counted := True) (cuts := False) ref.req fun _ => hx
  exact hremove.trans ((Tracks.evalNewHeads x (hremove.countLaw fun _ => hx)).trans (Tracks.finishRequest _ _))

/-- A piece fails that has left its place in `x` (R70, R89). -/
theorem Accounts.pieceFails {st : PieceStatus} (a : Accounts w on h s) (hr : r ∈ s.requests) (hc : c ∈ r.pieces) (hl : c.state.live = true)
    (hx : x = { s with ports := x.ports }) (hlink : ∀ p, (x.ports.get p).link = (s.ports.get p).link)
    (he : Accounts False on h (endPiece ⟨r.id, c.num⟩ (.resolved st) x)) : Accounts w on h (failPiece ⟨r.id, c.num⟩ st x) := by
  have hups : x.ups = s.ups := by
    funext q
    unfold State.ups
    rw [hlink]
  have hreq : x.requests = s.requests := by rw [hx]
  have hunits : x.units = s.units := by rw [hx]
  have hmeters : x.meters = s.meters := by rw [hx]
  have g := failPiece_tracks he.count
  refine (he.tracks g fun e => e.elim).withWaits fun hh => ?_
  obtain ⟨hwaits, hparks⟩ := a.waits hh
  have hxwaits : Waits x.ups none x := by
    rw [hups]
    exact hwaits.congr hreq (fun v => by rw [hunits]) fun n => by rw [hmeters]
  refine ⟨hxwaits.failPiece (hreq ▸ hr) hc hl st, ?_⟩
  rw [show (failPiece ⟨r.id, c.num⟩ st x).ups = s.ups from (Quiet.ups (Quiet.failPiece _ _ x)).trans hups]
  refine hparks.congr fun v => ?_
  obtain ⟨m, e⟩ := (Confined.tracks g).unit v
  obtain ⟨k, e'⟩ := (Confined.endPiece ⟨r.id, c.num⟩ (.resolved st) x).unit v
  rw [e, e', hunits]

/-! ### COMPLETIONs (R65, R66) -/

/-- The bytes of a READ are taken. -/
theorem Accounts.takeReadData (a : Accounts w on h s) (hr : r ∈ s.requests) (c : Piece) (data : List Byte) :
    Accounts w on h (takeReadData r c data s) := by
  unfold Machine.takeReadData
  split
  · have hcount : (s.modRequest r.id (fun x => { x with readData := placeBytes x.readData (c.addr - r.taddr).toNat data })).CountLaw :=
      a.count.moves (.one (.record s r.id _ fun _ => ⟨rfl, rfl, rfl, rfl, rfl⟩))
    have htables : (s.modRequest r.id (fun x => { x with readData := placeBytes x.readData (c.addr - r.taddr).toNat data })).Tables := by
      refine a.tables.congr ⟨fun _ _ => rfl, fun _ _ => rfl, fun _ => rfl⟩ fun ref p d st x _ => State.stands_map
        (f := fun y => if y.id = r.id then { y with readData := placeBytes y.readData (c.addr - r.taddr).toNat data } else y) (fun y => ?_) rfl
        ref p d st x
      split <;> exact ⟨rfl, rfl, rfl, rfl⟩
    rw [(a.count.lone hr).modRequest] at hcount htables ⊢
    refine a.outward hcount htables (fun b => ?_) (fun _ => rfl) (a.count.owed_replaced hr rfl (fun _ => rfl) ⟨rfl, rfl, rfl⟩) rfl (fun _ => rfl)
      fun _ => ⟨rfl, fun _ => .inl⟩
    refine b.replace (r' := { r with readData := placeBytes r.readData (c.addr - r.taddr).toNat data }) hr rfl rfl rfl rfl rfl id hcount
      (fun _ => List.Sublist.refl _) (fun _ _ _ _ _ => by simp) fun n hn => ?_
    obtain ⟨-, hsome, hall⟩ := b.meter_of_listed hr hn
    exact ⟨fun _ => hsome (by simp), hall⟩
  · exact a

theorem takeReadData_mem (hs : s.CountLaw) (hr : r ∈ s.requests) (c : Piece) (data : List Byte) :
    ∃ q ∈ (Machine.takeReadData r c data s).requests, q.id = r.id ∧ q.target = r.target ∧ q.pieces = r.pieces := by
  unfold Machine.takeReadData
  split
  · rw [(hs.lone hr).modRequest]
    exact ⟨_, (mem_replaced hr).mpr (.inl rfl), rfl, rfl, rfl⟩
  · exact ⟨r, hr, rfl, rfl, rfl⟩

theorem takeReadData_setTag (r : Request) (c : Piece) (data : List Byte) (p : Port) (j : Fin 16) (v : TagState) (s : State) :
    Machine.takeReadData r c data (Machine.setTag p j v s) = Machine.setTag p j v (Machine.takeReadData r c data s) := by
  unfold Machine.takeReadData
  split <;> rfl

theorem Accounts.finishRequest (a : Accounts w on h s) (id : Nat) : Accounts w on h (finishRequest id s) := by
  refine a.tracks (cuts := False) (Tracks.finishRequest id s) fun hh => ?_
  rw [Confined.ups (Confined.finishRequest id s)]
  exact (a.waits hh).1.finishRequest id

theorem completionStatus_cases (r : Request) (c : Piece) (status : Byte) (data : List Byte) :
    completionStatus r c status data = .ok ∨ completionStatus r c status data = .targetError := by
  unfold completionStatus
  split
  · exact .inr rfl
  · split
    · exact .inr rfl
    · exact .inl rfl

/-- A SENT piece is resolved by its COMPLETION (R66, R70). -/
theorem Accounts.completePiece (a : Accounts w on h s) (hr : r ∈ s.requests) (hc : c ∈ r.pieces) (hs : c.state = .sent)
    (hx : c.ttag = some j) (status : Byte) (data : List Byte) :
    Accounts w on h (completePiece ⟨r.id, c.num⟩ r c status data (Machine.setTag r.target j .free s)) := by
  unfold Machine.completePiece
  split
  · obtain ⟨q, hq, hid, htarget, hpieces⟩ := takeReadData_mem a.count hr c data
    rw [takeReadData_setTag, ← htarget, ← hid]
    exact ((a.takeReadData hr c data).pieceEnds_freed hq (hpieces ▸ hc) hs hx rfl).finishRequest _
  · refine Accounts.raiseFault (a.pieceFails hr hc (by rw [hs]; rfl) (x := Machine.setTag r.target j .free s) rfl (fun p => ?_)
      (a.loose.pieceEnds_freed hr hc hs hx rfl)) _
    exact (Quiet.modPort (p := r.target) (f := fun x => { x with tags := setAt x.tags j .free }) rfl).link p
  all_goals
    rename_i he
    rcases completionStatus_cases r c status data with e | e <;> (rw [e] at he; cases he)

/-- A COMPLETION is matched by its tag (R65). -/
theorem Accounts.completionArrives (a : Accounts w on h s) (p : Port) (j : Fin 16) (status : Byte) (present : Bool) (code : Byte)
    (data : List Byte) : Accounts w on h (completionArrives p j status present code data s) := by
  have hfree (hold : ∀ ref, (s.ports.get p).tags.get j ≠ .live (.piece ref))
      (hstep : ∀ u e, (s.ports.get p).tags.get j ≠ .live (.scrub u false e)) : Accounts w on h (Machine.setTag p j .free s) :=
    a.retag hold hstep fun _ e => nomatch e
  unfold Machine.completionArrives
  split
  · exact a
  · rename_i htag
    have htag : (s.ports.get p).tags.get j = .orphaned := htag
    exact hfree (fun ref => by rw [htag]; exact fun e => nomatch e) fun u e => by rw [htag]; exact fun e => nomatch e
  · rename_i u sent e htag
    have htag : (s.ports.get p).tags.get j = .live (.scrub u sent e) := htag
    split
    · rename_i hsent
      have b := hfree (fun ref => by rw [htag]; exact fun e => nomatch e) fun u e => by rw [htag, hsent]; exact fun e => nomatch e
      split
      · exact b.stepDone u
      · exact b.stepFailed u
    · exact a.raiseFault _
  · rename_i ref htag
    have htag : (s.ports.get p).tags.get j = .live (.piece ref) := htag
    split
    · exact a.raiseFault _
    · rename_i r c hf
      split
      · rename_i hs
        obtain ⟨d, st, hst, -⟩ := a.tables.named p j ref htag
        obtain ⟨hr, hid, hc, hnum⟩ := piece_some hf
        obtain rfl : ref = ⟨r.id, c.num⟩ := by rw [hid, hnum]
        obtain ⟨rfl, -, -, hx⟩ := a.count.stands_unique hst ⟨r, hr, c, hc, rfl, rfl, rfl, rfl, rfl⟩
        exact a.completePiece hr hc hs hx status data
      · exact a.raiseFault _

/-! ### Deadlines (R67, R73 to R75) -/

theorem pieceUnder_some {ref : PieceRef} (hu : pieceUnder s p j = some (ref, r, c)) :
    (s.ports.get p).tags.get j = .live (.piece ref) ∧ s.piece ref = some (r, c) := by
  unfold pieceUnder at hu
  split at hu
  · rename_i ref' htag
    split at hu
    · rename_i r' c' hf
      split at hu
      · obtain ⟨rfl, e⟩ := Prod.mk.inj (Option.some.inj hu)
        obtain ⟨rfl, rfl⟩ := Prod.mk.inj e
        exact ⟨htag, hf⟩
      · cases hu
    · cases hu
  all_goals cases hu

/-- A completion deadline (R73, R75). -/
theorem Accounts.pieceTimesOut {ref : PieceRef} (a : Accounts w on .empty s) (hu : pieceUnder s p j = some (ref, r, c)) :
    Accounts w on .empty (Machine.orphanLimit p none
      (Machine.raiseFault (pieceFault .timeout r c) (setFlag r.dom .timeout (failPiece ref .timeout (vacate r c s))))) := by
  obtain ⟨htag, hf⟩ := pieceUnder_some hu
  obtain ⟨d, st, hst, hor⟩ := a.tables.named p j ref htag
  obtain ⟨hr, hid, hc, hnum⟩ := piece_some hf
  obtain rfl : ref = ⟨r.id, c.num⟩ := by rw [hid, hnum]
  obtain ⟨-, -, rfl, -⟩ := a.count.stands_unique hst ⟨r, hr, c, hc, rfl, rfl, rfl, rfl, rfl⟩
  have hat : c.state.atTarget = true := by rcases hor with e | e <;> (rw [e]; rfl)
  have hfails := a.pieceFails (st := .timeout) hr hc (PieceState.atTarget_live hat) (x := vacate r c s) (by rw [vacate_eq])
    (fun q => by rw [(Quiet.vacate r c s).link]) (a.loose.pieceEnds hr hc hat rfl)
  exact ((hfails.same (.setFlag _ _ _)).raiseFault _).orphanLimit p none

theorem stepTag_some {u : Fin 8} {sent : Bool} {e : Option Nat} (hu : stepTag s u = some (p, j, sent, e)) :
    (s.ports.get p).tags.get j = .live (.scrub u sent e) := by
  unfold stepTag at hu
  split at hu
  · cases hu
  · rename_i q hq
    obtain ⟨i, -, hi⟩ := List.exists_of_findSome?_eq_some hu
    split at hi
    · rename_i v sent' e' htag
      split at hi
      · rename_i hv
        obtain ⟨e1, e2⟩ := Prod.mk.inj (Option.some.inj hi)
        obtain ⟨e2, e3⟩ := Prod.mk.inj e2
        obtain ⟨e3, e4⟩ := Prod.mk.inj e3
        rw [← e1, ← e2, ← e3, ← e4, ← hv]
        exact htag
      · cases hi
    all_goals cases hi

/-- The deadline of a scrub step (R67, R75). -/
theorem Accounts.stepTimesOut {u : Fin 8} {sent : Bool} {e : Option Nat} (a : Accounts w on .empty s)
    (hu : stepTag s u = some (p, j, sent, e)) : Accounts w on .empty (Machine.orphanLimit p none
      (Machine.stepFailed u (if sent then Machine.setTag p j .orphaned s else Machine.unsend p j s))) := by
  have htag := stepTag_some hu
  have hold (ref : PieceRef) : (s.ports.get p).tags.get j ≠ .live (.piece ref) := by rw [htag]; exact fun e => nomatch e
  have hgone : Accounts w on .empty (if sent then Machine.setTag p j .orphaned s else Machine.unsend p j s) := by
    split
    · rename_i hsent
      exact a.retag hold (fun u e => by rw [htag, hsent]; exact fun e => nomatch e) fun _ e => nomatch e
    · exact a.unsend hold
  exact (hgone.stepFailed u).orphanLimit p none

end

end Sys2Proof.Machine
end

section
/-! PROOFS. What packets that arrive keep of the accounts: requests, events and commands (R6 to R8, R25 to R31, R57, R115 to R117, R158,
R159). -/

namespace Sys2Proof.Machine

open Sys2Proof

section
variable {w : Prop} {on : Port → Prop} {h h' : Hand} {s t : State} {p : Port} {q : Arrival}

/-! ### Taking a packet (R6 to R8) -/

theorem fromIngress_some {pkt : Packet} (hf : fromIngress p pkt s = some t) : Same s t ∧ t.ups p := by
  unfold fromIngress at hf
  split at hf
  · rename_i hup
    have hup : (s.ports.get p).link = .up := (State.isUp_iff _ _).mp hup
    split at hf
    · obtain rfl := Option.some.inj hf
      exact ⟨Same.refl s, hup⟩
    · rename_i rest _
      split at hf
      · obtain rfl := Option.some.inj hf
        have hsame : Same s (s.modPort p (fun v => { v with ingress := rest })) := .modPort fun _ => ⟨rfl, fun _ => rfl⟩
        exact ⟨hsame, (hsame.link p).trans hup⟩
      · cases hf
  · cases hf

/-- A packet is taken: what its block does with it keeps the accounts, and a malformed one is discarded. -/
theorem Accounts.takePacket {pkt : Packet} {block : State → State} (a : Accounts w on h s)
    (hb : ∀ x, checkPacket x p pkt = none → x.ups p → Accounts w on h x → Accounts w on h (block x)) :
    Accounts w on h (takePacket p pkt block s) := by
  unfold Machine.takePacket
  split
  · exact a
  · rename_i x hf
    obtain ⟨hsame, hup⟩ := fromIngress_some hf
    have b := a.same hsame
    split
    · exact b.raiseFault _
    · rename_i hc
      exact hb x hc hup b

/-! ### Requests (R25 to R31, R57) -/

theorem Accounts.decideCustody (a : Accounts w on h s) (ht : ∀ d x, h'.tags d x + owes q.dom q.tag d x ≤ h.tags d x)
    (hc : ∀ d, h'.cmd d = h.cmd d) (hw : w → s.ups q.dom.port ∧ 1 ≤ q.len ∧ q.len ≤ 256) (e : EntryCopy) :
    Accounts w on h' (decideCustody q e s) := by
  have hlen : w → s.ups q.dom.port ∧ 1 ≤ q.len := fun hh => ⟨(hw hh).1, (hw hh).2.1⟩
  unfold Machine.decideCustody
  split
  · exact a.admitRequest ht hc hlen e
  · split
    · exact a.admitRequest ht hc hlen e
    · exact a.parkRequest ht hc hw _ e
    · exact a.denyCustody ht hc _ e

theorem Accounts.decideRequest (a : Accounts w on h s) (ht : ∀ d x, h'.tags d x + owes q.dom q.tag d x ≤ h.tags d x)
    (hc : ∀ d, h'.cmd d = h.cmd d) (hw : w → s.ups q.dom.port ∧ 1 ≤ q.len ∧ q.len ≤ 256) : Accounts w on h' (decideRequest q s) := by
  unfold Machine.decideRequest
  split
  · exact a.denyRequest ht hc _ _ _ _
  · split
    · exact a.denyRequest ht hc _ _ _ _
    · split
      · exact a.decideCustody ht hc hw _
      · exact a.denyRequest ht hc _ _ _ _

/-- In hand is the answer under tag `x` of domain `d`. -/
def Hand.answering (d : Domain) (x : Fin 32) : Hand := ⟨fun e y => owes d (some x) e y, fun _ => none⟩

/-- A READ or WRITE enters its tag (R4). -/
theorem Accounts.enterTag {d : Domain} {x : Fin 32} (a : Accounts w on .empty s) (hx : x ∉ (s.inits.get d).tags) :
    Accounts w on (.answering d x) (enterTag d x s) := by
  refine a.noted (fun e he => ⟨fun y => ?_, rfl⟩) fun b => b.enterTag hx fun y => ?_
  · show owes d (some x) e y ≤ 0
    unfold owes
    rw [if_neg fun e' => he e'.1.symm]
  · show owes d (some x) d y + s.owed d y ≤ 0 + s.owed d y + if y = x then 1 else 0
    unfold owes
    by_cases hy : y = x
    · rw [if_pos hy, if_pos ⟨rfl, congrArg some hy.symm⟩]
      omega
    · rw [if_neg hy, if_neg fun e => hy (Option.some.inj e.2).symm]
      exact le_refl _

/-- A request that passed the checks of R7 (R4, R57). -/
theorem Accounts.requestArrives {d : Domain} {kind : Kind} {tag : Fin 32} (a : Accounts w on .empty s) (hup : s.ups d.port)
    (hnew : kind ≠ .post → tag ∉ (s.inits.get d).tags) (code : Byte) (addr : Addr) (data : List Byte) :
    Accounts w on .empty (requestArrives d kind tag code addr data s) := by
  obtain ⟨hlow, hhigh⟩ := lengthOfCode_bounds code
  unfold Machine.requestArrives
  split
  · split
    · refine a.decideRequest (fun e x => ?_) (fun _ => rfl) fun _ => ⟨hup, hlow, hhigh⟩
      show 0 + owes d none e x ≤ 0
      unfold owes
      rw [if_neg fun e => nomatch e.2]
    · exact a.same (.setFlag _ _ _)
  · rename_i hk
    have hup' : (Machine.enterTag d tag s).ups d.port := hup
    exact (a.enterTag (hnew hk)).decideRequest (fun e x => le_of_eq (Nat.zero_add _)) (fun _ => rfl) fun _ => ⟨hup', hlow, hhigh⟩

/-! ### Peripheral events (R115 to R117) -/

theorem Accounts.routeEvent (a : Accounts w on h s) (p : Port) (code : Byte) (data : List Byte) : Accounts w on h (routeEvent p code data s) := by
  unfold Machine.routeEvent
  split
  · rename_i d _
    unfold deliverEvent
    split
    · rename_i hup
      split
      · exact a.placed rfl ((State.isUp_iff _ _).mp hup) (Hand.others_refl d h) fun b => b.event _ _ _ _ _
      · exact a.noted (Hand.others_refl d h) fun b => b.gap true
    · exact a
  · exact a

/-! ### Commands (R158, R159) -/

/-- The command in hand is replied to, and the hand is empty. -/
theorem Accounts.answered {d : Domain} {x : Fin 4} (a : Accounts w on (Hand.empty.taking d (some x)) s) (st : ReplyStatus) (res : List Byte) :
    Accounts w on .empty (Machine.reply d x st res s) := by
  have b := a.reply (Hand.taking_cmd d (some x) .empty) st res
  rw [Hand.taking_taking, Hand.empty_taking_none] at b
  exact b

theorem Accounts.carried {d : Domain} {x : Fin 4} (a : Accounts w on (Hand.empty.taking d (some x)) s) (c : Carrier) :
    Accounts w on .empty (Machine.carryCommand d x c s) := by
  have b := a.carryCommand (Hand.taking_cmd d (some x) .empty) c
  rw [Hand.taking_taking, Hand.empty_taking_none] at b
  exact b

theorem Accounts.badParameter {d : Domain} {m : MgmtPacket} (a : Accounts w on (Hand.empty.taking d (some m.tag)) s) :
    Accounts w on .empty (badParameter d m s) := a.answered _ _

/-- A command is taken: its own part has it in hand. -/
theorem Accounts.takeCommand {code : Byte} {m : MgmtPacket} {permitted : Domain → Bool} {body : Domain → State → State}
    (a : Accounts w on .empty s) (hb : ∀ d x, permitted d = true → Accounts w on (Hand.empty.taking d (some m.tag)) x →
      Accounts w on .empty (body d x)) : Accounts w on .empty (takeCommand p code m permitted body s) := by
  refine a.takePacket fun x hc hup b => ?_
  split
  · exact b
  · rename_i d hd
    have g := b.enterCommand (tagInUse_of_check hd hc) code
    dsimp only
    split
    · rename_i hp
      exact hb d _ hp g
    · exact (g.raiseFault _).answered _ _

end

end Sys2Proof.Machine
end

section
/-! PROOFS. Every command keeps the accounts. -/

namespace Sys2Proof.Machine

open Sys2Proof

section
variable {w : Prop} {on : Port → Prop} {h h' : Hand} {s t : State} {p : Port}

/-! ### The part after a reset (R14, R167) -/

/-- The state after a reset has nothing in its accounts. -/
theorem Accounts.resetPart (cause : ResetCause) (s : State) : Accounts w on .empty (resetPart cause s) := by
  obtain ⟨-, -, -, -, -, -, -, -, -, -, -, hcount, -, -, htag, -, hwaiting, hparked, htarget, -, -⟩ := resetStateKeepsTheLaws
  have hport (q : Port) : (State.reset.ports.get q).outbound = [] := by cases q <;> rfl
  have hlink (q : Port) : (State.reset.ports.get q).link ≠ .up := by cases q <;> exact fun e => nomatch e
  have hsame : Same State.reset (Machine.resetPart cause s) := .of_eq rfl rfl rfl rfl rfl
  refine Accounts.same ⟨hcount, State.targetLaw_iff.mp htarget, fun _ => ⟨Waits.of_law hcount hwaiting, fun u k hk =>
    ⟨hparked u k hk, hwaiting.2.2 u k hk⟩⟩, fun q _ => ⟨fun _ => hport q, fun _ pkt hpkt => ?_, fun d hd => ?_⟩⟩ hsame
  · rw [hport] at hpkt
    cases hpkt
  · have howed (x : Fin 32) : State.reset.owed d x = 0 := by
      have hparked (u : Fin 8) : owedParked (State.reset.units.get u).parked d x = 0 := by
        show owedParked ((Vector.replicate 8 CustodyUnit.reset).get u).parked d x = 0
        rw [replicate_get]
        rfl
      unfold State.owed
      rw [Finset.sum_congr rfl fun u _ => hparked u]
      simp [owedRequests, State.reset, State.afterReset]
    rw [hport]
    have hinit : State.reset.inits.get d = InitState.reset := by cases d <;> rfl
    rw [hinit]
    exact ⟨rfl, rfl, rfl, List.nodup_nil, fun _ ht => (nomatch ht), List.nodup_nil, fun _ e => (nomatch e), fun x => by
      rw [howed]
      exact Nat.zero_le _⟩

theorem Same.modFlags (d : Domain) (f : Sticky → Sticky) (s : State) : Same s (s.modFlags d f) := of_eq rfl rfl rfl rfl rfl

theorem Same.setPendingBank (v : Vector Entry 96) (s : State) : Same s (s.setPendingBank v) := of_eq rfl rfl rfl rfl rfl

theorem Same.pinEntry (i : Fin 96) (s : State) : Same s (pinEntry i s) := of_eq rfl rfl rfl rfl rfl

theorem Same.storeControl (c : FaultClass) (flags weight : Byte) (s : State) : Same s (storeControl c flags weight s) :=
  of_eq rfl rfl rfl rfl rfl

/-! ### Commands that change what the accounts do not read -/

theorem Accounts.fetchFaults {d : Domain} {m : MgmtPacket} (a : Accounts w on (Hand.empty.taking d (some m.tag)) s) (n : Nat) :
    Accounts w on .empty (fetchFaults d m n s) := by
  have hafter {x : State} (b : Accounts w on .empty x) : Accounts w on .empty (afterFetch d x) := by
    unfold afterFetch
    split
    · exact b.same (.setArmed _ _ _)
    · exact b.tellReader d
  unfold Machine.fetchFaults
  split
  · exact hafter ((a.same (.setSupQ _ _)).answered _ _)
  · exact hafter ((a.same (.setOwnQ _ _ _)).answered _ _)

theorem Accounts.changeMeter (a : Accounts w on h s) (n : Fin 16) (rate depth : Nat) : Accounts w on h (changeMeter n rate depth s) := by
  have hsame : Same (Machine.abortCommit s) ((Machine.abortCommit s).modMeter n (fun v => v.change s.gateTime rate depth)) := .modMeter rfl
  exact (a.abortCommit.same hsame).evalMeter n

theorem Accounts.storePort (a : Accounts w on h s) (q : Port) (params : List Byte) (route : Option Domain) :
    Accounts w on h (storePort q params route s) := by
  unfold Machine.storePort
  have hkeep {x : State} (b : Accounts w on h x) : Accounts w on h (x.modPort q (fun v => { v with config := v.config.select params route })) :=
    b.same (.modPort fun _ => ⟨rfl, fun _ => rfl⟩)
  split
  · exact hkeep a.abortCommit
  · exact hkeep a

theorem Accounts.storeDefinition {d : Domain} {m : MgmtPacket} (a : Accounts w on (Hand.empty.taking d (some m.tag)) s) (u : Fin 8)
    (v : UnitDefinition) : Accounts w on .empty (storeDefinition u v d m s) := by
  have hsame : Same (Machine.abortCommit s) ((Machine.abortCommit s).modUnit u (fun x => x.define v)) := .modUnit ⟨rfl, rfl⟩
  exact (a.abortCommit.same hsame).answered _ _

theorem Accounts.defineUnit {d : Domain} {m : MgmtPacket} (a : Accounts w on (Hand.empty.taking d (some m.tag)) s) :
    Accounts w on .empty (defineUnit d m s) := by
  unfold Machine.defineUnit
  split
  · exact a.badParameter
  · split
    · split
      · split
        · exact a.storeDefinition _ _
        · split
          · split
            · exact a.answered _ _
            · exact a.storeDefinition _ _
          · exact a.badParameter
      · exact a.answered _ _
    · exact a.badParameter

theorem Accounts.endValidation (a : Accounts w on h s) : Accounts w on h (endValidation s) := by
  unfold Machine.endValidation
  split
  · exact (a.same (.setCommit _ _)).endCommand _ _ _
  · have hsame : Same s (swapBanks s) := .of_eq rfl rfl rfl rfl rfl
    exact (a.same hsame).endCommand _ _ _

/-! ### Takes and returns (R95 to R98) -/

theorem Accounts.accepted {tag : Fin 4} (a : Accounts w on (Hand.empty.taking .pay (some tag)) s) (u : Fin 8) (op : HandoverKind)
    (start : Resting) (g : Holding) : Accounts w on .empty (Machine.acceptHandover u op start g tag s) := by
  have b := a.acceptHandover (Hand.taking_cmd .pay (some tag) .empty) u op start g
  rw [Hand.taking_taking, Hand.empty_taking_none] at b
  exact b

theorem Accounts.takeUnit {m : MgmtPacket} (a : Accounts w on (Hand.empty.taking .pay (some m.tag)) s) (u : Fin 8) (g : Holding) :
    Accounts w on .empty (takeUnit u g .pay m s) := by
  unfold Machine.takeUnit
  split
  · exact a.badParameter
  · split
    · exact a.answered _ _
    · split
      · exact a.answered _ _
      · exact a.accepted _ _ _ _

theorem Accounts.returnUnit {m : MgmtPacket} (a : Accounts w on (Hand.empty.taking .pay (some m.tag)) s) (u : Fin 8) :
    Accounts w on .empty (returnUnit u .pay m s) := by
  unfold Machine.returnUnit
  dsimp only
  split
  · exact a.answered _ _
  · exact a.accepted _ _ _ _
  · split
    · have b := a.abortTake (Hand.taking_cmd .pay (some m.tag) .empty) u
      rw [Hand.taking_taking, Hand.empty_taking_none] at b
      exact b
    · exact a.answered _ _
  · exact a.answered _ _
  · exact a.accepted _ _ _ _

theorem onlyP_iff {d : Domain} (hd : onlyP d = true) : d = .pay := of_decide_eq_true hd

/-! ### Every command -/

/-- Every command keeps the accounts, with nothing in hand before and after. -/
theorem Accounts.exec {c : Instr} (a : Accounts w on .empty s) (hrun : exec c s = .next t) : Accounts w on .empty t := by
  have hnext {x : State} (hx : Accounts w on .empty x) (e : Host.Outcome.next x = (.next t : Host.Outcome State Fault Refusal)) :
      Accounts w on .empty t := by
    obtain rfl := Host.Outcome.next.inj e
    exact hx
  cases c with
  | powerOn => exact hnext (.resetPart _ s) hrun
  | resetLine => exact hnext (.resetPart _ s) hrun
  | linkEstablished p => exact hnext (a.linkEstablished p) hrun
  | linkLost p => exact hnext (a.linkLost p) hrun
  | holdExpiry p => exact hnext (a.holdExpires p) hrun
  | requestTaken p kind tag code addr payload =>
    refine hnext (a.takePacket fun x hc hup b => ?_) hrun
    split
    · exact b
    · rename_i d hd
      exact b.requestArrives (Port.domain_eq_some.mp hd ▸ hup) (tag_new_of_check hd hc) _ _ _
  | releaseTime n =>
    refine hnext ?_ hrun
    split
    · exact (a.same (.modMeter rfl)).evalMeter n
    · exact a
  | arbiterGrant p => exact hnext (a.arbiterGrant p) hrun
  | pieceLeaves p =>
    refine hnext ?_ hrun
    split
    · rename_i hh; exact a.pieceLeaves hh
    all_goals exact a
  | completionLeaves p =>
    refine hnext ?_ hrun
    split
    · rename_i x _ _ y d hh hd
      exact a.headLeft (f := fun v => { v with tags := v.tags.filter (fun i => decide (i ≠ x)) }) (Port.domain_eq_some.mp hd ▸ hh) rfl
        Said.completionLeaves
    · exact a
  | replyLeaves p =>
    refine hnext ?_ hrun
    split
    · rename_i x _ _ y d hh hd
      exact a.headLeft (f := fun v => { v with commands := v.commands.filter (fun c => c.discard || decide (c.tag ≠ x)) })
        (Port.domain_eq_some.mp hd ▸ hh) rfl Said.replyLeaves
    · exact a
  | eventLeaves p =>
    refine hnext ?_ hrun
    split
    · rename_i hh hd
      exact a.headLeft (f := fun v => { v with eventCount := v.eventCount - 1 }) (Port.domain_eq_some.mp hd ▸ hh) rfl Said.eventLeaves
    · exact a
  | noticeLeaves p =>
    refine hnext ?_ hrun
    split
    · rename_i k y d hh hd
      refine a.headLeft (f := fun v => v.noticeLeft k) (Port.domain_eq_some.mp hd ▸ hh) rfl ?_
      cases k with
      | fault => exact Said.faultLeaves
      | custody => exact Said.custodyLeaves
    · exact a
  | completionTaken p tag status present code payload =>
    exact hnext (a.takePacket fun x _ _ b => b.completionArrives _ _ _ _ _ _) hrun
  | completionDeadline p tag =>
    refine hnext ?_ hrun
    split
    · exact a
    · rename_i hu
      split
      · exact a.pieceTimesOut hu
      · exact a
  | scrubStepDeadline u =>
    refine hnext ?_ hrun
    split
    · exact a
    · rename_i hu
      split
      · exact a.stepTimesOut hu
      · exact a
  | drainEnd u => exact hnext (a.beginDue u) hrun
  | drainDeadline u =>
    refine hnext ?_ hrun
    split
    · split
      · exact a.drainDeadline u _
      · exact a
    · exact a
  | settleExpiry u =>
    refine hnext ?_ hrun
    split
    · split
      · exact a.grantUnit u _
      · exact a
    · exact a
  | eventTaken p source code gap declared payload => exact hnext (a.takePacket fun x _ _ b => b.routeEvent _ _ _) hrun
  | validationEnd =>
    refine hnext ?_ hrun
    split
    · split
      · exact a.endValidation
      · exact a
    · exact a
  | unknownCommand p code m =>
    refine hnext ?_ hrun
    split
    · exact a
    · exact a.takeCommand fun d x _ b => b.answered _ _
  | status p m =>
    refine hnext (a.takeCommand fun d x _ b => ?_) hrun
    split
    · exact b.answered _ _
    · exact b.badParameter
  | timeRead p m =>
    refine hnext (a.takeCommand fun d x _ b => ?_) hrun
    split
    · exact b.answered _ _
    · exact b.badParameter
  | faultFetch p m =>
    refine hnext (a.takeCommand fun d x _ b => ?_) hrun
    split
    · exact b.fetchFaults _
    · exact b.badParameter
  | flagsTake p m =>
    refine hnext (a.takeCommand fun d x _ b => ?_) hrun
    split
    · split
      · exact (b.same (.modFlags _ _ _)).answered _ _
      · exact b.badParameter
    · exact b.badParameter
  | scoreRead p m =>
    refine hnext (a.takeCommand fun d x _ b => ?_) hrun
    split
    · split
      · exact (b.same (.modScore _ _ _)).answered _ _
      · exact b.badParameter
    · exact b.badParameter
  | tableClone p m =>
    refine hnext (a.takeCommand fun d x _ b => ?_) hrun
    split
    · exact (b.abortCommit.same (.setPendingBank _ _)).answered _ _
    · exact b.badParameter
  | entryWrite p m =>
    refine hnext (a.takeCommand fun d x _ b => ?_) hrun
    split
    · split
      · exact b.badParameter
      · split
        · exact b.badParameter
        · exact (b.abortCommit.same (.setPendingBank _ _)).answered _ _
    · exact b.badParameter
  | entryRead p m =>
    refine hnext (a.takeCommand fun d x _ b => ?_) hrun
    split
    · split
      · exact b.answered _ _
      · exact b.badParameter
    · exact b.badParameter
  | tableCommit p m =>
    refine hnext (a.takeCommand fun d x _ b => ?_) hrun
    split
    · split
      · exact b.answered _ _
      · exact (b.carried _).same (.setCommit _ _)
    · exact b.badParameter
  | entryPin p m =>
    refine hnext (a.takeCommand fun d x _ b => ?_) hrun
    split
    · split
      · exact b.badParameter
      · split
        · exact b.answered _ _
        · exact (b.same (.pinEntry _ _)).answered _ _
    · exact b.badParameter
  | unitDefine p m => exact hnext (a.takeCommand fun d x _ b => b.defineUnit) hrun
  | custodyTake p m =>
    refine hnext (a.takeCommand fun d x hp b => ?_) hrun
    obtain rfl := onlyP_iff hp
    split
    · split
      · exact b.takeUnit _ _
      · exact b.badParameter
    · exact b.badParameter
  | custodyReturn p m =>
    refine hnext (a.takeCommand fun d x hp b => ?_) hrun
    obtain rfl := onlyP_iff hp
    split
    · split
      · exact b.returnUnit _
      · exact b.badParameter
    · exact b.badParameter
  | unitRead p m =>
    refine hnext (a.takeCommand fun d x _ b => ?_) hrun
    split
    · split
      · exact b.answered _ _
      · exact b.badParameter
    · exact b.badParameter
  | meterSet p m =>
    refine hnext (a.takeCommand fun d x _ b => ?_) hrun
    split
    · split
      · exact b.badParameter
      · split
        · exact b.answered _ _
        · exact (b.changeMeter _ _ _).answered _ _
    · exact b.badParameter
  | meterRead p m =>
    refine hnext (a.takeCommand fun d x _ b => ?_) hrun
    split
    · split
      · exact b.answered _ _
      · exact b.badParameter
    · exact b.badParameter
  | faultControl p m =>
    refine hnext (a.takeCommand fun d x _ b => ?_) hrun
    split
    · split
      · exact b.answered _ _
      · exact b.badParameter
    · split
      · exact (b.same (.storeControl _ _ _ _)).answered _ _
      · exact b.badParameter
    · exact b.badParameter
  | scoreControl p m =>
    refine hnext (a.takeCommand fun d x _ b => ?_) hrun
    split
    · split
      · exact (b.same (.modScore _ _ _)).answered _ _
      · exact b.badParameter
    · exact b.badParameter
  | pardon p m =>
    refine hnext (a.takeCommand fun d x _ b => ?_) hrun
    split
    · split
      · exact ((b.same (.modScore _ _ _)).same (.modDomain _ _ _)).answered _ _
      · exact b.badParameter
    · exact b.badParameter
  | quarantine p m =>
    refine hnext (a.takeCommand fun d x _ b => ?_) hrun
    split
    · split
      · exact (b.same (.modDomain _ _ _)).answered _ _
      · exact b.badParameter
    · exact b.badParameter
  | domainSet p m =>
    refine hnext (a.takeCommand fun d x _ b => ?_) hrun
    split
    · split
      · exact (b.same (.modDomain _ _ _)).answered _ _
      · exact b.badParameter
    · exact b.badParameter
  | portSet p m =>
    refine hnext (a.takeCommand fun d x _ b => ?_) hrun
    split
    · split
      · exact b.badParameter
      · split
        · exact b.badParameter
        · exact (b.storePort _ _ _).answered _ _
    · exact b.badParameter
  | portReset p m =>
    refine hnext (a.takeCommand fun d x _ b => ?_) hrun
    split
    · split
      · exact b.badParameter
      · split
        · exact b.badParameter
        · split
          · exact b.answered _ _
          · exact (b.carried _).resetPort (by decide) _ _
    · exact b.badParameter
  | gateReset p m =>
    refine hnext (a.takeCommand fun d x _ b => ?_) hrun
    split
    · exact .resetPart _ _
    · exact b.badParameter
  | malformedPacketTaken p pkt =>
    refine hnext ?_ hrun
    split
    · exact a.takePacket fun x _ _ b => b
    · exact a
  | gateTimeLargestValue =>
    refine hnext ?_ hrun
    split
    · exact a.same (.of_eq rfl rfl rfl rfl rfl)
    · exact a

end

end Sys2Proof.Machine
end

section
/-! PROOFS. The laws of the meters, the parked requests and the initiator ports that need no accounts (R4, R79, R81, R114, R158). -/

namespace Sys2Proof.Machine

open Sys2Proof

section
variable {s t : State}

/-! ### What every move keeps -/

theorem Move.parked (m : Move true s t) (hs : s.ParkedLaw) : t.ParkedLaw := by
  cases m with
  | unit u v _ hv =>
    intro w k hk
    by_cases hw : w = u
    · subst hw
      rw [setAt_get_same] at hk
      exact (hv.parked k hk).elim (hs w k) fun e => e
    · rw [setAt_get_other _ _ hw] at hk
      exact hs w k hk
  | endPiece ref st _ =>
    intro w k hk
    obtain ⟨m, e⟩ := (Confined.endPiece ref st s).unit w
    rw [e] at hk
    exact hs w k hk
  | enter r _ _ =>
    intro w k hk
    rw [countIn_parked] at hk
    exact hs w k hk
  | port | init | meter | supQ | ownQ | flags | score | domain | commit | setPiece | record | release => exact hs

theorem Move.initiators (m : Move true s t) (hs : s.EventLaw ∧ s.TagLaw) : t.EventLaw ∧ t.TagLaw := by
  have hinits (hi : t.inits = s.inits) : t.EventLaw ∧ t.TagLaw := by
    unfold State.EventLaw State.TagLaw
    rw [hi]
    exact hs
  cases m with
  | init d v hv =>
    obtain ⟨hevent, htag⟩ := hs
    refine ⟨fun e => ?_, fun e => ?_⟩
    · by_cases he : e = d
      · subst he
        rw [PerDomain.get_set_same]
        exact hv.events (hevent e)
      · rw [PerDomain.get_set_other _ _ he]
        exact hevent e
    · by_cases he : e = d
      · subst he
        rw [PerDomain.get_set_same]
        exact ⟨hv.tags (htag e).1, hv.commands (htag e).2⟩
      · rw [PerDomain.get_set_other _ _ he]
        exact htag e
  | endPiece ref st _ =>
    obtain ⟨l, v, e, -⟩ := endPiece_eq ref st s
    exact hinits (by rw [e])
  | enter r _ _ => exact hinits (withNew_inits r s)
  | port | unit | meter | supQ | ownQ | flags | score | domain | commit | setPiece | record | release => exact hs

/-! ### Meters (R79, R81) -/

theorem State.MeterLaw.steady (hs : s.MeterLaw) (h : Steady s t) : t.MeterLaw := fun n => by
  obtain ⟨hrate, hdepth, hcredit⟩ := h.meter n
  obtain ⟨h1, h2, h3, h4⟩ := hs n
  exact ⟨hrate ▸ h1, hdepth ▸ h2, hdepth ▸ h3, hcredit h4⟩

theorem State.MeterLaw.edit (hs : s.MeterLaw) (e : Edit s t) : t.MeterLaw := by
  cases e with
  | meter n x rate depth hr hd hd' _ =>
    intro m
    rw [show (s.modMeter n (fun v => v.change x rate depth)).meters.get m = if m = n then _ else _ from setAt_get _ _ _ _]
    split
    · exact ⟨hr, hd, hd', Nat.min_le_left _ _⟩
    · exact hs m
  | cut u => exact hs.steady (cutPieces_steady u s)
  | time | pin | clone | write | startCommit | swap | define | control => exact hs

theorem meterLaw_step (h : step s = .next t) (hs : s.MeterLaw) : t.MeterLaw :=
  step_keeps (P := State.MeterLaw) (fun _ _ hs => hs) (fun p x hx => hx.steady (arrive_steady p x)) (fun _ _ m hs => hs.steady m.steady)
    (fun _ _ e hs => hs.edit e) (fun _ x n => by rw [resetPart_meter]; decide) h hs

/-! ### Parked requests (R1, R52) -/

theorem State.ParkedLaw.congr (hs : s.ParkedLaw) (hu : ∀ u, (t.units.get u).parked = (s.units.get u).parked) : t.ParkedLaw :=
  fun u k hk => hs u k (hu u ▸ hk)

theorem State.ParkedLaw.edit (hs : s.ParkedLaw) (e : Edit s t) : t.ParkedLaw := by
  have hunit {u : Fin 8} {f : CustodyUnit → CustodyUnit} (hf : (f (s.units.get u)).parked = (s.units.get u).parked) :
      (s.modUnit u f).ParkedLaw := hs.congr fun w => by
    rw [show (s.modUnit u f).units.get w = if w = u then _ else _ from setAt_get _ _ _ _]
    split
    · rename_i e; rw [e]; exact hf
    · rfl
  cases e with
  | define u _ d _ _ _ => exact hunit rfl
  | cut u =>
    have hmoves : Moves true s ((requestsInFlight s u).foldl cutRequest s) := Moves.foldl (fun t r => Moves.cutRequest t r) _ s
    refine State.ParkedLaw.congr (hmoves.keep (P := State.ParkedLaw) (fun _ _ => Move.parked) hs) fun w => ?_
    rw [cutPieces, State.modUnit_units, setAt_get]
    split
    · rename_i e; rw [e]
    · rfl
  | time | pin | clone | write | startCommit | swap | meter | control => exact hs

theorem parkedLaw_step (h : step s = .next t) (hs : s.ParkedLaw) : t.ParkedLaw := by
  refine step_keeps (P := State.ParkedLaw) (fun _ _ hs => hs) (fun p x hx => ?_) (fun _ _ m hs => m.keep (fun _ _ => Move.parked) hs)
    (fun _ _ e hs => hs.edit e) (fun _ x u k hk => ?_) h hs
  · rcases arrive_cases p x with e | ⟨_, _, -, -, e⟩ <;> (rw [e]; exact hx)
  · rw [resetPart_unit] at hk
    cases hk

/-! ### Initiator ports (R4, R118, R158) -/

theorem initiatorLaws_step (h : step s = .next t) (hs : s.EventLaw ∧ s.TagLaw) : t.EventLaw ∧ t.TagLaw := by
  have hinits {x y : State} (hi : y.inits = x.inits) (hx : x.EventLaw ∧ x.TagLaw) : y.EventLaw ∧ y.TagLaw := by
    unfold State.EventLaw State.TagLaw
    rw [hi]
    exact hx
  refine step_keeps (P := fun x => x.EventLaw ∧ x.TagLaw) (fun _ _ hs => hs) (fun p x hx => ?_)
    (fun _ _ m hs => m.keep (P := fun x => x.EventLaw ∧ x.TagLaw) (fun _ _ => Move.initiators) hs) (fun x y e hx => ?_) (fun cause x => ?_) h hs
  · rcases arrive_cases p x with e | ⟨_, _, -, -, e⟩ <;> (rw [e]; exact hx)
  · cases e with
    | cut u =>
      have hmoves : Moves true x ((requestsInFlight x u).foldl cutRequest x) := Moves.foldl (fun t r => Moves.cutRequest t r) _ x
      exact hinits rfl (hmoves.keep (P := fun x => x.EventLaw ∧ x.TagLaw) (fun _ _ => Move.initiators) hx)
    | time | pin | clone | write | startCommit | swap | define | meter | control => exact hx
  · obtain ⟨-, -, -, -, -, -, -, -, -, -, -, -, -, hevent, htag, -⟩ := resetStateKeepsTheLaws
    exact hinits (x := State.reset) rfl ⟨hevent, htag⟩

/-! ### Steps and the accounts -/

theorem Accounts.arrive {w : Prop} {on : Port → Prop} {h : Hand} (a : Accounts w on h s) (p : Port) : Accounts w on h (arrive p s) := by
  rcases arrive_cases p s with e | ⟨pkt, rest, -, -, e⟩
  · rw [e]; exact a
  · have hsame : Same s (s.modPort p (fun v => { v with ingress := v.ingress ++ [pkt] })) := .modPort fun _ => ⟨rfl, fun _ => rfl⟩
    rw [e]
    exact (a.same hsame).same (.of_eq rfl rfl rfl rfl rfl)

/-- Every step keeps the accounts. -/
theorem Accounts.step {w : Prop} {on : Port → Prop} (a : Accounts w on .empty s) (h : step s = .next t) : Accounts w on .empty t := by
  unfold Machine.step at h
  split at h
  · unfold idle at h
    split at h
    · rw [← Host.Outcome.next.inj h]
      exact a.arrive _
    · exact a.exec h
    · rw [← Host.Outcome.next.inj h]
      exact a.same (.of_eq rfl rfl rfl rfl rfl)
  · rename_i l _
    have hsame : Same s { s with pending := l } := .of_eq rfl rfl rfl rfl rfl
    exact (a.same hsame).exec h

/-- Settles O7: meters and parked requests are followed move by move; the waiting lists by the accounts of the requests, which every
command keeps. -/
theorem everyStepKeepsMeterLaw : Obligations.EveryStepKeepsMeterLaw := by
  unfold Obligations.EveryStepKeepsMeterLaw
  refine fun s t h => ⟨meterLaw_step h, parkedLaw_step h, ?_⟩
  rintro ⟨hcount, htarget, hparked, hwaiting⟩
  have a : Accounts True (fun _ => False) .empty s := ⟨hcount, State.targetLaw_iff.mp htarget,
    fun _ => ⟨Waits.of_law hcount hwaiting, fun u k hk => ⟨hparked u k hk, hwaiting.2.2 u k hk⟩⟩, fun _ e => e.elim⟩
  obtain ⟨hwaits, hparks⟩ := (a.step h).waits trivial
  exact State.WaitingLaw.of_waits hwaits hparks

end

end Sys2Proof.Machine
end

section
/-! PROOFS. The ingress buffers: what every command leaves of them (R6, R10, R11). -/

namespace Sys2Proof.Machine

open Sys2Proof

section
variable {s t x y : State} {p : Port}

/-! ### Links -/

/-- Every port's link is as it was. -/
def Links (s t : State) : Prop := ∀ p, (t.ports.get p).link = (s.ports.get p).link

namespace Links

theorem refl (s : State) : Links s s := fun _ => rfl

theorem trans (h : Links s t) (g : Links t x) : Links s x := fun p => (g p).trans (h p)

theorem quiet (h : Quiet s t) : Links s t := h.link

theorem of_ports (h : t.ports = s.ports) : Links s t := fun p => by rw [h]

theorem modPort {f : PortState → PortState} (hf : ∀ v, (f v).link = v.link) : Links s (s.modPort p f) := fun q => by
  rw [State.modPort_ports, PerPort.get_set]
  split
  · rename_i e; rw [e]; exact hf _
  · rfl

theorem reply (d : Domain) (i : Fin 4) (st : ReplyStatus) (res : List Byte) (s : State) : Links s (reply d i st res s) :=
  quiet (Quiet.reply d i st res s)

theorem badParameter (d : Domain) (m : MgmtPacket) (s : State) : Links s (badParameter d m s) := reply _ _ _ _ _

theorem tellReader (d : Domain) (s : State) : Links s (tellReader d s) := quiet (Quiet.tellReader d s)

theorem abortCommit (s : State) : Links s (abortCommit s) := by
  unfold Machine.abortCommit
  split
  · exact (of_ports (t := s.setCommit none) rfl).trans (quiet (Quiet.endCommand _ _ _ _))
  · exact refl s

theorem fromIngress {pkt : Packet} (hf : fromIngress p pkt s = some t) : Links s t := (fromIngress_some hf).1.link

theorem fetchFaults (d : Domain) (m : MgmtPacket) (n : Nat) (s : State) : Links s (fetchFaults d m n s) := by
  have hafter {x : State} (hx : x.ports = s.ports) (res : List Byte) : Links s (afterFetch d (Machine.reply d m.tag .ok res x)) := by
    refine ((of_ports hx).trans (reply d m.tag .ok res x)).trans ?_
    unfold afterFetch
    split
    · exact quiet (Quiet.setArmed _ _ _)
    · exact tellReader d _
  unfold Machine.fetchFaults
  split
  · refine hafter (x := s.setSupQ _) ?_ _
    rfl
  · refine hafter (x := s.setOwnQ _ _) ?_ _
    rfl

theorem changeMeter (n : Fin 16) (rate depth : Nat) (s : State) : Links s (changeMeter n rate depth s) :=
  ((abortCommit s).trans (of_ports (t := (Machine.abortCommit s).modMeter n (fun v => v.change s.gateTime rate depth)) rfl)).trans
    (quiet (Quiet.evalMeter n _))

theorem storePort (q : Port) (params : List Byte) (route : Option Domain) (s : State) : Links s (storePort q params route s) := by
  unfold Machine.storePort
  split
  · exact (abortCommit s).trans (modPort fun _ => rfl)
  · exact modPort fun _ => rfl

theorem defineUnit (d : Domain) (m : MgmtPacket) (s : State) : Links s (defineUnit d m s) := by
  have hstore (u : Fin 8) (v : UnitDefinition) : Links s (storeDefinition u v d m s) :=
    ((abortCommit s).trans (of_ports (t := (Machine.abortCommit s).modUnit u (fun x => x.define v)) rfl)).trans (reply _ _ _ _ _)
  unfold Machine.defineUnit
  split
  · exact badParameter _ _ s
  · split
    · split
      · split
        · exact hstore _ _
        · split
          · split
            · exact reply _ _ _ _ s
            · exact hstore _ _
          · exact badParameter _ _ s
      · exact reply _ _ _ _ s
    · exact badParameter _ _ s

theorem endValidation (s : State) : Links s (endValidation s) := by
  unfold Machine.endValidation
  split
  · exact (of_ports (t := s.setCommit none) rfl).trans (quiet (Quiet.endCommand _ _ _ _))
  · exact (of_ports (t := swapBanks s) rfl).trans (quiet (Quiet.endCommand _ _ _ _))

theorem takeUnit (u : Fin 8) (g : Holding) (d : Domain) (m : MgmtPacket) (s : State) : Links s (takeUnit u g d m s) := by
  unfold Machine.takeUnit
  split
  · exact badParameter _ _ s
  · split
    · exact reply _ _ _ _ s
    · split
      · exact reply _ _ _ _ s
      · exact quiet (Quiet.acceptHandover _ _ _ _ _ s)

theorem returnUnit (u : Fin 8) (d : Domain) (m : MgmtPacket) (s : State) : Links s (returnUnit u d m s) := by
  unfold Machine.returnUnit
  dsimp only
  split
  · exact reply _ _ _ _ s
  · exact quiet (Quiet.acceptHandover _ _ _ _ _ s)
  · split
    · exact quiet (Quiet.abortTake _ _ s)
    · exact reply _ _ _ _ s
  · exact reply _ _ _ _ s
  · exact quiet (Quiet.acceptHandover _ _ _ _ _ s)

theorem replied (d : Domain) (i : Fin 4) (st : ReplyStatus) (res : List Byte) (h : x.ports = s.ports) :
    Links s (Machine.reply d i st res x) := (of_ports h).trans (reply d i st res x)

/-- A packet leaves the head of a queue. -/
theorem headLeaves {pkt : OutPacket} (hh : Machine.headLeaves p s = some (pkt, t)) : Links s t := by
  obtain ⟨-, rest, -, rfl⟩ := headLeaves_some hh
  exact modPort fun _ => rfl

theorem pieceLeft (p : Port) (i : Fin 16) (s : State) : Links s (pieceLeft p i s) := by
  have htag (v : TagState) : Links s (setTag p i v s) := modPort fun _ => rfl
  unfold Machine.pieceLeft
  split
  · split
    · exact refl s
    · split
      · exact (htag .free).trans (quiet ((Quiet.endPiece _ _ _).trans (Quiet.finishRequest _ _)))
      · split
        · exact quiet (Quiet.setPiece _ _ s)
        · exact refl s
  · exact htag _
  all_goals exact refl s

theorem completePiece (ref : PieceRef) (r : Request) (c : Piece) (status : Byte) (payload : List Byte) (s : State) :
    Links s (completePiece ref r c status payload s) := by
  have hread : Links s (takeReadData r c payload s) := by
    unfold takeReadData
    split
    · exact quiet (Quiet.modRequest _ _ s)
    · exact refl s
  unfold Machine.completePiece
  split
  · exact hread.trans (quiet ((Quiet.endPiece _ _ _).trans (Quiet.finishRequest _ _)))
  · exact quiet ((Quiet.failPiece _ _ s).trans (Quiet.raiseFault _ _))
  all_goals exact refl s

theorem completionArrives (p : Port) (i : Fin 16) (status : Byte) (present : Bool) (code : Byte) (data : List Byte) (s : State) :
    Links s (completionArrives p i status present code data s) := by
  have hfree (s : State) : Links s (setTag p i .free s) := modPort fun _ => rfl
  unfold Machine.completionArrives
  split
  · exact refl s
  · exact hfree s
  · split
    · split
      · exact (hfree s).trans (quiet (Quiet.stepDone _ _))
      · exact (hfree s).trans (quiet (Quiet.stepFailed _ _))
    · exact quiet (Quiet.raiseFault _ s)
  · split
    · exact quiet (Quiet.raiseFault _ s)
    · split
      · exact (hfree s).trans (completePiece _ _ _ _ _ _)
      · exact quiet (Quiet.raiseFault _ s)

theorem parkRequest (u : Fin 8) (q : Arrival) (e : EntryCopy) (s : State) : Links s (parkRequest u q e s) :=
  quiet (Quiet.modUnit _ _ s)

theorem decideRequest (q : Arrival) (s : State) : Links s (decideRequest q s) := by
  have hcustody (e : EntryCopy) : Links s (decideCustody q e s) := by
    unfold decideCustody
    split
    · exact quiet (Quiet.admitRequest _ _ s)
    · split
      · exact quiet (Quiet.admitRequest _ _ s)
      · exact parkRequest _ _ _ s
      · exact quiet (Quiet.denyRequest _ _ _ _ _ s)
  unfold Machine.decideRequest
  split
  · exact quiet (Quiet.denyRequest _ _ _ _ _ s)
  · split
    · exact quiet (Quiet.denyRequest _ _ _ _ _ s)
    · split
      · exact hcustody _
      · exact quiet (Quiet.denyRequest _ _ _ _ _ s)

theorem requestArrives (d : Domain) (kind : Kind) (tag : Fin 32) (code : Byte) (addr : Addr) (payload : List Byte) (s : State) :
    Links s (requestArrives d kind tag code addr payload s) := by
  unfold Machine.requestArrives
  split
  · split
    · exact decideRequest _ s
    · exact quiet (Quiet.setFlag _ _ s)
  · exact (of_ports (t := enterTag d tag s) rfl).trans (decideRequest _ _)

theorem makeCut (u : Fin 8) (s : State) : Links s (makeCut u s) := by
  have hcut (t : State) (r : Request) : Quiet t (cutRequest t r) := (Quiet.endPieces _ _ _ t).trans (Quiet.leaveMeter _ _)
  have hpieces : Quiet s (cutPieces u s) := (Quiet.foldl hcut (requestsInFlight s u) s).trans (Quiet.modUnit u _ _)
  refine quiet (hpieces.trans ((Quiet.evalNewHeads s _).trans ?_))
  exact (Quiet.foldl (f := fun t r => finishRequest r.id t) (fun t r => Quiet.finishRequest r.id t) (requestsInFlight s u) _).trans
    ((Quiet.foldl (f := fun t r => setFlag r.dom .cut t) (fun t r => Quiet.setFlag r.dom .cut t) (requestsInFlight s u) _).trans
      (Quiet.raiseFault _ _))

theorem routeEvent (p : Port) (code : Byte) (data : List Byte) (s : State) : Links s (routeEvent p code data s) := by
  unfold Machine.routeEvent
  split
  · unfold deliverEvent
    split
    · split
      · exact quiet ((Quiet.placeOut _ _ s).trans (Quiet.modInit _ _ _))
      · exact quiet (Quiet.modInit _ _ s)
    · exact refl s
  · exact refl s

end Links

/-! ### Ports that cease to be UP -/

/-- A port that ceases to be UP has an empty ingress buffer (R11). -/
def Shut (s t : State) : Prop := ∀ p, (t.ports.get p).link ≠ .up → (s.ports.get p).link ≠ .up ∨ (t.ports.get p).ingress = []

namespace Shut

theorem of_links (h : Links s t) : Shut s t := fun p hp => .inl (h p ▸ hp)

theorem refl (s : State) : Shut s s := of_links (Links.refl s)

theorem after (h : Links s t) (g : Shut t x) : Shut s x := fun p hp => (g p hp).imp_left fun hl => h p ▸ hl

/-- After a change that adds nothing to an ingress buffer. -/
theorem trans (h : Shut s t) (g : Shut t x) (hsub : ∀ p, (x.ports.get p).ingress <:+ (t.ports.get p).ingress) : Shut s x := fun p hp => by
  rcases g p hp with hl | he
  · refine (h p hl).imp_right fun he => ?_
    have := hsub p
    rw [he] at this
    exact List.suffix_nil.mp this
  · exact .inr he

theorem resetPort {link : LinkState} (hl : link ≠ .up) (hold : Option Nat) (cutting : Option (Fin 8)) (p : Port) (s : State) :
    Shut s (resetPort p link hold cutting s) := fun q hq => by
  by_cases hqp : q = p
  · subst hqp
    rw [resetPort_port hl]
    exact .inr rfl
  · have hlink : ((Machine.resetPort p link hold cutting s).ports.get q).link = (s.ports.get q).link :=
      congrArg (fun x => x.1) (resetPort_face hl hqp)
    exact .inl (hlink ▸ hq)

theorem orphanLimit (p : Port) (cutting : Option (Fin 8)) (s : State) : Shut s (orphanLimit p cutting s) := by
  unfold Machine.orphanLimit
  split
  · exact after (.quiet (Quiet.raiseFault (portFault .orphanLimit p.byte none none 0) s)) (resetPort (by decide) _ _ _ _)
  · exact refl s

end Shut

/-- Moves add nothing to an ingress buffer. -/
theorem Moves.ingress (m : Moves true s t) (p : Port) : (t.ports.get p).ingress <:+ (s.ports.get p).ingress := by
  refine m.keep (P := fun x => (x.ports.get p).ingress <:+ (s.ports.get p).ingress) (fun x y g h => ?_) List.suffix_rfl
  cases g with
  | port q v hv =>
    rw [PerPort.get_set]
    split
    · rename_i e; subst e; exact hv.trans h
    · exact h
  | endPiece ref st _ =>
    rw [endPiece_ports]
    exact h
  | enter r _ _ =>
    rw [show (countIn r.unit r.pieces.length (x.setRequests (x.requests ++ [r]))).ports = x.ports from withNew_ports r x]
    exact h
  | init | unit | meter | supQ | ownQ | flags | score | domain | commit | setPiece | record | release => exact h

theorem Path.ingress (m : Path s t) (p : Port) : (t.ports.get p).ingress <:+ (s.ports.get p).ingress := by
  cases m with
  | moves m => exact m.ingress p
  | edit m e n =>
    refine (n.ingress p).trans (List.IsSuffix.trans ?_ (m.ingress p))
    cases e with
    | cut u =>
      exact (Moves.foldl (free := true) (fun t r => Moves.cutRequest t r) (requestsInFlight _ u) _).ingress p
    | time | pin | clone | write | startCommit | swap | define | meter | control => exact List.suffix_rfl
  | @reset a cause m =>
    have : (((resetPart cause a).ports.get p).ingress : List Packet) = [] := by cases p <;> rfl
    rw [this]
    exact List.nil_suffix

end

end Sys2Proof.Machine
end

section
/-! PROOFS. Every step keeps 8 packets to an ingress buffer, and none where the port is not UP (R6, R10, R11). -/

namespace Sys2Proof.Machine

open Sys2Proof

section
variable {s t x y : State} {p : Port}

namespace Shut

theorem takePacket {pkt : Packet} {block : State → State} (hb : ∀ x, Shut x (block x)) (s : State) : Shut s (takePacket p pkt block s) := by
  unfold Machine.takePacket
  split
  · exact refl s
  · rename_i x hf
    refine after (Links.fromIngress hf) ?_
    split
    · exact of_links (.quiet (Quiet.raiseFault _ _))
    · exact hb x

theorem takeCommand {code : Byte} {m : MgmtPacket} {permitted : Domain → Bool} {body : Domain → State → State}
    (hb : ∀ d x, Shut x (body d x)) (s : State) : Shut s (takeCommand p code m permitted body s) := by
  refine takePacket (fun x => ?_) s
  split
  · exact refl x
  · rename_i d _
    refine after (.of_ports (t := enterCommand d m.tag code x) rfl) ?_
    dsimp only
    split
    · exact hb d _
    · exact of_links (.quiet ((Quiet.raiseFault _ _).trans (Quiet.reply _ _ _ _ _)))

theorem takeQuiet {code : Byte} {m : MgmtPacket} {permitted : Domain → Bool} {body : Domain → State → State}
    (hb : ∀ d x, Links x (body d x)) (s : State) : Shut s (Machine.takeCommand p code m permitted body s) :=
  takeCommand (fun d x => of_links (hb d x)) s

theorem resetPart (cause : ResetCause) (s : State) : Shut s (resetPart cause s) := fun q _ => .inr (by cases q <;> rfl)

end Shut

/-- No port ceases to be UP. -/
def Opens (s t : State) : Prop := ∀ p, (t.ports.get p).link ≠ .up → (s.ports.get p).link ≠ .up

namespace Opens

theorem of_links (h : Links s t) : Opens s t := fun p hp => h p ▸ hp

theorem trans (h : Opens s t) (g : Opens t x) : Opens s x := fun p hp => h p (g p hp)

theorem shut (h : Opens s t) : Shut s t := fun p hp => .inl (h p hp)

theorem announceUp (d : Domain) (s : State) : Opens s (announceUp d s) := by
  refine of_links (.quiet ?_)
  have hone : Quiet s (if (s.init d).custodyNotice = .held then
      (placeOut d.port (.notice .custody) s).modInit d (fun v => { v with custodyNotice := .waiting }) else s) := by
    split
    · exact (Quiet.placeOut _ _ s).trans (Quiet.modInit _ _ _)
    · exact Quiet.refl s
  unfold Machine.announceUp
  revert hone
  generalize (if (s.init d).custodyNotice = .held then
      (placeOut d.port (.notice .custody) s).modInit d (fun v => { v with custodyNotice := .waiting }) else s) = t
  intro hone
  dsimp only
  split
  · exact hone
  · exact hone.trans (Quiet.tellReader d t)

theorem bringUp (p : Port) (s : State) : Opens s (bringUp p s) := by
  have hdue : Opens s (beginDueOn p s) :=
    of_links (.quiet (Quiet.foldl (f := fun t u => beginDue u t) (fun t u => Quiet.beginDue u t) _ s))
  have hup : Opens s ((beginDueOn p s).modPort p (fun v => { v with link := .up, established := false, hold := none })) := by
    refine hdue.trans fun q hq => ?_
    rw [State.modPort_ports, PerPort.get_set] at hq
    split at hq
    · exact absurd rfl hq
    · exact hq
  unfold Machine.bringUp
  dsimp only
  split
  · exact hup.trans (announceUp _ _)
  · exact hup

theorem linkEstablished (p : Port) (s : State) : Opens s (linkEstablished p s) := by
  unfold Machine.linkEstablished
  split
  · exact bringUp p s
  · exact of_links (Links.refl s)
  · exact of_links (.modPort fun _ => rfl)

theorem holdExpires (p : Port) (s : State) : Opens s (holdExpires p s) := by
  unfold Machine.holdExpires
  split
  · rename_i he
    split
    · exact (bringUp p s).trans (of_links (.quiet (Quiet.endCommand _ _ _ _)))
    · refine trans (fun q hq => ?_) (of_links (.quiet (Quiet.endCommand _ _ _ _)))
      rw [State.modPort_ports, PerPort.get_set] at hq
      split at hq
      · rename_i e
        subst e
        intro hup
        unfold holdOf at he
        rw [show (s.port q).link = .up from hup, if_neg (by decide)] at he
        cases he
      · exact hq
  · exact of_links (Links.refl s)

end Opens

theorem Shut.linkLost (p : Port) (s : State) : Shut s (linkLost p s) := by
  unfold Machine.linkLost
  split
  · exact Shut.refl s
  · exact Shut.resetPort (by decide) _ _ _ s
  · exact Shut.of_links (.modPort fun _ => rfl)

theorem Shut.drainDeadline {u : Fin 8} {g : Holding} (h : (s.units.get u).state = .draining g) :
    Shut s (endDrain u g (allPorts.foldl (fun x p => Machine.orphanLimit p (some u) x) (Machine.makeCut u s))) := by
  have hfold (l : List Port) : ∀ x, Shut x (l.foldl (fun x p => Machine.orphanLimit p (some u) x) x) := by
    induction l with
    | nil => exact Shut.refl
    | cons p l ih =>
      exact fun x => (Shut.orphanLimit p (some u) x).trans (ih _) fun q =>
        ((Works.foldl (f := fun x p => Machine.orphanLimit p (some u) x) (fun x p => Works.orphanLimit p (some u) x) l _).moves).ingress q
  refine Shut.after (Links.makeCut u s) ((hfold allPorts _).trans (.of_links (.quiet (Quiet.endDrain u g _))) fun q => ?_)
  have hkeep : KeepsUnit u (cutPieces u s) (allPorts.foldl (fun x p => Machine.orphanLimit p (some u) x) (makeCut u s)) :=
    (KeepsUnit.flow (Moves.afterCut u s) u).trans (KeepsUnit.foldl (fun x p => KeepsUnit.orphanLimit u p x) _ _)
  obtain ⟨hstate, -, hcount⟩ := hkeep
  rw [(cutPieces_unit u s).2] at hcount
  exact (Works.endDrain (hstate.trans ((cutPieces_unit u s).1.trans h)) (Nat.le_zero.mp hcount)).moves.ingress q

/-! ### Every command -/

theorem exec_shut {c : Instr} (hrun : exec c s = .next t) : Shut s t := by
  have hnext {x : State} (hx : Shut s x) (e : Host.Outcome.next x = (.next t : Host.Outcome State Fault Refusal)) : Shut s t := by
    obtain rfl := Host.Outcome.next.inj e
    exact hx
  have hquiet {x : State} (hx : Quiet s x) : Shut s x := Shut.of_links (.quiet hx)
  cases c with
  | powerOn => exact hnext (.resetPart _ s) hrun
  | resetLine => exact hnext (.resetPart _ s) hrun
  | linkEstablished p => exact hnext (Opens.linkEstablished p s).shut hrun
  | linkLost p => exact hnext (.linkLost p s) hrun
  | holdExpiry p => exact hnext (Opens.holdExpires p s).shut hrun
  | requestTaken p kind tag code addr payload =>
    refine hnext (.takePacket (fun x => ?_) s) hrun
    split
    · exact Shut.refl x
    · exact Shut.of_links (.requestArrives _ _ _ _ _ _ x)
  | releaseTime n =>
    refine hnext (hquiet ?_) hrun
    split
    · exact (Quiet.modMeter _ _ s).trans (Quiet.evalMeter _ _)
    · exact Quiet.refl s
  | arbiterGrant p => exact hnext (hquiet (Quiet.arbiterGrant p s)) hrun
  | pieceLeaves p =>
    refine hnext (Shut.of_links ?_) hrun
    split
    · rename_i hh; exact (Links.headLeaves hh).trans (.pieceLeft _ _ _)
    all_goals exact Links.refl s
  | completionLeaves p =>
    refine hnext (Shut.of_links ?_) hrun
    split
    · rename_i hh _; exact (Links.headLeaves hh).trans (.of_ports rfl)
    · exact Links.refl s
  | replyLeaves p =>
    refine hnext (Shut.of_links ?_) hrun
    split
    · rename_i hh _; exact (Links.headLeaves hh).trans (.of_ports rfl)
    · exact Links.refl s
  | eventLeaves p =>
    refine hnext (Shut.of_links ?_) hrun
    split
    · rename_i hh _; exact (Links.headLeaves hh).trans (.of_ports rfl)
    · exact Links.refl s
  | noticeLeaves p =>
    refine hnext (Shut.of_links ?_) hrun
    split
    · rename_i hh _; exact (Links.headLeaves hh).trans (.of_ports rfl)
    · exact Links.refl s
  | completionTaken p tag status present code payload =>
    exact hnext (.takePacket (fun x => Shut.of_links (.completionArrives _ _ _ _ _ _ x)) s) hrun
  | completionDeadline p tag =>
    refine hnext ?_ hrun
    split
    · exact Shut.refl s
    · split
      · exact Shut.after (.quiet ((Quiet.vacate _ _ s).trans ((Quiet.failPiece _ _ _).trans ((Quiet.setFlag _ _ _).trans (Quiet.raiseFault _ _)))))
          (Shut.orphanLimit _ _ _)
      · exact Shut.refl s
  | scrubStepDeadline u =>
    refine hnext ?_ hrun
    split
    · exact Shut.refl s
    · split
      · refine Shut.after (Links.trans ?_ (.quiet (Quiet.stepFailed _ _))) (Shut.orphanLimit _ _ _)
        split
        · exact Links.modPort fun _ => rfl
        · exact Links.modPort fun _ => rfl
      · exact Shut.refl s
  | drainEnd u => exact hnext (hquiet (Quiet.beginDue u s)) hrun
  | drainDeadline u =>
    refine hnext ?_ hrun
    split
    · rename_i hc
      split
      · exact Shut.drainDeadline (cutTimer_draining hc)
      · exact Shut.refl s
    · exact Shut.refl s
  | settleExpiry u =>
    refine hnext (hquiet ?_) hrun
    split
    · split
      · exact Quiet.grantUnit u _ s
      · exact Quiet.refl s
    · exact Quiet.refl s
  | eventTaken p source code gap declared payload => exact hnext (.takePacket (fun x => Shut.of_links (.routeEvent _ _ _ x)) s) hrun
  | validationEnd =>
    refine hnext (Shut.of_links ?_) hrun
    split
    · split
      · exact Links.endValidation s
      · exact Links.refl s
    · exact Links.refl s
  | unknownCommand p code m =>
    refine hnext ?_ hrun
    split
    · exact Shut.refl s
    · exact .takeQuiet (fun d x => Links.reply _ _ _ _ x) s
  | status p m =>
    refine hnext (.takeQuiet (fun d x => ?_) s) hrun
    split
    · exact Links.reply _ _ _ _ x
    · exact Links.badParameter _ _ x
  | timeRead p m =>
    refine hnext (.takeQuiet (fun d x => ?_) s) hrun
    split
    · exact Links.reply _ _ _ _ x
    · exact Links.badParameter _ _ x
  | faultFetch p m =>
    refine hnext (.takeQuiet (fun d x => ?_) s) hrun
    split
    · exact Links.fetchFaults _ _ _ x
    · exact Links.badParameter _ _ x
  | flagsTake p m =>
    refine hnext (.takeQuiet (fun d x => ?_) s) hrun
    split
    · split
      · exact (Links.of_ports (t := x.modFlags _ _) rfl).trans (Links.reply _ _ _ _ _)
      · exact Links.badParameter _ _ x
    · exact Links.badParameter _ _ x
  | scoreRead p m =>
    refine hnext (.takeQuiet (fun d x => ?_) s) hrun
    split
    · split
      · exact (Links.of_ports (t := x.modScore _ _) rfl).trans (Links.reply _ _ _ _ _)
      · exact Links.badParameter _ _ x
    · exact Links.badParameter _ _ x
  | tableClone p m =>
    refine hnext (.takeQuiet (fun d x => ?_) s) hrun
    split
    · exact (Links.abortCommit x).trans (Links.replied _ _ _ _ rfl)
    · exact Links.badParameter _ _ x
  | entryWrite p m =>
    refine hnext (.takeQuiet (fun d x => ?_) s) hrun
    split
    · split
      · exact Links.badParameter _ _ x
      · split
        · exact Links.badParameter _ _ x
        · exact (Links.abortCommit x).trans (Links.replied _ _ _ _ rfl)
    · exact Links.badParameter _ _ x
  | entryRead p m =>
    refine hnext (.takeQuiet (fun d x => ?_) s) hrun
    split
    · split
      · exact Links.reply _ _ _ _ x
      · exact Links.badParameter _ _ x
    · exact Links.badParameter _ _ x
  | tableCommit p m =>
    refine hnext (.takeQuiet (fun d x => ?_) s) hrun
    split
    · split
      · exact Links.reply _ _ _ _ x
      · exact Links.of_ports rfl
    · exact Links.badParameter _ _ x
  | entryPin p m =>
    refine hnext (.takeQuiet (fun d x => ?_) s) hrun
    split
    · split
      · exact Links.badParameter _ _ x
      · split
        · exact Links.reply _ _ _ _ x
        · exact Links.replied _ _ _ _ rfl
    · exact Links.badParameter _ _ x
  | unitDefine p m => exact hnext (.takeQuiet (fun d x => Links.defineUnit d m x) s) hrun
  | custodyTake p m =>
    refine hnext (.takeQuiet (fun d x => ?_) s) hrun
    split
    · split
      · exact Links.takeUnit _ _ _ _ x
      · exact Links.badParameter _ _ x
    · exact Links.badParameter _ _ x
  | custodyReturn p m =>
    refine hnext (.takeQuiet (fun d x => ?_) s) hrun
    split
    · split
      · exact Links.returnUnit _ _ _ x
      · exact Links.badParameter _ _ x
    · exact Links.badParameter _ _ x
  | unitRead p m =>
    refine hnext (.takeQuiet (fun d x => ?_) s) hrun
    split
    · split
      · exact Links.reply _ _ _ _ x
      · exact Links.badParameter _ _ x
    · exact Links.badParameter _ _ x
  | meterSet p m =>
    refine hnext (.takeQuiet (fun d x => ?_) s) hrun
    split
    · split
      · exact Links.badParameter _ _ x
      · split
        · exact Links.reply _ _ _ _ x
        · exact (Links.changeMeter _ _ _ x).trans (Links.reply _ _ _ _ _)
    · exact Links.badParameter _ _ x
  | meterRead p m =>
    refine hnext (.takeQuiet (fun d x => ?_) s) hrun
    split
    · split
      · exact Links.reply _ _ _ _ x
      · exact Links.badParameter _ _ x
    · exact Links.badParameter _ _ x
  | faultControl p m =>
    refine hnext (.takeQuiet (fun d x => ?_) s) hrun
    split
    · split
      · exact Links.reply _ _ _ _ x
      · exact Links.badParameter _ _ x
    · split
      · exact Links.replied _ _ _ _ rfl
      · exact Links.badParameter _ _ x
    · exact Links.badParameter _ _ x
  | scoreControl p m =>
    refine hnext (.takeQuiet (fun d x => ?_) s) hrun
    split
    · split
      · exact Links.replied _ _ _ _ rfl
      · exact Links.badParameter _ _ x
    · exact Links.badParameter _ _ x
  | pardon p m =>
    refine hnext (.takeQuiet (fun d x => ?_) s) hrun
    split
    · split
      · exact Links.replied _ _ _ _ rfl
      · exact Links.badParameter _ _ x
    · exact Links.badParameter _ _ x
  | quarantine p m =>
    refine hnext (.takeQuiet (fun d x => ?_) s) hrun
    split
    · split
      · exact Links.replied _ _ _ _ rfl
      · exact Links.badParameter _ _ x
    · exact Links.badParameter _ _ x
  | domainSet p m =>
    refine hnext (.takeQuiet (fun d x => ?_) s) hrun
    split
    · split
      · exact Links.replied _ _ _ _ rfl
      · exact Links.badParameter _ _ x
    · exact Links.badParameter _ _ x
  | portSet p m =>
    refine hnext (.takeQuiet (fun d x => ?_) s) hrun
    split
    · split
      · exact Links.badParameter _ _ x
      · split
        · exact Links.badParameter _ _ x
        · exact (Links.storePort _ _ _ x).trans (Links.reply _ _ _ _ _)
    · exact Links.badParameter _ _ x
  | portReset p m =>
    refine hnext (.takeCommand (fun d x => ?_) s) hrun
    split
    · split
      · exact .of_links (Links.badParameter _ _ x)
      · split
        · exact .of_links (Links.badParameter _ _ x)
        · split
          · exact .of_links (Links.reply _ _ _ _ x)
          · exact Shut.after (.quiet (Quiet.carryCommand _ _ _ x)) (Shut.resetPort (by decide) _ _ _ _)
    · exact .of_links (Links.badParameter _ _ x)
  | gateReset p m =>
    refine hnext (.takeCommand (fun d x => ?_) s) hrun
    split
    · exact .resetPart _ x
    · exact .of_links (Links.badParameter _ _ x)
  | malformedPacketTaken p pkt =>
    refine hnext ?_ hrun
    split
    · exact .takePacket Shut.refl s
    · exact Shut.refl s
  | gateTimeLargestValue =>
    refine hnext (Shut.of_links ?_) hrun
    split
    · exact Links.of_ports rfl
    · exact Links.refl s

/-! ### The law -/

theorem State.IngressLaw.exec {c : Instr} (hs : s.IngressLaw) (hrun : exec c s = .next t) : t.IngressLaw := fun p => by
  obtain ⟨t', ht', hpath⟩ := exec_path c s
  obtain rfl : t' = t := Host.Outcome.next.inj (ht'.symm.trans hrun)
  have hsub := hpath.ingress p
  refine ⟨hsub.length_le.trans (hs p).1, fun hdown => ?_⟩
  rcases exec_shut hrun p hdown with hwas | hempty
  · rw [(hs p).2 hwas] at hsub
    exact List.suffix_nil.mp hsub
  · exact hempty

theorem State.IngressLaw.arrive (hs : s.IngressLaw) (p : Port) : (arrive p s).IngressLaw := fun q => by
  rcases arrive_cases p s with e | ⟨pkt, rest, hcan, -, e⟩
  · rw [e]; exact hs q
  · obtain ⟨hup, hfew, -⟩ := canArrive_iff.mp hcan
    rw [e]
    dsimp only
    rw [PerPort.get_set]
    split
    · refine ⟨?_, fun hdown => absurd hup hdown⟩
      rw [List.length_append]
      exact hfew
    · exact hs q

theorem ingressLaw_step (h : step s = .next t) (hs : s.IngressLaw) : t.IngressLaw := by
  unfold step at h
  split at h
  · unfold idle at h
    split at h
    · rw [← Host.Outcome.next.inj h]
      exact hs.arrive _
    · exact hs.exec h
    · rw [← Host.Outcome.next.inj h]
      exact hs
  · rename_i l _
    exact State.IngressLaw.exec (s := { s with pending := l }) hs h

end

end Sys2Proof.Machine
end

section
/-! PROOFS. The laws of the outbound queues as accounts (R4, R9, R114, R158), and what an initiator port keeps at every step. -/

namespace Sys2Proof.Machine

open Sys2Proof

section
variable {s t : State} {p : Port}

/-! ### Tags that are owed, counted -/

theorem count_filterMap_filter {α : Type} (f : α → Option (Fin 32)) (g : α → Bool) (x : Fin 32) (l : List α) :
    ((l.filter g).filterMap f).count x = (l.map (fun a => if g a = true ∧ f a = some x then 1 else 0)).sum := by
  induction l with
  | nil => rfl
  | cons a l ih =>
    rw [List.map_cons, List.sum_cons, ← ih]
    by_cases hg : g a = true
    · rw [List.filter_cons_of_pos hg, List.filterMap_cons]
      cases hf : f a with
      | none => simp
      | some y => simp [List.count_cons, hg, Nat.add_comm]
    · simp [List.filter_cons_of_neg hg, hg]

theorem sum_flatMap_toList {α β : Type} {n : Nat} (v : Vector α n) (f : α → List β) (w : β → Nat) :
    ((v.toList.flatMap f).map w).sum = ∑ i : Fin n, ((f (v.get i)).map w).sum := by
  have hlist : v.toList = (List.finRange n).map v.get := by
    refine List.ext_getElem (by simp) fun i h h' => ?_
    simp [Vector.get]
  rw [hlist, List.map_flatMap, List.flatMap_map, Fin.sum_univ_def]
  induction List.finRange n with
  | nil => rfl
  | cons i l ih => rw [List.flatMap_cons, List.sum_append, ih, List.map_cons, List.sum_cons]

/-- How often a tag is owed an answer, in records, parked requests and COMPLETIONs that wait. -/
theorem State.count_tagsOwed (s : State) (d : Domain) (x : Fin 32) :
    (s.tagsOwed d).count x = s.owed d x + (completionTags (s.ports.get d.port).outbound).count x := by
  have hrequests : owedRequests s.requests d x =
      ((s.requests.filter (fun r => decide (r.dom = d) && !r.abandoned)).filterMap (fun r => r.tag)).count x := by
    rw [count_filterMap_filter]
    refine congrArg List.sum (List.map_congr_left fun r _ => ?_)
    unfold Request.owes owes
    cases r.abandoned <;> simp
  have hparked : ∑ u : Fin 8, owedParked (s.units.get u).parked d x =
      (((s.units.toList.flatMap (fun v => v.parked)).filter (fun k => decide (k.req.dom = d))).filterMap (fun k => k.req.tag)).count x := by
    rw [count_filterMap_filter, sum_flatMap_toList]
    refine Finset.sum_congr rfl fun u _ => congrArg List.sum (List.map_congr_left fun k _ => ?_)
    simp [Parked.owes, owes]
  unfold State.tagsOwed State.owed
  rw [List.count_append, List.count_append, hrequests, hparked]

/-- No element twice and all of them in a list: each is there once at most, and not at all where the list does not hold it. -/
theorem nodup_subset_iff_count {α : Type} [DecidableEq α] {l m : List α} :
    (l.Nodup ∧ ∀ a ∈ l, a ∈ m) ↔ ∀ a, l.count a ≤ if a ∈ m then 1 else 0 := by
  rw [List.nodup_iff_count_le_one]
  refine ⟨fun ⟨hone, hsub⟩ a => ?_, fun h => ⟨fun a => (h a).trans (by split <;> decide), fun a ha => ?_⟩⟩
  · split
    · exact hone a
    · rename_i hno
      exact (List.count_eq_zero.mpr fun ha => hno (hsub a ha)).le
  · by_contra hno
    have := h a
    rw [if_neg hno] at this
    exact absurd (List.count_pos_iff.mpr ha) (by omega)

/-! ### The law of the outbound queues as accounts -/

theorem State.OutboundLaw.outAt (hs : s.OutboundLaw) (htag : s.TagLaw) (p : Port) : s.OutAt .empty p := by
  obtain ⟨hdown, honly, hinit⟩ := hs
  refine ⟨hdown p, honly p, fun d hd => ?_⟩
  subst hd
  obtain ⟨hevents, hfault, hcustody, hnodup, hreplies, howed⟩ := hinit d
  refine ⟨hevents, hfault, hcustody, hnodup, hreplies, (htag d).2, (fun _ e => nomatch e), fun x => ?_⟩
  have := nodup_subset_iff_count.mp howed x
  rw [s.count_tagsOwed] at this
  exact (Nat.zero_add _).symm ▸ this

theorem State.OutboundLaw.of_outAt (h : ∀ p, s.OutAt .empty p) : s.OutboundLaw := by
  refine ⟨fun p => (h p).down, fun p => (h p).only, fun d => ?_⟩
  have hsaid := (h d.port).said d rfl
  refine ⟨hsaid.events, hsaid.fault, hsaid.custody, hsaid.nodup, hsaid.replies, nodup_subset_iff_count.mpr fun x => ?_⟩
  rw [s.count_tagsOwed]
  have := hsaid.tags x
  rwa [show (Hand.empty).tags d x + s.owed d x = s.owed d x from Nat.zero_add _] at this

/-! ### The places of an outbound queue (R9) -/

/-- A queue holds pieces and steps, COMPLETIONs, replies, events and gate events. -/
theorem length_outbound (l : List OutPacket) : l.length =
    (requestTags l).length + (completionTags l).length + (replyTags l).length + eventsIn l + (noticesIn .fault l + noticesIn .custody l) := by
  induction l with
  | nil => rfl
  | cons pkt l ih =>
    unfold requestTags completionTags replyTags eventsIn noticesIn at ih ⊢
    cases pkt with
    | notice k => cases k <;> simp [ih] <;> omega
    | request | completion | reply | event => simp [ih]; omega

theorem State.Tables.requests_le (a : s.Tables) (p : Port) : (requestTags (s.ports.get p).outbound).length ≤ 16 := by
  simpa using (a.outNodup p).length_le_card

theorem State.PlacesLaw.of_accounts (htable : s.Tables) (hout : s.OutboundLaw) (hevent : s.EventLaw) : s.PlacesLaw := by
  obtain ⟨-, honly, hinit⟩ := hout
  have hkinds (d : Domain) : eventsIn (s.ports.get d.port).outbound ≤ 8 ∧
      noticesIn .fault (s.ports.get d.port).outbound + noticesIn .custody (s.ports.get d.port).outbound ≤ 2 := by
    obtain ⟨hevents, hfault, hcustody, -⟩ := hinit d
    refine ⟨hevents.trans_le (hevent d), ?_⟩
    rw [hfault, hcustody]
    split <;> split <;> decide
  have hperipheral {p : Port} (hp : p.domain = none) : (s.ports.get p).outbound.length ≤ 16 := by
    have hall : ∀ l : List OutPacket, (∀ pkt ∈ l, ∃ t kind a n y, pkt = .request t kind a n y) → l.length = (requestTags l).length := by
      intro l
      induction l with
      | nil => exact fun _ => rfl
      | cons pkt l ih =>
        intro h
        obtain ⟨t, kind, a, n, y, rfl⟩ := h pkt List.mem_cons_self
        exact congrArg (· + 1) (ih fun q hq => h q (List.mem_cons_of_mem _ hq))
    rw [hall _ (honly p hp)]
    exact htable.requests_le p
  refine ⟨fun p => ⟨?_, hperipheral⟩, hkinds⟩
  cases hp : p.domain with
  | none => exact (hperipheral hp).trans (by decide)
  | some d =>
    obtain rfl := Port.domain_eq_some.mp hp
    obtain ⟨hevents, hnotices⟩ := hkinds d
    obtain ⟨-, -, -, hreplies, -, howed, -⟩ := hinit d
    have hrequests := htable.requests_le d.port
    have hreply : (replyTags (s.ports.get d.port).outbound).length ≤ 4 := by simpa using hreplies.length_le_card
    have hcompletion : (completionTags (s.ports.get d.port).outbound).length ≤ 32 := by
      have hn : (completionTags (s.ports.get d.port).outbound).Nodup := (List.nodup_append.mp howed).2.1
      simpa using hn.length_le_card
    have := length_outbound (s.ports.get d.port).outbound
    omega

/-! ### The obligation -/

/-- Settles O15: events and tags are followed move by move; an ingress buffer grows by arrival alone and is emptied where its port ceases to
be UP; the target ports and the outbound queues are accounts that every command keeps, and the places of a queue are counted from them. -/
theorem everyStepKeepsInitiatorLaw : Obligations.EveryStepKeepsInitiatorLaw := by
  unfold Obligations.EveryStepKeepsInitiatorLaw
  refine fun s t h => ⟨initiatorLaws_step h, ingressLaw_step h, ?_⟩
  rintro ⟨hevent, htag, hcount, htarget, hout⟩
  have a : Accounts False (fun _ => True) .empty s :=
    ⟨hcount, State.targetLaw_iff.mp htarget, False.elim, fun p _ => hout.outAt htag p⟩
  have hstep := a.step h
  have hlaw : t.OutboundLaw := .of_outAt fun p => hstep.out p True.intro
  exact ⟨State.targetLaw_iff.mpr hstep.tables, hlaw, .of_accounts hstep.tables hlaw (initiatorLaws_step h ⟨hevent, htag⟩).1⟩

end

end Sys2Proof.Machine
end
